-- ==== Sys2Proof/Word.lean ====
section
/-! DEFINITION. The word types of the model: bytes, byte strings, and the Nat form in which object values and wire
fields are computed. Bit fields are read from a Nat by `bitsOf`; a byte string is a list of bytes, first byte first. -/

namespace Sys2Proof

/-- One byte of a frame, a record or a memory cell. -/
abbrev Byte := BitVec 8

/-- A string of bytes, lowest offset (first on the wire) first. -/
abbrev Bytes := List Byte

/-- Field [lo + n - 1 : lo] of a number (bit ranges as R4 writes them). -/
abbrev bitsOf (v lo n : Nat) : Nat := (v / 2 ^ lo) % 2 ^ n

/-- Bit i of a number. -/
abbrev bitOf (v i : Nat) : Bool := (v / 2 ^ i) % 2 == 1

end Sys2Proof
end

