-- ==== Sys2Proof/Types.lean ====
section
/-! DEFINITION. What the operands of the commands are made of: records of what reaches the block from outside (a
received message, a frame's headers, a measured condition) where the spec leaves the wire format to another standard. -/

namespace Sys2Proof

/-- How a PTP message travelled (Table 3.4). -/
inductive PtpTransport where
  | ether      -- Ethernet 0x88F7 to one of the two addresses of Table 3.4
  | udp4mc     -- UDP/IPv4 to 224.0.1.129
  | udpuc      -- UDP/IPv4 or IPv6 unicast, ports 319 and 320
  | other
  deriving DecidableEq, Repr

/-- The kinds of PTP message that the time unit tells apart. -/
inductive PtpKind where
  | announce | sync | followUp | delayResp | signaling | management
  | esmc       -- SyncE ESMC, EtherType 0x8809 subtype 0x0A
  | other
  deriving DecidableEq, Repr

/-- A received PTP message, as its fields of IEEE 1588. Times are in 2^-16 ns since the TAI epoch, the correction in
2^-16 ns, intervals as log2 seconds. -/
structure PtpMsg where
  port : Fin 20
  transport : PtpTransport
  vlan : Nat                -- 0xFFFF untagged
  srcAddr : Nat             -- OCTETS(16) form of the sender's IP address; 0 for Ethernet
  kind : PtpKind
  domain : Nat
  source : Nat              -- sourcePortIdentity, OCTETS(10) form
  seqId : Nat
  twoStep : Bool            -- Sync only
  logInterval : Int
  correction : Int
  stamp : Nat               -- originTimestamp, preciseOriginTimestamp or receiveTimestamp
  toUs : Bool               -- Delay_Resp: requestingPortIdentity names this port
  utcOffset : Int           -- Announce
  utcValid : Bool
  leap61 : Bool
  leap59 : Bool
  priority1 : Nat
  clockClass : Nat
  accuracy : Nat
  variance : Nat
  priority2 : Nat
  grandmaster : Nat
  stepsRemoved : Nat
  grantOf : PtpKind         -- Signaling: the message type granted
  bytes : Bytes             -- the frame as received (used where it goes to the punt path)
  deriving DecidableEq, Repr

/-- A header extension element (RFC 8285): its ID, its data, and the packet offset at which its data ends. -/
structure Ext where
  id : Nat
  data : Bytes
  endsAt : Nat
  deriving DecidableEq, Repr

/-- What an AV1 dependency descriptor element says of its frame, once read by the AV1 RTP specification: the template
structure it uses and, if it carries one, announces; layer, frame number, start and end, frame differences, whether it
is a key frame, and the layer ids whose decode target's indication is Switch. -/
structure DdInfo where
  structureId : Nat
  carries : Bool
  s : Nat
  t : Nat
  frameNumber : Nat
  start : Bool
  last : Bool
  fdiffs : List Nat
  key : Bool
  switchFor : List Nat
  deriving DecidableEq, Repr

/-- What the payload's NAL headers say: temporal id; IRAP (HEVC) or IDR (AVC) picture; TSA or STSA picture. -/
structure NalInfo where
  tid : Nat
  irap : Bool
  tsa : Bool
  deriving DecidableEq, Repr

/-- An SRTP packet: its bytes (header, ciphered payload, tag), and what the payload and the dependency descriptor say by the
standards of their codecs. The payload's own content counts only once the tag has verified. -/
structure RtpPkt where
  bytes : Bytes
  dd : Option DdInfo
  nal : NalInfo
  width : Nat               -- video: luma size of the layer where the packet starts a key picture; 0 not stated
  height : Nat
  cn : Bool                 -- audio: a DTX, SID or comfort noise packet
  voice : Bool              -- audio: RFC 6464 V flag as carried (kept for the record)
  deriving DecidableEq, Repr

/-- One sequence number of an RFC 8888 report. -/
structure CcReport where
  ssrc : Nat
  seq : Nat
  received : Bool
  ce : Bool
  deriving DecidableEq, Repr

/-- A report block. -/
structure RrBlock where
  ssrc : Nat
  fraction : Nat
  cumulative : Nat
  highest : Nat
  jitter : Nat
  lsr : Nat
  dlsr : Nat
  deriving DecidableEq, Repr

/-- One part of a compound RTCP packet (Table 5.3), received or sent. -/
inductive Rtcp where
  | sr (ssrc ntp rtp pkts octets : Nat) (blocks : List RrBlock)
  | rr (ssrc : Nat) (blocks : List RrBlock)
  | sdes (ssrc cname : Nat)
  | bye (ssrc : Nat)
  | nack (sender media : Nat) (seqs : List Nat)
  | pli (sender media : Nat)
  | fir (sender media fseq : Nat)
  | tmmbr (entries : List (Nat × Nat × Nat))   -- media SSRC, bit rate in b/s, overhead
  | tmmbn (entries : List (Nat × Nat × Nat))
  | ccfb (reports : List CcReport)
  | other
  deriving DecidableEq, Repr

/-- An SRTCP packet: its bytes, from the first RTCP header to the end of tag or index. -/
structure RtcpPkt where
  bytes : Bytes
  deriving DecidableEq, Repr

/-- The UDP payload: its first two bytes, and the SRTP or SRTCP packet where they announce one. -/
structure UdpPayload where
  b0 : Nat
  b1 : Nat
  rtp : Option RtpPkt
  rtcp : Option RtcpPkt
  deriving DecidableEq, Repr

/-- What a frame carries above Ethernet. -/
inductive L3 where
  | udp (v6 : Bool) (src dst : Nat) (sport dport dscp ipLen : Nat) (payload : UdpPayload)
  | fragment (dport : Option Nat)
  | options (dport : Option Nat)
  | other
  | ptp                     -- PTP event or general message
  | ptpManagement
  | esmc
  deriving DecidableEq, Repr

/-- A frame arriving on logical port 0 to 15 or Fret port 16 + f, as what the MAC and the parser see of it. -/
structure Frame where
  port : Fin 18
  length : Nat              -- destination address through FCS
  aborted : Bool            -- the MAC aborts it before storing its first word
  pause : Bool              -- PAUSE or priority flow control
  fcsOk : Bool
  upset : List (Nat × List Nat) := []   -- its FIFO words that are disturbed before they are read, each once, with the bits flipped
  descParity : Bool := false   -- its FIFO descriptor has a parity error
  storeParity : Bool        -- parity error on the packet store before commit
  cacheFault : Bool         -- parity error on a cached context record holding state not yet written back
  damaged : List Nat := []  -- contexts whose record in HBM has been damaged before this packet: its integrity tag fails on the next read
  toLocal : Bool            -- destination is the Fret port's LOCAL_MAC
  etype : Nat
  vids : List Nat           -- VLAN tags, outermost first
  l3 : L3
  raw : Bytes               -- destination address up to, not including, the FCS
  deriving DecidableEq, Repr

/-- What a ready picture's headers say (chapter 13): random access point, parameter sets or sequence header carried,
headers that parse, a feature that no row of Table 13.1 has; the profile (in the order of its row; beyond them another), ten
times the level, the chroma format (0 4:0:0, 1 4:2:0), the reference slots it predicts from, is kept in and empties, the length
of the recovery period of a recovery point and its own place in the count of such periods, its size, the luma samples of its
decoded layers, bit depth, and its split units: the CTUs or macroblocks of each in raster order, and whether they are wavefront
rows. -/
structure PicInfo where
  rap : Bool
  params : Bool
  headersOk : Bool
  odd : Bool
  profile : Nat
  level : Nat
  chroma : Nat
  refs : List Nat
  stores : List Nat
  clears : List Nat
  recovery : Option Nat
  order : Nat
  width : Nat
  height : Nat
  luma : Nat
  depth : Nat
  units : List Nat
  wave : Bool
  deriving DecidableEq, Repr

/-- What decoding a picture found: the areas concealed (x, y, width, height), colour codes of H.273, and static HDR metadata: the
mastering display colour volume (x and y of red, green, blue and white in 0.00002, maximum and minimum luminance in
0.0001 cd/m²; empty where absent) and the content light level (MaxCLL and MaxFALL in cd/m²; empty where absent). -/
structure PicResult where
  conceal : List (Nat × Nat × Nat × Nat)
  primaries : Nat
  transfer : Nat
  colours : Nat            -- matrix_coefficients
  fullRange : Bool
  mdcv : List Nat
  cll : List Nat
  deriving DecidableEq, Repr

/-- A memory access of a codec core: n bytes read from an address, or bytes written to it. -/
structure CoreAccess where
  write : Bool
  addr : Nat
  n : Nat
  data : Bytes
  deriving DecidableEq, Repr

/-- What training finds on a pseudo-channel (Table 16.4): restored settings verify; full training finds a setting within
3 attempts; the spare lanes then in use; the settings differ from the last-good record. -/
structure PcTrain where
  verifies : Bool := true
  found : Bool := true
  spares : Nat := 0
  changed : Bool := false
  deriving DecidableEq, Repr

/-- What a stack says over its IEEE 1500 port, and whether the last-good record matches its DEVICE_ID. -/
structure StackRead where
  temp : Int := 0
  deviceId : Nat := 0
  raaimt : Nat := 0
  raammt : Nat := 0
  lastGood : Bool := true
  deriving DecidableEq, Repr

/-- A training (R365): pseudo-channels 0 to 63 and stacks 0 to 1, absent entries as the defaults; ms to step 5 and of the
wipe. -/
structure Training where
  pcs : List PcTrain := []
  stackReads : List StackRead := []
  trainMs : Nat := 0
  wipeMs : Nat := 0
  deriving DecidableEq, Repr

/-- Errors that a read of HBM meets: a granule, its corrected words, and which of its 32 words do not correct. -/
structure ReadErr where
  granule : Nat
  corrected : Nat
  bad : List Nat
  deriving DecidableEq, Repr

/-- A write of an object as a host states it: index, element, subindex, value (OCTETS in little-endian order of their
bytes), and the bytes of a BLOB. -/
structure ObjWrite where
  index : Nat
  element : Nat
  sub : Nat
  value : Nat
  blob : Bytes := []
  deriving DecidableEq, Repr

/-- A firmware image slot as the boot ROM finds it (R428, R429): its 256-byte header, whether SIG verifies, and whether both digests
hold when it is loaded. -/
structure ImageX where
  header : Bytes := [0x42, 0x58, 0x4E, 0x46, 1] ++ List.replicate 13 0 ++ [0x10] ++ List.replicate 237 0
  sigOk : Bool := true
  digestOk : Bool := true
  deriving DecidableEq, Repr

/-- An uncorrectable word met in MRAM (Table 20.1): its region by the row order of Table 19.13, its word offset, and in
the key region the KEK slot, in the life and user regions the object, that it belongs to. -/
structure MramErr where
  region : Nat
  offset : Nat
  index : Nat := 0
  element : Nat := 0
  sub : Nat := 0
  deriving DecidableEq, Repr

/-- What a reset or a wake finds outside and in its units: the two image slots, the training, units that fail self-test
(kind 0 DSP core, 1 decode core, 2 encode core, 3 compositor, 4 cluster), the factory region's digest, uncorrectable
MRAM words, the level of PROV_EN at the release of PORST_N, and whether SAFETY_N was low during it. -/
structure Boot where
  a : ImageX := {}
  b : ImageX := {}
  training : Training := {}
  failed : List (Nat × Nat) := []
  factoryOk : Bool := true
  mram : List MramErr := []
  provEn : Bool := false
  safetyLow : Bool := false
  deriving DecidableEq, Repr

/-- What the surroundings give a write that asks for it: a reset, a training, a margin scan's result, host memory that a
DMA channel reads, a slave port's frame count, the level of SAFETY_N (high true). -/
structure Aux where
  boot : Boot := {}
  training : Training := {}
  scan : Option Nat := none
  host : Bytes := []
  frame : Nat := 0
  high : Bool := true
  deriving DecidableEq, Repr

/-- A bit clock at the pins of a serial audio port: its time on the local clock in 2^-16 ns, and DIN and FS at its rising and at
its falling edge. -/
structure PinBit where
  at_ : Nat := 0
  din : Bool × Bool := (false, false)
  fs : Bool × Bool := (false, false)
  deriving DecidableEq, Repr

/-- A frame at the pins of an AES3 input: its start on the local clock in 2^-16 ns, whether its first preamble is Z, its time
slots up to the next frame's preamble, and time slots 4 to 31 of subframes A and B. -/
structure AesFrame where
  at_ : Nat := 0
  z : Bool := false
  slots : Nat := 64
  a : Nat := 0
  b : Nat := 0
  deriving DecidableEq, Repr

/-- A frame as an audio port has taken it from its pins: its start on the local clock in 2^-16 ns, the bit clocks by which its
length is off, DIN at each bit clock from the frame start on, and of an AES3 input its Z preamble and subframes. -/
structure PinFrame where
  start : Nat := 0
  off : Int := 0
  din : List (Bool × Bool) := []
  z : Bool := false
  a : Nat := 0
  b : Nat := 0
  deriving DecidableEq, Repr

/-- A UDP datagram on MG0 or MG1: addresses in OCTETS(16) form, ports, VLAN (0xFFFF untagged), payload. -/
structure Datagram where
  mg : Fin 2
  src : Nat
  sport : Nat
  dst : Nat
  dport : Nat
  vlan : Nat
  bytes : Bytes
  deriving DecidableEq, Repr

/-- Where a REQUEST comes from: the REQ ring of a physical function, or an MG port. -/
inductive ReqFrom where
  | pcie (h : Nat)
  | mg (d : Datagram)
  deriving DecidableEq, Repr

end Sys2Proof
end

