-- ==== Sys2Proof/Syntax.lean ====
section
/-! DEFINITION. The commands of the block: one constructor per row of spec/opcode_table.json, in the table's order.
A command is one transaction-level step of the part, whole and indivisible. Its operands are what the outside gives
it: who sends it and to which element, the bytes of a frame, or what the block measures of its environment. -/

namespace Sys2Proof

/-- The commands (R390 to R474; each docstring names the row and the rule that governs it). -/
inductive Instr where
  /-- HELLO (R398): A host's clear HELLO frame on MG0 or MG1 is checked and, if accepted, starts a PENDING session, derives its keys and sends a CHALLENGE. -/
  | hello (datagram : Datagram)
  /-- REQUEST (R403): A REQUEST frame, from a UDP session or a PCIe REQ ring, is authenticated, accepted in arrival order and answered by a RESPONSE. -/
  | request (from_ : ReqFrom) (aux : Aux)
  /-- OBJECT_WRITE (R406): A write to an object that has no row of its own is applied at its transaction's commit point and acts as its chapter states. -/
  | objectWrite (h : Nat) (w : ObjWrite) (aux : Aux)
  /-- DEFERRED_TXN_APPLY (R407): At a deferred commit point, the transaction is checked again and conference charges are recomputed; it is then applied or dropped, and XARAS_TXN_APPLIED is raised. -/
  | deferredTxnApply (aux : Aux)
  /-- LOCK_WAIT_TIMEOUT (R405): A transaction waiting 1 ms for a lock held by an unapplied immediate transaction fails that operation with E_BUSY. -/
  | lockWaitTimeout (aux : Aux)
  /-- ABORT (R407): A write of ABORT removes a pending transaction and releases its locks and reservations, or fails with E_STATE. -/
  | abort (h slot reqId : Nat)
  /-- SESSION_CLOSE_OBJECT (R398): A write of CLOSE to 0x1120[h].11 closes the slot's sessions with CLOSE reason 5. -/
  | sessionCloseObject (h slot : Nat)
  /-- HOST_CLOSE_FRAME (R398): A CLOSE frame from the host ends its OPEN session. -/
  | hostCloseFrame (datagram : Datagram)
  /-- SESSION_TIMEOUT (R398): An OPEN session without a valid frame for SESSION_TIMEOUT is closed with CLOSE reason 2. -/
  | sessionTimeout (slot : Fin 8)
  /-- PENDING_SESSION_EXPIRY (R398): A session still PENDING 2 s after its HELLO is dropped. -/
  | pendingSessionExpiry (slot : Fin 8)
  /-- PCIE_DOORBELL (R396): A host write of TAIL on REQ ring 0 makes the device read the new REQUEST frames in ring order. -/
  | pcieDoorbell (h tail : Nat) (bytes : Bytes)
  /-- EVENT_DELIVERY (R411): Event records for a slot are delivered on the EVT ring, or in EVENT frames within 1 ms, or are counted in EV_LOST. -/
  | eventDelivery (slot : Fin 8)
  /-- EV_REC_READ (R412): A read of EV_REC returns the next record for the slot at or after EV_SEL and advances EV_SEL. -/
  | evRecRead (h : Fin 8)
  /-- BULK_WINDOW_READ (R397): A PCIe read of BAR2 returns HBM data within the slot's grant, or zeros counted in WIN_FAULT. -/
  | bulkWindowRead (h : Fin 8) (address length : Nat) (errs : List ReadErr)
  /-- BULK_WINDOW_WRITE (R397): A PCIe write of BAR2 stores data within the slot's grant, or is dropped and counted in WIN_FAULT. -/
  | bulkWindowWrite (h : Fin 8) (address : Nat) (bytes : Bytes)
  /-- PSTATE_REQ_ACTIVE (R415): PSTATE_REQ = 0 takes the stacks out of self-refresh and moves the device from IDLE to ACTIVE. -/
  | pstateReqActive (h : Nat)
  /-- PSTATE_REQ_IDLE (R416): PSTATE_REQ = 1 powers down the fast domains, drains the ports and puts the stacks in self-refresh, or fails under Table 19.2. -/
  | pstateReqIdle (h : Nat)
  /-- PSTATE_REQ_STANDBY (R416): PSTATE_REQ = 2 enters STANDBY, with life counters written, sessions closed and the clock handed to the RTC, or fails under Table 19.2. -/
  | pstateReqStandby (h : Nat)
  /-- IDLE_HBM_ACCESS (R417): An access in IDLE that reaches HBM takes the stacks out of self-refresh for that access. -/
  | idleHbmAccess
  /-- SELF_REFRESH_RETURN (R417): After 1 ms in IDLE without an HBM access, the stacks return to self-refresh. -/
  | selfRefreshReturn
  /-- WAKE_AT_EXPIRY (R418): The RTC reaching WAKE_AT wakes the device from STANDBY. -/
  | wakeAtExpiry (boot : Boot)
  /-- TIN0_WAKE (R418): A rising edge on TIN0 wakes the device from STANDBY. -/
  | tin0Wake (highNs : Nat) (boot : Boot)
  /-- MG0_WAKE_FRAME (R418): A matching wake frame on MG0 wakes the device from STANDBY. -/
  | mg0WakeFrame (dst : Nat) (payload : Bytes) (boot : Boot)
  /-- DOMAIN_WAKE (R420): Demand on an OFF domain closes its switch, starts its PLL and brings it to ON within 50 µs. -/
  | domainWake (part : Nat)
  /-- DOMAIN_POWER_DOWN (R422): A domain whose power-down condition holds moves to DRAINING and pauses transfers at their descriptor boundaries. -/
  | domainPowerDown (part : Nat)
  /-- DOMAIN_DRAINED (R420): Once every transfer is paused, the domain sets isolation, stops its clock and goes OFF. -/
  | domainDrained (part : Nat)
  /-- CLUSTER_CLOCK_GATE (R37): After 10 ms without work, a DSP cluster is clock-gated. -/
  | clusterClockGate (cluster : Fin 8)
  /-- CLUSTER_POWER_GATE (R37): After 100 ms without work, a DSP cluster goes to DRAINING and is power-gated. -/
  | clusterPowerGate (cluster : Fin 8)
  /-- SUPPLY_WARN (R424): A supply crossing below its warning level raises SUPPLY_WARN and holds MRAM writes and M transactions. -/
  | supplyWarn (supply : Fin 6) (mv : Nat)
  /-- SUPPLY_RECOVERED (R424): A supply rising above warning plus hysteresis ends the hold, makes the held writes and records the dip. -/
  | supplyRecovered (supply : Fin 6) (minMv : Nat) (aux : Aux)
  /-- SUPPLY_RESET (R425): A supply at or below its reset level resets the device with cause 3. -/
  | supplyReset (supply : Fin 6) (minMv durUs : Nat) (boot : Boot)
  /-- POWER_ON (R426): VDD_AON or VDDIO_AON rising through its reset level starts a power-on reset, and the RTC becomes invalid. -/
  | powerOn (boot : Boot)
  /-- PORST_N_RESET (R463): PORST_N held low for 10 µs or longer resets the device with cause 1. -/
  | porstNReset (lowNs : Nat) (boot : Boot)
  /-- WATCHDOG (R426): Control processor firmware silent for 1 s resets the device with cause 4. -/
  | watchdog (boot : Boot)
  /-- RESET (R426): A write of RESET = 1 sends the RESPONSE and then starts a cold reset with cause 2. -/
  | reset (h value : Nat) (boot : Boot)
  /-- BOOT_RETRY (R430): With no bootable image, the boot ROM retries both slots every 10 s. -/
  | bootRetry (boot : Boot)
  /-- RESTORE (R439): RESTORE = 1 writes a journal record, returns the user region to its defaults and resets with cause 2. -/
  | restore (h value : Nat) (boot : Boot)
  /-- LC_CMD_PROVISION (R435): LC_CMD = 2 runs the MANUFACTURED to PROVISIONED transition: wipe, state write, reset, and then the key writes. -/
  | lcCmdProvision (h : Nat) (others : List ObjWrite) (boot : Boot)
  /-- LC_CMD_DEPLOY (R435): LC_CMD = 3 runs the transition to DEPLOYED and closes the debug port. -/
  | lcCmdDeploy (h : Nat) (others : List ObjWrite) (boot : Boot)
  /-- LC_CMD_RETURN (R435): LC_CMD = 4 runs the transition to RETURNED and opens the debug port. -/
  | lcCmdReturn (h : Nat) (others : List ObjWrite) (boot : Boot)
  /-- LC_CMD_SCRAP (R435): LC_CMD = 5 runs the transition to SCRAPPED. -/
  | lcCmdScrap (h : Nat) (others : List ObjWrite) (boot : Boot)
  /-- LIFE_COUNTER_SAMPLE (R441): Once per minute the Soundpost samples the life counters and the thermal cycle count. -/
  | lifeCounterSample (tj : Int) (vcoreMv : Nat) (ppm : Int) (wear : Nat)
  /-- LIFE_COUNTER_WRITE (R441): Once per hour whole hours are added to the life counters in MRAM. -/
  | lifeCounterWrite
  /-- THERM_WARN (R440): The hottest sensor reaching THERM_WARN raises a WARN event. -/
  | thermWarn (sensor : Nat) (tj : Int)
  /-- THERM_LIMIT (R440): The hottest sensor reaching THERM_LIMIT raises an ERROR event. -/
  | thermLimit (sensor : Nat) (tj : Int)
  /-- SET_TIME (R63): A write of SET_TIME with REF_SEL = 3 steps the local clock, or fails with E_STATE. -/
  | setTime (h value : Nat)
  /-- REF_SEL_WRITE (R63): A write of REF_SEL restarts the servo on the new reference, or stops measurement for value 3. -/
  | refSelWrite (h value : Nat)
  /-- PTP_MESSAGE_RX (R65): A received PTP message is time-stamped and taken by the time unit, or is counted and discarded. -/
  | ptpMessageRx (m : PtpMsg)
  /-- DELAY_REQ_SEND (R65): Each DELAY_LOG interval the device sends a two-step Delay_Req on the SLAVE port. -/
  | delayReqSend (port : Fin 20)
  /-- REFERENCE_LOST (R63): Missing Announces, Syncs or PPS edges past their timeouts mark the reference lost and move the servo to FREERUN or HOLDOVER. -/
  | referenceLost (freqIn : Nat)
  /-- PPS_IN_EDGE (R69): A PPS_IN edge is taken as a measurement, or as the step after a PPS_TOD write. -/
  | ppsInEdge (falling : Bool) (freqIn : Nat)
  /-- PPS_TOD (R69): A write of PPS_TOD names the seconds of the next PPS_IN edge. -/
  | ppsTod (h value : Nat)
  /-- ARM (R71): ARM of a TOUT output reads its programme and schedules its first edge, or fails. -/
  | arm (h n : Nat)
  /-- DISARM (R72): DISARM completes any pulse already begun and holds the output at its idle level. -/
  | disarm (h n : Nat)
  /-- TOUT_EDGE (R71): At next_edge the output produces its pulse and updates LAST_EDGE, EDGES and STATUS. -/
  | toutEdge (n : Fin 8)
  /-- TIN_EDGE (R73): A chosen edge on TINn is time-stamped into the capture FIFO, or counted in OVERFLOW. -/
  | tinEdge (n : Fin 4) (falling : Bool) (pulseNs : Nat)
  /-- TIN_READ (R73): A read of READ returns and removes the oldest capture record, or an empty-flag record. -/
  | tinRead (h n : Nat)
  /-- RTC_RELOAD (R79): On every local second boundary the time unit reloads the real-time clock. -/
  | rtcReload
  /-- AUDIO_BLOCK_TICK (R76): At each 1 ms block instant a completion is posted, candidate sets are latched and the block begins. -/
  | audioBlockTick (din : List (Nat × List PinBit)) (aes : List (Nat × List AesFrame)) (late : List (Nat × Nat)) (lateOut : List Nat)
  /-- FRAME_TICK (R76): At each composition frame tick a completion is posted and the compositor latches its layers. -/
  | frameTick (k : Fin 16)
  /-- SLOT_TICK (R76): At each radio slot of an enabled Fret port a completion is posted. -/
  | slotTick (f : Fin 2)
  /-- LINK_UP (R83): LINK goes from 0 to 1 on an enabled port, and LINK_UP is raised. -/
  | linkUp (port : Fin 20) (lanes corr uncorr : Nat)
  /-- LINK_DOWN (R83): LINK goes from 1 to 0; the frame being received is dropped and LINK_DOWN is raised. -/
  | linkDown (port : Fin 20) (lanes corr uncorr : Nat) (receiving : Bool)
  /-- PORT_DISABLE (R83): ENABLE = 0 on a logical port stops the MAC at the next frame start and discards queued egress copies. -/
  | portDisable (h port : Nat)
  /-- INGRESS_FRAME (R95): A frame arriving on a logical port is stored, classified, replay pre-checked, metered and decrypted as its bytes arrive. -/
  | ingressFrame (frame : Frame)
  /-- PACKET_COMMIT (R96): Once its tag and FCS are verified and the replay window updated, the packet is committed to the packet store and fanned out. -/
  | packetCommit (port : Fin 18) (parity : Bool)
  /-- PUNT_DELIVER (R101): A queued punt frame is delivered with its header on the host's route, or dropped if the route cannot carry it. -/
  | puntDeliver (slot : Fin 8)
  /-- METER_REFILL (R99): CMD REFILL fills both meter buckets and sets last to the commit time. -/
  | meterRefill (h source : Nat)
  /-- LEG_OPEN (R45): CMD OPEN of a FREE leg admits it, sets its objects to their defaults and makes it OPEN. -/
  | legOpen (h leg : Nat)
  /-- LEG_ACTIVATE (R45): CMD ACTIVATE of a keyed, unique OPEN leg installs its classifier entry and makes it ACTIVE. -/
  | legActivate (h leg : Nat)
  /-- LEG_CLOSE (R46): CMD CLOSE starts the teardown of Table 2.3 and makes the leg CLOSING. -/
  | legClose (h leg : Nat)
  /-- LEG_TEARDOWN_COMPLETE (R46): When teardown ends, the leg's sources, subscriptions and queues are released, it becomes FREE and LEG_CLOSED is raised. -/
  | legTeardownComplete (leg : Nat)
  /-- CONF_OPEN (R48): CMD OPEN of a conference charges it and makes it OPEN. -/
  | confOpen (h conf : Nat)
  /-- CONF_CLOSE (R48): CMD CLOSE of a conference without members frees it and returns its parameters to their defaults. -/
  | confClose (h conf : Nat)
  /-- SOURCE_DEFINE (R49): CMD DEFINE checks and admits a source and makes it DEFINED. -/
  | sourceDefine (h source : Nat)
  /-- SOURCE_DELETE (R49): CMD DELETE frees a source together with every subscription to it. -/
  | sourceDelete (h source : Nat)
  /-- SUB_CREATE (R51): CMD CREATE admits a subscription of a leg to a source and makes it ACTIVE. -/
  | subCreate (h sub : Nat)
  /-- SUB_DELETE (R51): CMD DELETE frees a subscription from its commit point. -/
  | subDelete (h sub : Nat)
  /-- RTCP_REPORT_SEND (R115): Every RTCP_INTERVAL, at its phase, each ACTIVE leg is sent a compound SRTCP report. -/
  | rtcpReportSend (leg : Nat)
  /-- UP_NACK_SEND (R118): 10 ms after a later packet, a still-missing sequence number is NACKed upstream once. -/
  | upNackSend (source : Nat)
  /-- REFRESH_REQUEST_SEND (R119): A merged refresh request is sent upstream as a PLI or FIR at once or when PLI_MIN expires, or goes to the encoder. -/
  | refreshRequestSend (source : Nat)
  /-- MOSAIC_PICTURE_EMIT (R126): When every position's tile is stored, or 8 ms after the first arrived, each viewer's mosaic picture is assembled and emitted. -/
  | mosaicPictureEmit (m : Fin 8192)
  /-- SPLICE_GROUP_OPEN (R122): CMD OPEN of a splice group codes its fill and skip tiles and makes it OPEN. -/
  | spliceGroupOpen (h g : Nat)
  /-- SPLICE_GROUP_CLOSE (R123): CMD CLOSE of a splice group without members frees it. -/
  | spliceGroupClose (h g : Nat)
  /-- MOSAIC_OPEN (R124): CMD OPEN of a mosaic checks its picture size and group, and makes it OPEN. -/
  | mosaicOpen (h m : Nat)
  /-- MOSAIC_CLOSE (R123): CMD CLOSE of a mosaic without viewers frees it. -/
  | mosaicClose (h m : Nat)
  /-- QUERY (R142): A Fret QUERY is resolved to a slot, each entry is selected and committed in order, and an ANSWER is sent. -/
  | query (f : Fin 2) (message : Bytes) (answerNs : Nat) (parity : List Nat)
  /-- FRET_DATA_SEND (R146): After the HBM read, rewrite and encryption, each committed packet is sent as a DATA frame in ANSWER order. -/
  | fretDataSend (f : Fin 2) (parity : Fin 3)
  /-- LINK (R147): A LINK frame's entries record expected rates and outages per binding. -/
  | link (f : Fin 2) (message : Bytes)
  /-- LINK_WINDOW_END (R148): At the end of each 100 ms window, each ACTIVE radio leg's line ceiling and CEIL_LAYER are updated. -/
  | linkWindowEnd
  /-- HINT_REFRESH_EXPIRY (R149): HINT_REFRESH ms after the last talker set, it is sent again. -/
  | hintRefreshExpiry (f : Fin 2)
  /-- SLOT (R151): A SLOT frame is compared with the port's own slot clock, and a mismatch is counted. -/
  | slot (f : Fin 2) (message : Bytes)
  /-- PEER_TIMEOUT (R151): PEER_TIMEOUT without a valid Fret frame sets PEER to 0 and raises FRET_PEER_LOST. -/
  | peerTimeout (f : Fin 2)
  /-- BEARER_SUSPEND (R153): A BEARER SUSPEND operation makes the binding SUSPENDED and is echoed. -/
  | bearerSuspend (f : Fin 2) (message : Bytes)
  /-- BEARER_RESUME (R153): A BEARER RESUME operation returns the binding to ACTIVE and is echoed. -/
  | bearerResume (f : Fin 2) (message : Bytes)
  /-- BEARER_REMAP (R153): A BEARER REMAP operation moves the leg to its new binding and raises FRET_REMAP. -/
  | bearerRemap (f : Fin 2) (message : Bytes)
  /-- BEARER_RELEASE (R153): A BEARER RELEASE operation makes the binding RELEASED and raises FRET_RELEASED. -/
  | bearerRelease (f : Fin 2) (message : Bytes)
  /-- RADIO_UE_WRITE (R154): A host write of RADIO_UE to an ACTIVE radio leg acts as a REMAP with the same port and bearer. -/
  | radioUeWrite (h l ue : Nat)
  /-- SUMMARY_REFILL (R139): After a change opens room in a summary window, the window is refilled from HBM within 1 µs. -/
  | summaryRefill (l : Nat)
  /-- QUEUE_DEADLINE_ABANDON (R138): A layer frame still incomplete when its deadline passes is abandoned and its queued packets removed. -/
  | queueDeadlineAbandon (l : Nat)
  /-- FRET_ENABLE (R156): ENABLE = 1 on a Fret port powers MEM and NET and brings the port into service, or fails without valid time. -/
  | fretEnable (h f : Nat)
  /-- FRET_DISABLE (R157): ENABLE = 0 on a Fret port finishes accepted QUERYs and then stops Fret traffic. -/
  | fretDisable (h f : Nat)
  /-- EGRESS_PICK (R160): When a port's MAC can take a frame, the next copy is picked by strict class priority and round robin under the shapers. -/
  | egressPick (port : Fin 16) (parity : Fin 3)
  /-- SHAPER_TICK (R162): On each 1 µs grid tick, a shaper applies any pending parameters and refills its tokens. -/
  | shaperTick
  /-- LEG_GROUP_OPEN (R168): CMD OPEN of a leg group starts its shaper full and makes it OPEN. -/
  | legGroupOpen (h g : Nat)
  /-- LEG_GROUP_CLOSE (R168): CMD CLOSE of a leg group without legs frees it. -/
  | legGroupClose (h g : Nat)
  /-- GROUP_WRITE (R169): A write of a leg's GROUP moves its queued copies under the new group, or fails. -/
  | groupWrite (h l group : Nat)
  /-- INSTALL (R185): A key blob written to INSTALL is unwrapped and checked, and becomes the context's new generation at commit. -/
  | install (h context : Nat) (blob : Bytes)
  /-- ERASE (R192): ERASE empties a context, clears its streams and discards in-flight outputs. -/
  | erase (h context : Nat)
  /-- PREV_HOLD_EXPIRY (R191): PREV_HOLD after a rewrite, the previous generation's keys are dropped. -/
  | prevHoldExpiry (context : Nat)
  /-- KEK_KEY_WRITE (R182): A write of a KEK slot's KEY seals the new key, replaces the seal key and recomputes CHECK. -/
  | kekKeyWrite (h slot key : Nat)
  /-- KEK_CLEAR (R181): CLEAR zeroises a KEK slot and sets its STATE and USERS to 0. -/
  | kekClear (h slot : Nat)
  /-- ZEROISE (R195): A write of ZEROISE raises a security alarm with CAUSE bit 6. -/
  | zeroise (h value : Nat)
  /-- SEC_ALARM (R195): A detected alarm condition zeroises keys, contexts, KEKs and sessions in the order of Table 8.9. -/
  | secAlarm (cause : Nat)
  /-- SILENT_ENTRY (R220): After SIL_MS with no candidates and quiet mixes, a conference becomes SILENT and its work stops. -/
  | silentEntry (conf : Nat)
  /-- GRAPH_BLOB (R215): A BLOB write appends to a route graph's staged blob and makes it STAGED. -/
  | graphBlob (h g : Nat) (bytes : Bytes)
  /-- COMPILE (R215): CMD COMPILE starts Kerady on the staged blob, or fails with E_BUSY. -/
  | compile (h g : Nat)
  /-- COMPILE_DONE (R215): Kerady finishes its checks and either charges the program or records the failure, raising GRAPH_COMPILED or GRAPH_FAILED. -/
  | compileDone (g : Fin 1024)
  /-- RUN (R217): CMD RUN replaces the running program with the compiled one from the next block. -/
  | run (h g : Nat)
  /-- STOP (R217): CMD STOP ends the running program from the next block. -/
  | stop (h g : Nat)
  /-- GRAPH_DELETE (R215): CMD DELETE stops the graph and frees both its sides. -/
  | graphDelete (h g : Nat)
  /-- PORT_ENABLE (R233): ENABLE = 1 on an audio port starts its clocks at a grid frame, or starts ASRC acquisition. -/
  | portEnable (h : Nat) (port : Fin 32)
  /-- PORT_DISABLE_AUDIO (R233): ENABLE = 0 on an audio port enters POSTROLL, or turns the port OFF. -/
  | portDisableAudio (h : Nat) (port : Fin 32) (frame : Nat)
  /-- PREROLL_END (R233): Once PREROLL frames are counted, the port enters RUN. -/
  | prerollEnd (port : Fin 32) (frame : Nat)
  /-- POSTROLL_END (R233): Once POSTROLL frames are counted, the port stops its clocks and enters OFF. -/
  | postrollEnd (port : Fin 32) (frame : Nat)
  /-- MASK_APPLY (R234): A committed slot mask applies at the next frame start and sets MASK_FRAME. -/
  | maskApply (port : Fin 32) (frame : Nat)
  /-- AUD_ASRC_LOCKED (R242): A tracked ASRC declares lock and moves the port toward PREROLL or RUN. -/
  | audAsrcLocked (port : Fin 32)
  /-- AUD_CLOCK_LOST (R243): No frame start for 2 frame periods fades the inputs and makes the port CLOCK_LOST. -/
  | audClockLost (port : Fin 32)
  /-- AUD_CLOCK_RESTORED (R244): The first frame start after CLOCK_LOST begins ACQUIRE, and the port returns to RUN on lock. -/
  | audClockRestored (port : Fin 32) (frame : Nat)
  /-- AUD_FS_ERR (R243): A frame whose length is off by more than one bit clock is discarded and counted. -/
  | audFsErr (port : Fin 32) (off : Int)
  /-- AUD_ASRC_RELOCK (R243): A rate moved outside ±200 ppm for 8 frames makes the ASRC re-acquire, with a mute above 2 %. -/
  | audAsrcRelock (port : Fin 32)
  /-- AES_BLOCK_RX (R238): A complete AES3 block latches its channel status and user bits, or is counted as broken. -/
  | aesBlockRx (a : Fin 8)
  /-- SUBMIT (R273): Firmware submits a work-item descriptor, which is checked and given an SSN, or rejected. -/
  | submit (descriptor : Bytes) (graph node : Nat) (pkts : List Nat) (egress : Nat)
  /-- DISPATCH_CYCLE (R279): Each scheduler cycle, ready items are placed on free cores by priority, and their buffers acquired. -/
  | dispatchCycle
  /-- WORK_ITEM_COMMIT (R282): A posted completion commits the item, releases its buffers and decrements its dependants. -/
  | workItemCommit (core : Fin 128) (stalls : Nat)
  /-- WORK_ITEM_FAULT (R266): An item-ending fault on a core discards its work and re-dispatches or abandons the item. -/
  | workItemFault (core : Fin 128) (fault : Fin 8) (stalls word : Nat)
  /-- RETIRE (R270): CMD RETIRE retires a DSP core, decode core, encode core or compositor. -/
  | retire (h : Nat) (kind : Fin 4) (unit_ : Nat)
  /-- UNRETIRE (R270): CMD UNRETIRE marks a retired unit for self-test at the next reset. -/
  | unretire (h : Nat) (kind : Fin 4) (unit_ : Nat)
  /-- UNIT_RETIREMENT (R447): A unit retired for a cause of its chapter hands off its work, lowers capacity and raises UNIT_RETIRED. -/
  | unitRetirement (kind : Fin 5) (unit_ cause : Nat)
  /-- DECODE_OPEN (R293): CMD OPEN of a decode session admits it, places it on cores and raises a refresh request. -/
  | decodeOpen (h d : Nat)
  /-- DECODE_CLOSE (R306): CMD CLOSE stops a decode session's input and frees it once its last buffer is free. -/
  | decodeClose (h d : Nat)
  /-- PICTURE_READY (R294): A picture becomes ready when its packets are complete or REORDER_MS passes, and its decode starts. -/
  | pictureReady (d : Fin 2048) (info : PicInfo)
  /-- PICTURE_COMPLETE (R296): A decoded picture is marked complete and its output descriptor written. -/
  | pictureComplete (d : Fin 2048) (result : PicResult)
  /-- PICTURE_ABANDON (R297): A picture past its budget, or otherwise failing, is abandoned and the previous picture repeated. -/
  | pictureAbandon (d : Fin 2048) (fault : Fin 3) (core : Fin 16) (access : CoreAccess)
  /-- START_MS_EXPIRY (R295): With no random access point within START_MS, decoding starts with substitution. -/
  | startMsExpiry (d : Fin 2048)
  /-- ENCODE_OPEN (R319): CMD OPEN of an encode session checks, admits and places it. -/
  | encodeOpen (h e : Nat)
  /-- ENCODE_CLOSE (R329): CMD CLOSE stops an encode session and frees it once its cores stop. -/
  | encodeClose (h e : Nat)
  /-- LAYER_PICTURE_COMPLETE (R322): A completed layer picture enters the packet store and updates rate-control state and debt. -/
  | layerPictureComplete (e : Fin 2048) (layer : Fin 3) (rows : List (List Nat)) (packets alt : List Nat) (fault : Option Nat)
  /-- ENCODE_DEADLINE (R322): A layer picture not complete by F + P is dropped and VE_LATE is raised. -/
  | encodeDeadline (e : Fin 2048)
  /-- OUTPUT_OPEN (R333): CMD OPEN of a composition output charges its slots and powers its compositor. -/
  | outputOpen (h k : Nat)
  /-- OUTPUT_CLOSE (R333): CMD CLOSE of a composition output frees it, and frozen outputs may move to the freed compositor. -/
  | outputClose (h k : Nat)
  /-- COMPOSE_FRAME_COMPLETE (R342): A composition frame completes and is written with its descriptor. -/
  | composeFrameComplete (k : Fin 16) (fault : Bool)
  /-- ENGAGE (R345): A SAFETY host write of ENGAGE sets HOST_ENG and engages or releases the override. -/
  | engage (h value : Nat)
  /-- PIN_ENGAGE (R345): SAFETY_N low for 100 µs sets PIN_ENG and engages the override at E. -/
  | pinEngage (boot : Boot)
  /-- PIN_RELEASE (R345): SAFETY_N high for 10 ms without PIN_LATCH clears PIN_ENG. -/
  | pinRelease
  /-- RELEASE_PIN (R345): RELEASE_PIN releases a latched pin engagement while SAFETY_N is high. -/
  | releasePin (h value : Nat) (high : Bool)
  /-- OVERRIDE_PLAY_START (R347): At E + 1 ms the override streams play and subscriptions switch to them at their first RAP. -/
  | overridePlayStart
  /-- SEAL (R344): CMD SEAL checks a Rosette store entry and marks it READY, or records the error. -/
  | seal (h entry : Nat)
  /-- STORE_CLEAR (R349): CMD CLEAR empties a Rosette store entry that is not in use. -/
  | storeClear (h entry : Nat)
  /-- STORE_DATA (R344): A write of DATA appends up to 8,192 bytes to a Rosette store entry. -/
  | storeData (h entry : Nat) (bytes : Bytes)
  /-- RETRAIN (R368): CMD RETRAIN in an empty IDLE device retrains and wipes HBM. -/
  | retrain (h : Nat) (training : Training)
  /-- TRACKING_PASS (R366): Every 100 ms in ACTIVE a tracking pass nudges each pseudo-channel's delays toward the eye centre. -/
  | trackingPass (pc : Fin 64) (drift : Nat)
  /-- REFRESH (R358): Per-bank refresh and refresh management are issued at the JESD238 rate. -/
  | refresh (pc : Fin 64) (bank : Fin 32) (temp : Int)
  /-- SCRUB_REPAIR (R363): The patrol scrubber reads granules and repairs correctable words with a locked read and write. -/
  | scrubRepair (queued : Option Nat) (corrected : Fin 33) (bad : List Nat)
  /-- FENCE (R370): CMD FENCE marks a pseudo-channel to be fenced at the next training. -/
  | fence (h pc : Nat)
  /-- UNFENCE (R370): CMD UNFENCE marks a fenced pseudo-channel to return at the next training. -/
  | unfence (h pc : Nat)
  /-- MARGIN (R374): CMD MARGIN runs an eye scan on the TARGET pseudo-channel in IDLE. -/
  | margin (h : Nat) (result : Option Nat)
  /-- CAPO_SET (R379): CAPO = 1 freezes an arbiter port from the next cycle. -/
  | capoSet (h port : Nat)
  /-- CAPO_CLEAR (R379): CAPO = 0 resumes arbitration over the parked entries. -/
  | capoClear (h port : Nat)
  /-- DRAINED (R379): A frozen port whose controller queues are empty becomes DRAINED. -/
  | drained (port : Fin 64)
  /-- ARB_CAPO_TIMEOUT (R379): A port frozen for 10 ms in ACTIVE is released. -/
  | arbCapoTimeout (port : Fin 64)
  /-- DMA_START (R384): CMD START fetches the descriptor at HEAD and runs the channel. -/
  | dmaStart (h channel : Nat) (firmware : Option (Nat × Bool)) (host : Bytes)
  /-- DMA_STOP (R384): CMD STOP ends the channel at its descriptor boundary. -/
  | dmaStop (h channel : Nat) (firmware : Bool)
  /-- DMA_DISABLE (R386): CMD DISABLE ends the channel's work at once without a completion record. -/
  | dmaDisable (h channel : Nat) (host : Bytes)
  /-- DMA_DESCRIPTOR_DONE (R382): A descriptor finishes its transfer, writes its completion record and chains or stops. -/
  | dmaDescriptorDone (channel : Fin 64) (host next : Bytes) (errs : List ReadErr)
  /-- ENCODE_FRAME_TICK (R321): At tick n of an encode session's own video frame grid, the session latches the newest complete picture of its decode session and begins coding picture n, or codes an all-skip or flat picture. -/
  | encodeFrameTick (e : Fin 2048)
  /-- WAIT_RAP_REFRESH (R295): While a decode session in WAIT_RAP knows no parameter sets, it raises its refresh request again every 500 ms. -/
  | waitRapRefresh (d : Fin 2048)
  /-- AUD_RATE_RANGE (R243): A measured ratio outside 0.5–2.0 on a slave serial audio port or an AES3 input fades the inputs, keeps the port in ACQUIRE without lock and raises AUD_RATE_RANGE once per episode. -/
  | audRateRange (port : Fin 32)
  /-- FACTORY_PROGRAMMING (R433): Factory programming through the debug port writes and seals the factory region and moves LC_STATE from BLANK to MANUFACTURED. -/
  | factoryProgramming (objects : List ObjWrite)
  /-- TAMELSER_SERVICE (R433): Tamelser service through the debug port runs a transition from RETURNED to MANUFACTURED. -/
  | tamelserService (boot : Boot)
  /-- PCIE_PERST_N (R471): PCIE_PERST_N resets the PCIe endpoint only, ending its rings and functions and leaving the rest of the device running. -/
  | pciePerstN
  /-- RING_HEAD_WRITE (R396): A host write of HEAD on the RSP, EVT or PUNT ring of its physical function frees ring space, so that held RESPONSEs, event records and punts can be posted. -/
  | ringHeadWrite (h ring head : Nat)
  /-- RING_CTRL_WRITE (R396): A host write of CTRL ENABLE on a BAR0 ring enables or disables that ring, which sets whether requests are read and whether punts and events can be carried on it. -/
  | ringCtrlWrite (h ring : Nat) (enable : Bool) (base size vector shadow : Nat)
  /-- OVERRIDE_STREAM_PLAYOUT (R347): While the override is engaged, each override stream record is played at its 90 kHz time on the looping local clock, and its packets are emitted to the switched subscriptions with rewritten SSRC, time-stamp and sequence numbers. -/
  | overrideStreamPlayout (entry : Fin 64)
  deriving DecidableEq, Repr

end Sys2Proof
end

