-- ==== Sys2Proof/Config.lean ====
section
/-! DEFINITION. What an implementation fixes and the spec leaves open. Every constant here is opaque: nothing can
evaluate it or prove a value of it, so a statement about it holds for every value. `freeWord w n` is the n-th free
value drawn (State.draws counts them): a number drawn at random, or a value the spec does not state. -/

namespace Sys2Proof

/-- The n-th free value, w bits wide. -/
opaque Config.freeWord (w : Nat) : Nat → BitVec w

/-- The factory calibration's ingress and egress delay of port p in port mode m, in ps (R67), for the modes that a port
split selects beside the first. -/
opaque Config.factRx (p m : Nat) : BitVec 32
opaque Config.factTx (p m : Nat) : BitVec 32

/-- Does a quotient of samples that is not exact round up (R210, R212, R213, R221, R235)? -/
opaque Config.roundsUp (num : Int) (den : Nat) : Bool

/-- Is the product of a sample's magnitude and a gain in 0.01 dB rounded up where it is not exact (R211, R214)? -/
opaque Config.gainsUp (centi : Int) (x : Nat) : Bool

/-- What becomes of a sample outside the 24-bit range. -/
opaque Config.overflow24 : Int → BitVec 24

/-- A decoder (codec as Table 2.5, rate domain) in a state (0 the reset state) that takes a frame's payload: its state after,
and sample i of what it puts out. G.711's samples are those of the standard's tables (Sys2Proof.Machine.g711). -/
opaque Config.decodedState (codec dom state : Nat) (payload : List (BitVec 8)) : Nat
opaque Config.decodedSample (codec dom state : Nat) (payload : List (BitVec 8)) (i : Nat) : BitVec 16

/-- The length in ms of an Opus packet's audio, less 1: what its table-of-contents byte says (RFC 6716). -/
opaque Config.opusMs (payload : List (BitVec 8)) : BitVec 7

/-- A decoder that conceals one block for want of a frame, as its standard defines (R203): its state after, and sample i. -/
opaque Config.concealedState (codec dom state : Nat) : Nat
opaque Config.concealedSample (codec dom state i : Nat) : BitVec 16

/-- How far the gain of a limiter (65,536 is 1) recovers in one sample, by its release in ms and the sample rate. -/
opaque Config.release (ms hz gain : Nat) : BitVec 16

/-- Taps of the bridge from domain a to b, as 2^-23ths; tap j of 2D + 1 equals tap 2D - j (R213). -/
opaque Config.bridgeTap (a b j : Nat) : BitVec 24

/-- A BIQUAD's output: domain, P0 to P2, the sample with the two before it, and the two outputs before (R214). -/
opaque Config.biquad (dom p0 p1 p2 : Nat) (x x1 x2 y1 y2 : Int) : Int

/-- An encoder's work on one frame: its configuration, its state before, the samples; the length of the coded frame less 1, its
i-th byte, and the encoder's state after. -/
opaque Config.codedLen (cfg : List Nat) (state : Nat) (frame : List Int) : BitVec 10
opaque Config.codedByte (cfg : List Nat) (state : Nat) (frame : List Int) (i : Nat) : BitVec 8
opaque Config.codedState (cfg : List Nat) (state : Nat) (frame : List Int) : Nat

/-- A sample of the rate converter of port q in a direction (0 in, 1 out) at output index i, from the latest input samples of
its slot, newest first (R241, R242). -/
opaque Config.asrc (q dir i : Nat) (hist : List Int) : BitVec 24

/-- The check bits that each data bit of a FIFO word takes part in (R84). -/
opaque Config.fifoColumns : List Nat

/-- The check bits of an HBM word at its offset in its pseudo-channel (R361), and the pattern of a poisoned word (R362). -/
opaque Config.wordCheck (word : BitVec 64) (offset : Nat) : BitVec 8
opaque Config.poisonCheck : BitVec 8

/-- Sample (x, y) of a plane (0 Y′, 1 Cb, 2 Cr) of the n-th picture decoded: what the codec's standard gives for a bitstream that
the model does not carry. -/
opaque Config.sample (n plane x y : Nat) : BitVec 10

/-- A scaler's filter: direction (0 vertical, 1 horizontal), FILTER (3 the Rosette layer's scaler), phase of 64, source and
output extent, and the samples under the kernel (R336). -/
opaque Config.filtered (dir filter phase src dst : Nat) (taps : List Nat) : BitVec 12

/-- The colour chain of R340 on one pixel as three 12-bit components: how the input is read (matrix, range, transfer, primaries,
bits), and the mapping (peak, L_out, clip only, SDR_NITS, OUT_TF, OUT_PRIM). -/
opaque Config.converted (read tone : List Nat) (a b c : Nat) : BitVec 36

/-- The chroma sample of 2 × 2 pixels in 4:2:0, from the chroma of each. -/
opaque Config.sited (depth : Nat) (four : List Nat) : BitVec 10

/-- The luminance in cd/m² of a 10-bit PQ code value (ITU-R BT.2100), which the spec takes from its standard. -/
opaque Config.pqEotf : Nat → Nat

/-- Byte i of a unit of coded video that the device makes, named by what it codes: the encoders are their standards'. -/
opaque Config.videoByte (unit : List Nat) (i : Nat) : BitVec 8

/-- Where in a cluster's shared memory the images of a work item go, by its descriptor (R263, R280), and the HBM address of a
custom node's code image, in 64-byte units. -/
opaque Config.itemBase (descriptor : List (BitVec 8)) : Nat
opaque Config.codeImage (graph node : Nat) : BitVec 32

/-- Where HBM holds a decode session's descriptor slot (k = 0), its context area (1) and its reorder buffer (2): the first byte and
the bytes (R298). -/
opaque Config.decArea (d k : Nat) : Nat × Nat

/-- Where the event ring lies in its part of the reserved region (Table 16.2): its byte offset. -/
opaque Config.eventRing : Nat

/-- Which entry of the Rosette store holds byte o of the store, and at which byte of the entry. -/
opaque Config.storeEntry (o : Nat) : BitVec 6
opaque Config.storeOffset (o : Nat) : BitVec 28

end Sys2Proof
end

