-- ==== Sys2Proof/Machine/Bytes.lean ====
section
/-! DEFINITION. Byte order and numbers (R5, R391): network order (big-endian) on every wire, little-endian order in
memory; two's complement; wrapping and saturating counts. -/

namespace Sys2Proof.Machine

/-- The number a byte string spells in network order. -/
def beNat (bs : Bytes) : Nat := bs.foldl (fun a b => a * 256 + b.toNat) 0

/-- The number a byte string spells in little-endian order. -/
def leNat : Bytes → Nat
  | [] => 0
  | b :: bs => b.toNat + 256 * leNat bs

/-- n bytes of v in little-endian order. -/
def natLE : Nat → Nat → Bytes
  | 0, _ => []
  | n + 1, v => BitVec.ofNat 8 v :: natLE n (v / 256)

/-- n bytes of v in network order. -/
def natBE (n v : Nat) : Bytes := (natLE n v).reverse

/-- n bytes from offset o; bytes beyond the end read as nothing, so the result may be short. -/
def slice (bs : Bytes) (o n : Nat) : Bytes := (bs.drop o).take n

/-- The n-byte network-order field at offset o. -/
def beAt (bs : Bytes) (o n : Nat) : Nat := beNat (slice bs o n)

/-- The n-byte little-endian field at offset o. -/
def leAt (bs : Bytes) (o n : Nat) : Nat := leNat (slice bs o n)

/-- The byte at offset o (0 beyond the end). -/
def byteAt (bs : Bytes) (o : Nat) : Nat := (bs.getD o 0).toNat

/-- Every byte zero. -/
def allZero (bs : Bytes) : Bool := bs.all (fun b => b == 0)

/-- The signed number that a w-bit two's complement value stands for. -/
def toInt (w v : Nat) : Int := if v % 2 ^ w < 2 ^ (w - 1) then (v % 2 ^ w : Nat) else (v % 2 ^ w : Nat) - (2 ^ w : Nat)

/-- The w-bit two's complement value of a signed number. -/
def ofInt (w : Nat) (i : Int) : Nat := (i % (2 ^ w : Nat)).toNat

/-- A signed number saturated at the limits of w-bit two's complement. -/
def satInt (w : Nat) (i : Int) : Int :=
  if i < -(2 ^ (w - 1) : Nat) then -(2 ^ (w - 1) : Nat) else if i > (2 ^ (w - 1) : Nat) - 1 then (2 ^ (w - 1) : Nat) - 1 else i

/-- Round a quotient of integers toward zero. -/
def divZero (a b : Int) : Int := Int.tdiv a b

/-- Pad with zero bytes up to n bytes. -/
def padTo (n : Nat) (bs : Bytes) : Bytes := bs ++ List.replicate (n - bs.length) 0

/-- Round n up to a multiple of k. -/
def roundUp (k n : Nat) : Nat := if k = 0 then n else (n + k - 1) / k * k

/-- Division rounded up. -/
def ceilDiv (a b : Nat) : Nat := if b = 0 then 0 else (a + b - 1) / b

end Sys2Proof.Machine
end

