-- ==== Sys2Proof/Machine/Objects.lean ====
section
/-! DEFINITION. The names of every object of the dictionary (R390, Table 18.1): one constant per row of the object
maps of the chapters, holding the row's index and subindex as index * 256 + subindex (a COLUMN of the store). The
docstring of a name is the row's own Meaning. -/

namespace Sys2Proof.Machine

/-! 0x1000: identity and life-cycle objects (Table 18.10b, 18_control.md). -/
/-- Index of the identity and life-cycle objects. -/
abbrev Ident.index : Nat := 0x1000
/-- 0x1000.01: vendor. -/
abbrev Ident.VENDOR : Nat := 0x100001
/-- 0x1000.02: ordering code of Table 0.1. -/
abbrev Ident.PART : Nat := 0x100002
/-- 0x1000.03: serial number. -/
abbrev Ident.SERIAL : Nat := 0x100003
/-- 0x1000.04: silicon revision. -/
abbrev Ident.SILICON : Nat := 0x100004
/-- 0x1000.05: [31:24] major, [23:16] minor, [15:0] build. -/
abbrev Ident.FW_VERSION : Nat := 0x100005
/-- 0x1000.06: 0 BLANK, 1 MANUFACTURED, 2 PROVISIONED, 3 DEPLOYED, 4 RETURNED, 5 SCRAPPED. -/
abbrev Ident.LC_STATE : Nat := 0x100006
/-- 0x1000.07: target state; transitions in Power, Reset, Life-Cycle and Calibration; R402. -/
abbrev Ident.LC_CMD : Nat := 0x100007
/-- 0x1000.08: clear provisioning open (R401). -/
abbrev Ident.PROV_MODE : Nat := 0x100008
/-- 0x1000.09: seconds since reset. -/
abbrev Ident.UPTIME_S : Nat := 0x100009

/-! 0x1100: Xaras objects (Table 18.11, 18_control.md). -/
/-- Index of the Xaras objects. -/
abbrev Xar.index : Nat := 0x1100
/-- 0x1100.01: 1,024–65,535; applies to later HELLOs. -/
abbrev Xar.UDP_PORT : Nat := 0x110001
/-- 0x1100.02: ms, 1,000–60,000. -/
abbrev Xar.SESSION_TIMEOUT : Nat := 0x110002
/-- 0x1100.03: requests accepted, all routes. -/
abbrev Xar.ACCEPTED : Nat := 0x110003
/-- 0x1100.04: frames discarded (R392, R399). -/
abbrev Xar.DISCARDED : Nat := 0x110004

/-! 0x1110: management port objects (Table 18.11, 18_control.md). -/
/-- Index of the management port objects. -/
abbrev Mg.index : Nat := 0x1110
/-- 0x1110[m].01: Xaras on the port. -/
abbrev Mg.ENABLE : Nat := 0x111001
/-- 0x1110[m].02: all 0 none. -/
abbrev Mg.IPV4 : Nat := 0x111002
/-- 0x1110[m].03: prefix length, 0–32. -/
abbrev Mg.IPV4_PLEN : Nat := 0x111003
/-- 0x1110[m].04: global address; the link-local address from MAC is always served. -/
abbrev Mg.IPV6 : Nat := 0x111004
/-- 0x1110[m].05: 0–128. -/
abbrev Mg.IPV6_PLEN : Nat := 0x111005
/-- 0x1110[m].06: IPv4 as ::ffff:a.b.c.d; all 0 none. -/
abbrev Mg.GATEWAY : Nat := 0x111006
/-- 0x1110[m].07: VID 1–4094; 0xFFFF untagged. -/
abbrev Mg.VLAN : Nat := 0x111007
/-- 0x1110[m].08: port address. -/
abbrev Mg.MAC : Nat := 0x111008
/-- 0x1110[m].09: 0 down, 1 up. -/
abbrev Mg.LINK : Nat := 0x111009

/-! 0x1120: host slot objects (Table 18.12, 18_control.md). -/
/-- Index of the host slot objects. -/
abbrev Slot.index : Nat := 0x1120
/-- 0x1120[h].01: 0 PLATFORM, 1 SAFETY, 2 TENANT (Table 0.3). -/
abbrev Slot.ROLE : Nat := 0x112001
/-- 0x1120[h].02: [0] MG0, [1] MG1; [7:2] reserved. -/
abbrev Slot.MG_ALLOWED : Nat := 0x112002
/-- 0x1120[h].03: host address allowed; all 0 any. -/
abbrev Slot.PEER : Nat := 0x112003
/-- 0x1120[h].04: 0 none, 1 PENDING, 2 OPEN. -/
abbrev Slot.SESSION : Nat := 0x112004
/-- 0x1120[h].05: 0 MG0, 1 MG1. -/
abbrev Slot.S_PORT : Nat := 0x112005
/-- 0x1120[h].06: host address of the OPEN session. -/
abbrev Slot.S_ADDR : Nat := 0x112006
/-- 0x1120[h].07: its UDP port. -/
abbrev Slot.S_UDP : Nat := 0x112007
/-- 0x1120[h].08: next device-to-host counter. -/
abbrev Slot.TX_CTR : Nat := 0x112008
/-- 0x1120[h].09: last host counter accepted. -/
abbrev Slot.RX_CTR : Nat := 0x112009
/-- 0x1120[h].0A: tag failures. -/
abbrev Slot.AUTH_FAIL : Nat := 0x11200A
/-- 0x1120[h].0B: counters refused. -/
abbrev Slot.REPLAYS : Nat := 0x11200B
/-- 0x1120[h].0C: 0 PF disabled, 1 REQ ring enabled. -/
abbrev Slot.PCIE : Nat := 0x11200C
/-- 0x1120[h].0D: 0 PCIe, 1 UDP, 2 both. -/
abbrev Slot.EV_ROUTE : Nat := 0x11200D
/-- 0x1120[h].0E: 0–3. -/
abbrev Slot.EV_MIN_SEV : Nat := 0x11200E
/-- 0x1120[h].0F: pending transactions, 0–16. -/
abbrev Slot.PENDING : Nat := 0x11200F
/-- 0x1120[h].10: REQ_ID to abort (R407). -/
abbrev Slot.ABORT : Nat := 0x112010
/-- 0x1120[h].11: 1: close the slot's sessions. -/
abbrev Slot.CLOSE : Nat := 0x112011
/-- 0x1120[h].12: records not delivered. -/
abbrev Slot.EV_LOST : Nat := 0x112012
/-- 0x1120[h].13: bulk window accesses refused. -/
abbrev Slot.WIN_FAULT : Nat := 0x112013

/-! 0x1200: power and supply objects (Table 18.13, 18_control.md). -/
/-- Index of the power and supply objects. -/
abbrev Pwr.index : Nat := 0x1200
/-- 0x1200.01: 0 ACTIVE, 1 IDLE, 2 STANDBY. -/
abbrev Pwr.PSTATE : Nat := 0x120001
/-- 0x1200.02: requested state 0–2; refused per R36 and R245. -/
abbrev Pwr.PSTATE_REQ : Nat := 0x120002
/-- 0x1200.03: powered: [0] NET, [1] MEM, [2] SCHED, [3] DSP, [4] VDEC, [5] VENC, [6] COMP, [7] AUD, [8] CTRL, [9] AON; [15:10] 0. -/
abbrev Pwr.DOMAINS : Nat := 0x120003
/-- 0x1200.04: [0] WAKE_AT, [1] TIN0 edge, [2] MG0 wake frame; [7:3] reserved. -/
abbrev Pwr.WAKE_SRC : Nat := 0x120004
/-- 0x1200.05: wake time from STANDBY; 0 none. -/
abbrev Pwr.WAKE_AT : Nat := 0x120005
/-- 0x1200.06: 1 cold reset. -/
abbrev Pwr.RESET : Nat := 0x120006
/-- 0x1200.07: 0 power-on, 1 PORST_N, 2 host, 3 supply, 4 watchdog, 5 life-cycle transition. -/
abbrev Pwr.RESET_CAUSE : Nat := 0x120007
/-- 0x1200.08: measured VDD_CORE, mV. -/
abbrev Pwr.VCORE_MV : Nat := 0x120008
/-- 0x1200.09: warning level. -/
abbrev Pwr.VWARN_MV : Nat := 0x120009
/-- 0x1200.0A: reset level. -/
abbrev Pwr.VRESET_MV : Nat := 0x12000A
/-- 0x1200.0B: dips below warning. -/
abbrev Pwr.DIPS : Nat := 0x12000B
/-- 0x1200.0C: duration of the latest dip. -/
abbrev Pwr.DIP_MS : Nat := 0x12000C
/-- 0x1200.0D: its minimum. -/
abbrev Pwr.DIP_MIN_MV : Nat := 0x12000D
/-- 0x1200.0E: hottest die sensor, °C. -/
abbrev Pwr.TJ_MAX : Nat := 0x12000E
/-- 0x1200.0F: measured SYSCLK deviation, ppm. -/
abbrev Pwr.SYSCLK_PPM : Nat := 0x12000F

/-! 0x1300: calibration objects (Table 18.14, 18_control.md). -/
/-- Index of the calibration objects. -/
abbrev Cal.index : Nat := 0x1300
/-- 0x1300.01: 0 absent, 1 valid, 2 check failed. -/
abbrev Cal.FACT_STATE : Nat := 0x130001
/-- 0x1300.02: 1 restore-factory. -/
abbrev Cal.RESTORE : Nat := 0x130002
/-- 0x1300.03: °C raising a WARN event, 60–115. -/
abbrev Cal.THERM_WARN : Nat := 0x130003
/-- 0x1300.04: °C raising an ERROR event, THERM_WARN + 5 to 120. -/
abbrev Cal.THERM_LIMIT : Nat := 0x130004
/-- 0x1300.05: real-time clock trim, 0.01 ppm, ±10,000. -/
abbrev Cal.XTAL32_TRIM : Nat := 0x130005
/-- 0x1300.06: [0] HS0, [1] HS1 last-good valid (R365). -/
abbrev Cal.HBM_LAST_GOOD : Nat := 0x130006

/-! 0x1310: lane override objects (Table 18.14, 18_control.md). -/
/-- Index of the lane override objects. -/
abbrev Lane.index : Nat := 0x1310
/-- 0x1310[q].01: lane q (4n + l for MPn lane l, 16–17 FP0–FP1, 18–19 MG0–MG1) uses the values below. -/
abbrev Lane.OVERRIDE : Nat := 0x131001
/-- 0x1310[q].02: −15 to 0. -/
abbrev Lane.TX_PRE : Nat := 0x131002
/-- 0x1310[q].03: 20–63. -/
abbrev Lane.TX_MAIN : Nat := 0x131003
/-- 0x1310[q].04: −31 to 0. -/
abbrev Lane.TX_POST : Nat := 0x131004
/-- 0x1310[q].05: 0–15. -/
abbrev Lane.RX_CTLE : Nat := 0x131005

/-! 0x1400: life counters and event log objects (Table 18.15, 18_control.md). -/
/-- Index of the life counters and event log objects. -/
abbrev Life.index : Nat := 0x1400
/-- 0x1400.01: powered hours. -/
abbrev Life.POWER_ON_H : Nat := 0x140001
/-- 0x1400.02: Tj swings of ≥ 40 °C. -/
abbrev Life.THERMAL_CYCLES : Nat := 0x140002
/-- 0x1400.03: 16 U32 hour counts: bin 0 below −30 °C; bin k from −40 + 10k to −31 + 10k °C; bin 15 at or above 110 °C. -/
abbrev Life.TJ_HIST : Nat := 0x140003
/-- 0x1400.04: writes of the most-written word, in 0.01 % of 10^8. -/
abbrev Life.MRAM_WEAR : Nat := 0x140004
/-- 0x1400.05: hours with a stack above 85 °C. -/
abbrev Life.HBM_HOT_H : Nat := 0x140005
/-- 0x1400.06: UTC: year U16, month, day, hour, minute, second, 0; all 0 while TIME_VALID is 0. -/
abbrev Life.CALENDAR : Nat := 0x140006
/-- 0x1400.07: per slot; R412. -/
abbrev Life.EV_SEL : Nat := 0x140007
/-- 0x1400.08: R412. -/
abbrev Life.EV_REC : Nat := 0x140008
/-- 0x1400.09: sequence of the next record. -/
abbrev Life.EV_NEXT : Nat := 0x140009
/-- 0x1400.0A: MRAM log index, 0–4,095. -/
abbrev Life.LOG_SEL : Nat := 0x14000A
/-- 0x1400.0B: MRAM log record LOG_SEL. -/
abbrev Life.LOG_REC : Nat := 0x14000B
/-- 0x1400.0C: MRAM log records since manufacture. -/
abbrev Life.LOG_COUNT : Nat := 0x14000C

/-! 0x1800: unit status objects (Table 18.16, 18_control.md). -/
/-- Index of the unit status objects. -/
abbrev Svc.index : Nat := 0x1800
/-- 0x1800.01: 0 normal, 1 a unit retired or fenced, 2 HBM_FATAL. -/
abbrev Svc.HEALTH : Nat := 0x180001
/-- 0x1800.02: DSP cores in service. -/
abbrev Svc.DSP_SVC : Nat := 0x180002
/-- 0x1800.03: decode cores in service. -/
abbrev Svc.VD_SVC : Nat := 0x180003
/-- 0x1800.04: encode cores in service. -/
abbrev Svc.VE_SVC : Nat := 0x180004
/-- 0x1800.05: compositors in service. -/
abbrev Svc.CMP_SVC : Nat := 0x180005
/-- 0x1800.06: pseudo-channels in service. -/
abbrev Svc.PC_SVC : Nat := 0x180006
/-- 0x1800.07: ERROR records since reset. -/
abbrev Svc.ERRORS : Nat := 0x180007
/-- 0x1800.08: FATAL records since manufacture. -/
abbrev Svc.FATALS : Nat := 0x180008
/-- 0x1800.09: latest ERROR or FATAL record. -/
abbrev Svc.LAST_ERROR : Nat := 0x180009

/-! 0x2000: physical media port objects (Table 4.2, 04_media_ingress.md). -/
/-- Index of the physical media port objects. -/
abbrev Mp.index : Nat := 0x2000
/-- 0x2000[n].01: mode of Table 4.1; writable only while every logical port of MPn has ENABLE = 0. -/
abbrev Mp.SPLIT : Nat := 0x200001
/-- 0x2000[n].02: 0 CR (cable), 1 KR (backplane); same write condition as SPLIT. -/
abbrev Mp.MEDIUM : Nat := 0x200002
/-- 0x2000[n].03: Clause 73 auto-negotiation and link training. -/
abbrev Mp.AN : Nat := 0x200003
/-- 0x2000[n].04: bit k set: lane k has block lock; [7:4] reserved. -/
abbrev Mp.LANES_UP : Nat := 0x200004
/-- 0x2000[n].05: RS codewords corrected. -/
abbrev Mp.FEC_CORR : Nat := 0x200005
/-- 0x2000[n].06: RS codewords uncorrectable. -/
abbrev Mp.FEC_UNCORR : Nat := 0x200006

/-! 0x2010: logical port objects (Table 4.3, 04_media_ingress.md). -/
/-- Index of the logical port objects. -/
abbrev Lp.index : Nat := 0x2010
/-- 0x2010[p].01: MAC and FIFO in service. -/
abbrev Lp.ENABLE : Nat := 0x201001
/-- 0x2010[p].02: 0 down, 1 up. -/
abbrev Lp.LINK : Nat := 0x201002
/-- 0x2010[p].03: largest frame accepted, destination address through FCS, 1,518–9,216. -/
abbrev Lp.MAX_FRAME : Nat := 0x201003
/-- 0x2010[p].04: cut-through threshold in bytes, 64–16,384. -/
abbrev Lp.CT_THRESH : Nat := 0x201004
/-- 0x2010[p].05: pre-colour of DSCP d in byte d / 4, bits [2(d mod 4) + 1 : 2(d mod 4)]: 0 green, 1 yellow, 2 red; 3 is E_RANGE. -/
abbrev Lp.DSCP_COLOUR : Nat := 0x201005
/-- 0x2010[p].06: bytes held, 0–524,288. -/
abbrev Lp.FIFO_LEVEL : Nat := 0x201006
/-- 0x2010[p].07: frames accepted by the MAC. -/
abbrev Lp.RX_FRAMES : Nat := 0x201007
/-- 0x2010[p].08: bytes of those frames, FCS included. -/
abbrev Lp.RX_BYTES : Nat := 0x201008
/-- 0x2010[p].09: frames shorter than 64 bytes, dropped. -/
abbrev Lp.RUNT : Nat := 0x201009
/-- 0x2010[p].0A: frames with a bad FCS, dropped whole. -/
abbrev Lp.FCS_ERR : Nat := 0x20100A
/-- 0x2010[p].0B: frames above MAX_FRAME, dropped whole. -/
abbrev Lp.OVERSIZE : Nat := 0x20100B
/-- 0x2010[p].0C: frames dropped because the FIFO was full. -/
abbrev Lp.FIFO_OVF : Nat := 0x20100C
/-- 0x2010[p].0D: FIFO packets of length 0, dropped. -/
abbrev Lp.ZERO_LEN : Nat := 0x20100D
/-- 0x2010[p].0E: FIFO words with a corrected single-bit error. -/
abbrev Lp.CE_COUNT : Nat := 0x20100E
/-- 0x2010[p].0F: FIFO words with an uncorrectable error. -/
abbrev Lp.UE_COUNT : Nat := 0x20100F
/-- 0x2010[p].10: corrected words per second that raise FIFO_CE_RATE; 0 never. -/
abbrev Lp.CE_THRESH : Nat := 0x201010
/-- 0x2010[p].11: PAUSE and priority flow control frames discarded. -/
abbrev Lp.PAUSE_RX : Nat := 0x201011

/-! 0x2020: leg ingress objects (Table 4.6, 04_media_ingress.md). -/
/-- Index of the leg ingress objects. -/
abbrev LegIn.index : Nat := 0x2020
/-- 0x2020[L].01: RFC 6464 audio level extension ID, 1–255; 0 none. -/
abbrev LegIn.AL_EXT : Nat := 0x202001
/-- 0x2020[L].02: AV1 dependency descriptor extension ID; 0 none. -/
abbrev LegIn.DD_EXT : Nat := 0x202002
/-- 0x2020[L].03: layer descriptor extension ID; 0 none. -/
abbrev LegIn.LD_EXT : Nat := 0x202003
/-- 0x2020[L].04: replay window in packets, 64–1,024, a multiple of 64; writable only in OPEN. -/
abbrev LegIn.REPLAY_WIN : Nat := 0x202004
/-- 0x2020[L].05: SRTP and SRTCP packets whose tag failed. -/
abbrev LegIn.AUTH_FAIL : Nat := 0x202005
/-- 0x2020[L].06: packets dropped as duplicate or too old. -/
abbrev LegIn.REPLAY_DROP : Nat := 0x202006
/-- 0x2020[L].07: packets punted with reason 4. -/
abbrev LegIn.UNKNOWN_SSRC : Nat := 0x202007
/-- 0x2020[L].08: packets dropped under R92. -/
abbrev LegIn.MALFORMED : Nat := 0x202008
/-- 0x2020[L].09: SRTCP packets accepted. -/
abbrev LegIn.RTCP_RX : Nat := 0x202009

/-! 0x2030: punt steering objects (Table 4.8, 04_media_ingress.md). -/
/-- Index of the punt steering objects. -/
abbrev PuntRule.index : Nat := 0x2030
/-- 0x2030[i].01: entry in use. -/
abbrev PuntRule.ENABLE : Nat := 0x203001
/-- 0x2030[i].02: lowest destination port matched. -/
abbrev PuntRule.UDP_LO : Nat := 0x203002
/-- 0x2030[i].03: highest destination port matched; at least UDP_LO. -/
abbrev PuntRule.UDP_HI : Nat := 0x203003
/-- 0x2030[i].04: host slot 0–7. -/
abbrev PuntRule.HOST : Nat := 0x203004

/-! 0x2040: punt delivery objects (Table 4.9, 04_media_ingress.md). -/
/-- Index of the punt delivery objects. -/
abbrev Punt.index : Nat := 0x2040
/-- 0x2040[h].01: 0 PCIe punt ring of PFh, 1 UDP to the host's Xaras session address. -/
abbrev Punt.ROUTE : Nat := 0x204001
/-- 0x2040[h].02: frames per second, 1,000–1,000,000, enforced by the token bucket of R101. -/
abbrev Punt.PPS_MAX : Nat := 0x204002
/-- 0x2040[h].03: frames waiting, 0–4,096. -/
abbrev Punt.QUEUED : Nat := 0x204003
/-- 0x2040[h].04: frames delivered. -/
abbrev Punt.SENT : Nat := 0x204004
/-- 0x2040[h].05: frames dropped for rate, full queue or absent host. -/
abbrev Punt.DROPS : Nat := 0x204005

/-! 0x2100: meter objects (Table 4.7, 04_media_ingress.md). -/
/-- Index of the meter objects. -/
abbrev Meter.index : Nat := 0x2100
/-- 0x2100[S].01: 0: every packet green. -/
abbrev Meter.ENABLE : Nat := 0x210001
/-- 0x2100[S].02: 1 colour-aware, using DSCP_COLOUR of the arrival port. -/
abbrev Meter.AWARE : Nat := 0x210002
/-- 0x2100[S].03: committed rate in kb/s, 0–400,000,000. -/
abbrev Meter.CIR : Nat := 0x210003
/-- 0x2100[S].04: committed burst in bytes, 64–16,777,216. -/
abbrev Meter.CBS : Nat := 0x210004
/-- 0x2100[S].05: peak rate in kb/s, CIR–400,000,000. -/
abbrev Meter.PIR : Nat := 0x210005
/-- 0x2100[S].06: peak burst in bytes, 64–16,777,216. -/
abbrev Meter.PBS : Nat := 0x210006
/-- 0x2100[S].07: 1 REFILL: both buckets full. -/
abbrev Meter.CMD : Nat := 0x210007
/-- 0x2100[S].08: committed tokens, whole bytes. -/
abbrev Meter.TC : Nat := 0x210008
/-- 0x2100[S].09: peak tokens, whole bytes. -/
abbrev Meter.TP : Nat := 0x210009
/-- 0x2100[S].0A: packets marked green. -/
abbrev Meter.GREEN : Nat := 0x21000A
/-- 0x2100[S].0B: packets marked yellow. -/
abbrev Meter.YELLOW : Nat := 0x21000B
/-- 0x2100[S].0C: packets marked red and dropped. -/
abbrev Meter.RED : Nat := 0x21000C

/-! 0x2200: leg objects (Table 2.1, 02_legs_conferences.md). -/
/-- Index of the leg objects. -/
abbrev Leg.index : Nat := 0x2200
/-- 0x2200[L].01: 0 FREE, 1 OPEN, 2 ACTIVE, 3 CLOSING. -/
abbrev Leg.STATE : Nat := 0x220001
/-- 0x2200[L].02: [0] context 2L installed, [1] context 2L+1 installed, [7:2] reserved. -/
abbrev Leg.KEYS : Nat := 0x220002
/-- 0x2200[L].03: host slot of the partition holding L. -/
abbrev Leg.OWNER : Nat := 0x220003
/-- 0x2200[L].04: 0 wired, 1 radio; writable only in OPEN. -/
abbrev Leg.KIND : Nat := 0x220004
/-- 0x2200[L].05: wired: 4n + m for MPn.m (0–15); radio: 0 FP0, 1 FP1; writable only in OPEN. -/
abbrev Leg.PORT : Nat := 0x220005
/-- 0x2200[L].06: remote address; IPv4 as ::ffff:a.b.c.d. -/
abbrev Leg.REMOTE_IP : Nat := 0x220006
/-- 0x2200[L].07: remote UDP port. -/
abbrev Leg.REMOTE_UDP : Nat := 0x220007
/-- 0x2200[L].08: device-side address. -/
abbrev Leg.LOCAL_IP : Nat := 0x220008
/-- 0x2200[L].09: device-side UDP port. -/
abbrev Leg.LOCAL_UDP : Nat := 0x220009
/-- 0x2200[L].0A: 802.1Q VID 1–4094; 0xFFFF untagged. -/
abbrev Leg.VLAN : Nat := 0x22000A
/-- 0x2200[L].0B: conference 0–8,191; 0xFFFF none. -/
abbrev Leg.CONF : Nat := 0x22000B
/-- 0x2200[L].0C: codec configuration of the mix the leg receives (0x3100 list); 0xFFFF none. -/
abbrev Leg.AUDIO_CFG : Nat := 0x22000C
/-- 0x2200[L].0D: highest layer id the host allows, 0–11. -/
abbrev Leg.CAP_LAYER : Nat := 0x22000D
/-- 0x2200[L].0E: current layer ceiling: the lower of CAP_LAYER and the line-derived ceiling. -/
abbrev Leg.CEIL_LAYER : Nat := 0x22000E
/-- 0x2200[L].0F: Fret user identifier, radio legs only. -/
abbrev Leg.RADIO_UE : Nat := 0x22000F
/-- 0x2200[L].10: sources whose LEG is L, 0–4. -/
abbrev Leg.SOURCES : Nat := 0x220010
/-- 0x2200[L].11: subscriptions whose LEG is L. -/
abbrev Leg.SUBS : Nat := 0x220011
/-- 0x2200[L].20: 1 OPEN, 2 ACTIVATE, 3 CLOSE. -/
abbrev Leg.CMD : Nat := 0x220020

/-! 0x2230: leg feedback objects (Table 5.6, 05_layer_forwarding.md). -/
/-- Index of the leg feedback objects. -/
abbrev LegFb.index : Nat := 0x2230
/-- 0x2230[L].01: ms, 100–5,000. -/
abbrev LegFb.RTCP_INTERVAL : Nat := 0x223001
/-- 0x2230[L].02: history depth in packets, 0–4,096; 0 no NACK service. -/
abbrev LegFb.HIST_PKTS : Nat := 0x223002
/-- 0x2230[L].03: history age in ms, 100–3,000. -/
abbrev LegFb.HIST_MS : Nat := 0x223003
/-- 0x2230[L].04: least time between resends of one packet in ms, 5–500. -/
abbrev LegFb.NACK_HOLD : Nat := 0x223004
/-- 0x2230[L].05: NACK this leg's sources under R118. -/
abbrev LegFb.UP_NACK : Nat := 0x223005
/-- 0x2230[L].06: CNAME sent; empty: "bxn-" and the leg ID as 8 upper-case hexadecimal digits with leading zeros, without prefix or underscores, so that leg 8,200 sends "bxn-00002008". -/
abbrev LegFb.CNAME : Nat := 0x223006
/-- 0x2230[L].07: sequence numbers NACKed by the leg. -/
abbrev LegFb.NACK_RX : Nat := 0x223007
/-- 0x2230[L].08: retransmissions sent. -/
abbrev LegFb.RTX_SENT : Nat := 0x223008
/-- 0x2230[L].09: NACKs not served. -/
abbrev LegFb.NACK_MISS : Nat := 0x223009
/-- 0x2230[L].0A: RTCP packets discarded under Table 5.3. -/
abbrev LegFb.RTCP_OTHER : Nat := 0x22300A

/-! 0x2280: partition objects (Table 2.8, 02_legs_conferences.md). -/
/-- Index of the partition objects. -/
abbrev Part.index : Nat := 0x2280
/-- 0x2280[h].01: first leg ID. -/
abbrev Part.LEG_BASE : Nat := 0x228001
/-- 0x2280[h].02: leg IDs in the range, and leg quota. -/
abbrev Part.LEG_COUNT : Nat := 0x228002
/-- 0x2280[h].03: first conference ID. -/
abbrev Part.CONF_BASE : Nat := 0x228003
/-- 0x2280[h].04: conference IDs in the range. -/
abbrev Part.CONF_COUNT : Nat := 0x228004
/-- 0x2280[h].05: first source ID. -/
abbrev Part.SRC_BASE : Nat := 0x228005
/-- 0x2280[h].06: source IDs in the range. -/
abbrev Part.SRC_COUNT : Nat := 0x228006
/-- 0x2280[h].07: first subscription handle. -/
abbrev Part.SUB_BASE : Nat := 0x228007
/-- 0x2280[h].08: handles in the range. -/
abbrev Part.SUB_COUNT : Nat := 0x228008
/-- 0x2280[h].09: DSP, in M cycles/s × 10. -/
abbrev Part.DSP_QUOTA : Nat := 0x228009
/-- 0x2280[h].0A: decode pixel rate, in kpixel/s. -/
abbrev Part.VDEC_QUOTA : Nat := 0x22800A
/-- 0x2280[h].0B: encode pixel rate, in kpixel/s. -/
abbrev Part.VENC_QUOTA : Nat := 0x22800B
/-- 0x2280[h].0C: compositor output slots. -/
abbrev Part.CMP_QUOTA : Nat := 0x22800C
/-- 0x2280[h].11: charged, units as .09. -/
abbrev Part.DSP_USED : Nat := 0x228011
/-- 0x2280[h].12: charged, units as .0A. -/
abbrev Part.VDEC_USED : Nat := 0x228012
/-- 0x2280[h].13: charged, units as .0B. -/
abbrev Part.VENC_USED : Nat := 0x228013
/-- 0x2280[h].14: charged, units as .0C. -/
abbrev Part.CMP_USED : Nat := 0x228014

/-! 0x2290: device capacity objects (Table 2.9, 02_legs_conferences.md). -/
/-- Index of the device capacity objects. -/
abbrev Cap.index : Nat := 0x2290
/-- 0x2290.01: floor(16,090 × cores in service × f / 100), units of M cycles/s × 10; f is BW_FACTOR of R371. -/
abbrev Cap.DSP_CAP : Nat := 0x229001
/-- 0x2290.02: charged. -/
abbrev Cap.DSP_USED : Nat := 0x229002
/-- 0x2290.03: floor(497,664 kpixel/s × decode cores in service × f / 100). -/
abbrev Cap.VDEC_CAP : Nat := 0x229003
/-- 0x2290.04: charged. -/
abbrev Cap.VDEC_USED : Nat := 0x229004
/-- 0x2290.05: floor(497,664 kpixel/s × encode cores in service × f / 100). -/
abbrev Cap.VENC_CAP : Nat := 0x229005
/-- 0x2290.06: charged. -/
abbrev Cap.VENC_USED : Nat := 0x229006
/-- 0x2290.07: floor(2 output slots × compositors in service × f / 100). -/
abbrev Cap.CMP_CAP : Nat := 0x229007
/-- 0x2290.08: charged. -/
abbrev Cap.CMP_USED : Nat := 0x229008
/-- 0x2290.09: legs not FREE. -/
abbrev Cap.LEGS_USED : Nat := 0x229009
/-- 0x2290.0A: conferences not FREE. -/
abbrev Cap.CONFS_USED : Nat := 0x22900A
/-- 0x2290.0B: sources not FREE. -/
abbrev Cap.SRCS_USED : Nat := 0x22900B
/-- 0x2290.0C: subscriptions not FREE. -/
abbrev Cap.SUBS_USED : Nat := 0x22900C

/-! 0x2300: conference objects (Table 2.4, 02_legs_conferences.md). -/
/-- Index of the conference objects. -/
abbrev Conf.index : Nat := 0x2300
/-- 0x2300[C].01: 0 FREE, 1 OPEN. -/
abbrev Conf.STATE : Nat := 0x230001
/-- 0x2300[C].02: host slot of the partition holding C. -/
abbrev Conf.OWNER : Nat := 0x230002
/-- 0x2300[C].03: talkers mixed, 1–16. -/
abbrev Conf.TOPK : Nat := 0x230003
/-- 0x2300[C].04: candidate sources decoded per block, TOPK–32. -/
abbrev Conf.CAND_MAX : Nat := 0x230004
/-- 0x2300[C].05: host cap on members, 0–131,072. -/
abbrev Conf.MAX_MEMBERS : Nat := 0x230005
/-- 0x2300[C].06: legs whose CONF is C. -/
abbrev Conf.MEMBERS : Nat := 0x230006
/-- 0x2300[C].07: distinct AUDIO_CFG values among members other than 0xFFFF. -/
abbrev Conf.GROUPS : Nat := 0x230007
/-- 0x2300[C].20: 1 OPEN, 2 CLOSE. -/
abbrev Conf.CMD : Nat := 0x230020

/-! 0x2400: source objects (Table 2.5, 02_legs_conferences.md). -/
/-- Index of the source objects. -/
abbrev Src.index : Nat := 0x2400
/-- 0x2400[S].01: 0 FREE, 1 DEFINED. -/
abbrev Src.STATE : Nat := 0x240001
/-- 0x2400[S].02: host slot of the partition holding S. -/
abbrev Src.OWNER : Nat := 0x240002
/-- 0x2400[S].03: sending leg; 0xFFFF_FFFF device-produced; writable only in FREE. -/
abbrev Src.LEG : Nat := 0x240003
/-- 0x2400[S].04: 0 audio, 1 video; writable only in FREE. -/
abbrev Src.MEDIA : Nat := 0x240004
/-- 0x2400[S].05: sender SSRC; unique among the sources of one leg; device-assigned if LEG = 0xFFFF_FFFF. -/
abbrev Src.SSRC : Nat := 0x240005
/-- 0x2400[S].06: RTP payload type, 0–127. -/
abbrev Src.PT : Nat := 0x240006
/-- 0x2400[S].07: 0 Opus, 1 EVS, 2 AMR-WB, 3 G.722, 4 G.711 µ-law, 5 G.711 A-law, 16 AV1, 17 HEVC, 18 AVC. -/
abbrev Src.CODEC : Nat := 0x240007
/-- 0x2400[S].08: RFC 4588 retransmission SSRC. -/
abbrev Src.RTX_SSRC : Nat := 0x240008
/-- 0x2400[S].09: retransmission payload type; 0xFF none. -/
abbrev Src.RTX_PT : Nat := 0x240009
/-- 0x2400[S].0A: payload end-to-end encrypted: forwarded and trimmed only. -/
abbrev Src.E2E : Nat := 0x24000A
/-- 0x2400[S].0B: bit l set: layer l seen within the last 2 s; [15:12] reserved. -/
abbrev Src.LAYERS : Nat := 0x24000B
/-- 0x2400[S].0C: encoded by the device in spliceable mode. -/
abbrev Src.SPLICEABLE : Nat := 0x24000C
/-- 0x2400[S].20: 1 DEFINE, 2 DELETE. -/
abbrev Src.CMD : Nat := 0x240020

/-! 0x2410: layer objects (Table 2.6, 02_legs_conferences.md). -/
/-- Index of the layer objects. -/
abbrev Layer.index : Nat := 0x2410
/-- 0x2410[e].01: equals bit l of LAYERS. -/
abbrev Layer.PRESENT : Nat := 0x241001
/-- 0x2410[e].02: luma width of spatial layer s = l / 4. -/
abbrev Layer.WIDTH : Nat := 0x241002
/-- 0x2410[e].03: luma height. -/
abbrev Layer.HEIGHT : Nat := 0x241003
/-- 0x2410[e].04: frame rate up to temporal layer t = l mod 4, in 1/100 fps. -/
abbrev Layer.FPS : Nat := 0x241004
/-- 0x2410[e].05: rate of this layer alone: 8 × the sum of the IP lengths of the source's packets tagged with layer l (R104) and committed to the packet store (R96) within the 1 s that ends when the value is read or used, divided by 1,000 and rounded down; retransmissions restored under R118 and intra alternatives (R318) included. -/
abbrev Layer.KBPS : Nat := 0x241005

/-! 0x2420: source forwarding objects (Table 5.4, 05_layer_forwarding.md). -/
/-- Index of the source forwarding objects. -/
abbrev SrcFwd.index : Nat := 0x2420
/-- 0x2420[S].01: 0 spatial layers dependent, 1 independent; writable only while the source is FREE; device-produced HEVC and AVC sources read 1. -/
abbrev SrcFwd.SMODE : Nat := 0x242001
/-- 0x2420[S].02: least time between refresh requests upstream in ms, 100–10,000. -/
abbrev SrcFwd.PLI_MIN : Nat := 0x242002
/-- 0x2420[S].03: splice group; 0xFF none. -/
abbrev SrcFwd.GROUP : Nat := 0x242003
/-- 0x2420[S].04: layer frames tagged. -/
abbrev SrcFwd.FRAMES : Nat := 0x242004
/-- 0x2420[S].05: packets dropped under R105, or as too late to join a frame under R104. -/
abbrev SrcFwd.UNTAGGED : Nat := 0x242005
/-- 0x2420[S].06: PLIs sent upstream. -/
abbrev SrcFwd.PLI_TX : Nat := 0x242006
/-- 0x2420[S].07: FIRs sent upstream. -/
abbrev SrcFwd.FIR_TX : Nat := 0x242007
/-- 0x2420[S].08: sequence numbers NACKed upstream. -/
abbrev SrcFwd.NACK_TX : Nat := 0x242008
/-- 0x2420[S].09: BYE received. -/
abbrev SrcFwd.BYE : Nat := 0x242009

/-! 0x2500: subscription objects (Table 2.7, 02_legs_conferences.md). -/
/-- Index of the subscription objects. -/
abbrev Sub.index : Nat := 0x2500
/-- 0x2500[H].01: 0 FREE, 1 ACTIVE. -/
abbrev Sub.STATE : Nat := 0x250001
/-- 0x2500[H].02: receiving leg. -/
abbrev Sub.LEG : Nat := 0x250002
/-- 0x2500[H].03: source received. -/
abbrev Sub.SOURCE : Nat := 0x250003
/-- 0x2500[H].04: highest layer id for this subscription, 0–11. -/
abbrev Sub.MAX_LAYER : Nat := 0x250004
/-- 0x2500[H].05: layer now forwarded; 0xFF none yet. -/
abbrev Sub.CUR_LAYER : Nat := 0x250005
/-- 0x2500[H].06: 1: device picks OUT_SSRC unique among the leg's subscriptions. -/
abbrev Sub.SSRC_AUTO : Nat := 0x250006
/-- 0x2500[H].07: rewritten SSRC; the device's pick while SSRC_AUTO = 1, when a write fails with E_STATE (R51). -/
abbrev Sub.OUT_SSRC : Nat := 0x250007
/-- 0x2500[H].20: 1 CREATE, 2 DELETE. -/
abbrev Sub.CMD : Nat := 0x250020

/-! 0x2520: subscription forwarding objects (Table 5.5, 05_layer_forwarding.md). -/
/-- Index of the subscription forwarding objects. -/
abbrev SubFwd.index : Nat := 0x2520
/-- 0x2520[H].01: packets forwarded. -/
abbrev SubFwd.PKTS : Nat := 0x252001
/-- 0x2520[H].02: RTP bytes forwarded. -/
abbrev SubFwd.BYTES : Nat := 0x252002
/-- 0x2520[H].03: changes of CUR_LAYER. -/
abbrev SubFwd.SWITCHES : Nat := 0x252003
/-- 0x2520[H].04: layer id of best_layer of R110. -/
abbrev SubFwd.TARGET : Nat := 0x252004
/-- 0x2520[H].05: retransmission SSRC; device-picked and read back when SSRC_AUTO = 1. -/
abbrev SubFwd.OUT_RTX_SSRC : Nat := 0x252005
/-- 0x2520[H].06: retransmission payload type; 0xFF no NACK service. -/
abbrev SubFwd.OUT_RTX_PT : Nat := 0x252006
/-- 0x2520[H].07: time-stamp offset of R112. -/
abbrev SubFwd.TS_OFFSET : Nat := 0x252007
/-- 0x2520[H].08: sequence offset of R113. -/
abbrev SubFwd.SEQ_OFFSET : Nat := 0x252008
/-- 0x2520[H].09: packets dropped under R113. -/
abbrev SubFwd.LATE : Nat := 0x252009
/-- 0x2520[H].0A: mosaic positions that carried a skip tile. -/
abbrev SubFwd.SKIP_TILES : Nat := 0x25200A

/-! 0x2570: splice group objects (Table 5.9, 05_layer_forwarding.md). -/
/-- Index of the splice group objects. -/
abbrev Splice.index : Nat := 0x2570
/-- 0x2570[G].01: 0 FREE, 1 OPEN. -/
abbrev Splice.STATE : Nat := 0x257001
/-- 0x2570[G].02: host slot that opened it. -/
abbrev Splice.OWNER : Nat := 0x257002
/-- 0x2570[G].03: 16 AV1, 17 HEVC. -/
abbrev Splice.CODEC : Nat := 0x257003
/-- 0x2570[G].04: 8 or 10 bits. -/
abbrev Splice.DEPTH : Nat := 0x257004
/-- 0x2570[G].05: N of R74. -/
abbrev Splice.RATE_N : Nat := 0x257005
/-- 0x2570[G].06: D of R74. -/
abbrev Splice.RATE_D : Nat := 0x257006
/-- 0x2570[G].07: luma width, a multiple of 64, 64–1,920. -/
abbrev Splice.TILE_W : Nat := 0x257007
/-- 0x2570[G].08: luma height, a multiple of 64, 64–1,088. -/
abbrev Splice.TILE_H : Nat := 0x257008
/-- 0x2570[G].09: splice period in pictures, 4–128. -/
abbrev Splice.PERIOD : Nat := 0x257009
/-- 0x2570[G].0A: 0 to PERIOD − 1. -/
abbrev Splice.PHASE : Nat := 0x25700A
/-- 0x2570[G].0B: [29:20] Y′, [19:10] Cb, [9:0] Cr at 10 bits; [31:30] 0; default Y′ 64, Cb 512, Cr 512, limited-range black. -/
abbrev Splice.FILL : Nat := 0x25700B
/-- 0x2570[G].0C: sources with GROUP = G. -/
abbrev Splice.MEMBERS : Nat := 0x25700C
/-- 0x2570[G].20: 1 OPEN, 2 CLOSE. -/
abbrev Splice.CMD : Nat := 0x257020

/-! 0x2580: mosaic objects (Table 5.10, 05_layer_forwarding.md). -/
/-- Index of the mosaic objects. -/
abbrev Mos.index : Nat := 0x2580
/-- 0x2580[M].01: 0 FREE, 1 OPEN. -/
abbrev Mos.STATE : Nat := 0x258001
/-- 0x2580[M].02: host slot that opened it. -/
abbrev Mos.OWNER : Nat := 0x258002
/-- 0x2580[M].03: splice group; must be OPEN at OPEN. -/
abbrev Mos.GROUP : Nat := 0x258003
/-- 0x2580[M].04: 1–8. -/
abbrev Mos.COLS : Nat := 0x258004
/-- 0x2580[M].05: 1–8. -/
abbrev Mos.ROWS : Nat := 0x258005
/-- 0x2580[M].06: a DEFINED video source with LEG = 0xFFFF_FFFF that viewers subscribe to. -/
abbrev Mos.OUT_SOURCE : Nat := 0x258006
/-- 0x2580[M].07: replace a viewer's own sources by spares. -/
abbrev Mos.EXCLUDE_SELF : Nat := 0x258007
/-- 0x2580[M].08: ACTIVE subscriptions to OUT_SOURCE. -/
abbrev Mos.VIEWERS : Nat := 0x258008
/-- 0x2580[M].09: position switches over all viewers. -/
abbrev Mos.SWITCHES : Nat := 0x258009
/-- 0x2580[M].0A: skip tiles emitted over all viewers. -/
abbrev Mos.SKIPS : Nat := 0x25800A
/-- 0x2580[M].20: 1 OPEN, 2 CLOSE. -/
abbrev Mos.CMD : Nat := 0x258020

/-! 0x2590: mosaic position objects (Table 5.11, 05_layer_forwarding.md). -/
/-- Index of the mosaic position objects. -/
abbrev MosPos.index : Nat := 0x2590
/-- 0x2590[e].01: member source; 0xFFFF_FFFF empty; another source of the group or not SPLICEABLE fails with E_STATE. -/
abbrev MosPos.SOURCE : Nat := 0x259001

/-! 0x2600: port egress objects (Table 7.2, 07_egress_shaping.md). -/
/-- Index of the port egress objects. -/
abbrev Egr.index : Nat := 0x2600
/-- 0x2600[p].01: bytes queued on the port, 262,144–16,777,216; the sum over all ports is at most 67,108,864. -/
abbrev Egr.QMAX : Nat := 0x260001
/-- 0x2600[p].02: percent of QMAX from which yellow enhancement copies drop. -/
abbrev Egr.TH_ENH : Nat := 0x260002
/-- 0x2600[p].03: percent from which yellow copies other than audio drop. -/
abbrev Egr.TH_YEL : Nat := 0x260003
/-- 0x2600[p].04: percent from which all enhancement copies drop. -/
abbrev Egr.TH_GRN : Nat := 0x260004
/-- 0x2600[p].05: bytes charged per copy on top of its IP length, 0–64. -/
abbrev Egr.L2_OVH : Nat := 0x260005
/-- 0x2600[p].06: percent of the estimate usable for video, 10–100. -/
abbrev Egr.HEADROOM : Nat := 0x260006
/-- 0x2600[p].07: kb/s held back for audio, 0–1,000. -/
abbrev Egr.AUDIO_RES : Nat := 0x260007
/-- 0x2600[p].08: windows a higher ceiling must persist before it applies, 1–50. -/
abbrev Egr.UP_WINDOWS : Nat := 0x260008
/-- 0x2600[p].09: bytes queued. -/
abbrev Egr.QLEVEL : Nat := 0x260009
/-- 0x2600[p].0A: copies handed to the MAC. -/
abbrev Egr.TX_PKTS : Nat := 0x26000A
/-- 0x2600[p].0B: charged bytes of those copies. -/
abbrev Egr.TX_BYTES : Nat := 0x26000B
/-- 0x2600[p].0C: copies dropped under R165, copies discarded at step 5 of Table 2.3 for a closing leg, and copies discarded for a disabled port (R83). -/
abbrev Egr.DROPS : Nat := 0x26000C

/-! 0x2610: leg group objects (Table 7.3, 07_egress_shaping.md). -/
/-- Index of the leg group objects. -/
abbrev LegGrp.index : Nat := 0x2610
/-- 0x2610[G].01: 0 FREE, 1 OPEN. -/
abbrev LegGrp.STATE : Nat := 0x261001
/-- 0x2610[G].02: host slot that opened it. -/
abbrev LegGrp.OWNER : Nat := 0x261002
/-- 0x2610[G].03: logical port 0–15. -/
abbrev LegGrp.PORT : Nat := 0x261003
/-- 0x2610[G].04: kb/s, 16–400,000,000. -/
abbrev LegGrp.RATE : Nat := 0x261004
/-- 0x2610[G].05: bytes, 1–16,777,216. -/
abbrev LegGrp.BURST : Nat := 0x261005
/-- 0x2610[G].06: 1: tokens to zero at the applying tick. -/
abbrev LegGrp.RESET : Nat := 0x261006
/-- 0x2610[G].07: legs with GROUP = G. -/
abbrev LegGrp.LEGS : Nat := 0x261007
/-- 0x2610[G].08: floor(tok / 8,000,000). -/
abbrev LegGrp.TOKENS : Nat := 0x261008
/-- 0x2610[G].20: 1 OPEN, 2 CLOSE. -/
abbrev LegGrp.CMD : Nat := 0x261020

/-! 0x2620: leg egress objects (Table 7.4, 07_egress_shaping.md). -/
/-- Index of the leg egress objects. -/
abbrev Shp.index : Nat := 0x2620
/-- 0x2620[L].01: leg group 0–4,095; 0xFFFF none. -/
abbrev Shp.GROUP : Nat := 0x262001
/-- 0x2620[L].02: kb/s, 16–400,000,000; written by the device while AUTO_RATE = 1. -/
abbrev Shp.RATE : Nat := 0x262002
/-- 0x2620[L].03: bytes, 1–16,777,216. -/
abbrev Shp.BURST : Nat := 0x262003
/-- 0x2620[L].04: 1: tokens to zero at the applying tick. -/
abbrev Shp.RESET : Nat := 0x262004
/-- 0x2620[L].05: 1: RATE follows EST_KBPS (R171). -/
abbrev Shp.AUTO_RATE : Nat := 0x262005
/-- 0x2620[L].06: bytes queued for the leg, 16,384–4,194,304. -/
abbrev Shp.QMAX : Nat := 0x262006
/-- 0x2620[L].07: 0–63. -/
abbrev Shp.DSCP_AUDIO : Nat := 0x262007
/-- 0x2620[L].08: 0–63. -/
abbrev Shp.DSCP_RTX : Nat := 0x262008
/-- 0x2620[L].09: 0–63. -/
abbrev Shp.DSCP_BASE : Nat := 0x262009
/-- 0x2620[L].0A: 0–63. -/
abbrev Shp.DSCP_ENH : Nat := 0x26200A
/-- 0x2620[L].0B: 0–63 for yellow copies; 0xFF class DSCP. -/
abbrev Shp.DSCP_YEL : Nat := 0x26200B
/-- 0x2620[L].0C: 0 Not-ECT, 1 ECT(0), 2 ECT(1). -/
abbrev Shp.ECN : Nat := 0x26200C
/-- 0x2620[L].0D: floor(tok / 8,000,000). -/
abbrev Shp.TOKENS : Nat := 0x26200D
/-- 0x2620[L].0E: charged bytes queued. -/
abbrev Shp.QBYTES : Nat := 0x26200E
/-- 0x2620[L].0F: copies handed to the MAC. -/
abbrev Shp.TX_PKTS : Nat := 0x26200F
/-- 0x2620[L].10: charged bytes of those copies. -/
abbrev Shp.TX_BYTES : Nat := 0x262010
/-- 0x2620[L].11: yellow copies dropped under R165. -/
abbrev Shp.DROP_YELLOW : Nat := 0x262011
/-- 0x2620[L].12: green copies dropped under R165. -/
abbrev Shp.DROP_GREEN : Nat := 0x262012
/-- 0x2620[L].13: copies dropped as the rest of a dropped frame. -/
abbrev Shp.DROP_FRAME : Nat := 0x262013

/-! 0x2630: leg line objects (Table 7.5, 07_egress_shaping.md). -/
/-- Index of the leg line objects. -/
abbrev Line.index : Nat := 0x2630
/-- 0x2630[L].01: [0] RFC 8888, [1] TMMBR; [7:2] reserved; 0 no line adaptation. -/
abbrev Line.FB_MODE : Nat := 0x263001
/-- 0x2630[L].02: initial estimate, MIN_KBPS–MAX_KBPS. -/
abbrev Line.START_KBPS : Nat := 0x263002
/-- 0x2630[L].03: 16–400,000,000. -/
abbrev Line.MIN_KBPS : Nat := 0x263003
/-- 0x2630[L].04: MIN_KBPS–400,000,000. -/
abbrev Line.MAX_KBPS : Nat := 0x263004
/-- 0x2630[L].05: percent, 0–LOSS_HI. -/
abbrev Line.LOSS_LO : Nat := 0x263005
/-- 0x2630[L].06: percent, 1–100. -/
abbrev Line.LOSS_HI : Nat := 0x263006
/-- 0x2630[L].07: percent, 1–100. -/
abbrev Line.CE_HI : Nat := 0x263007
/-- 0x2630[L].08: ms, 200–10,000. -/
abbrev Line.FB_TIMEOUT : Nat := 0x263008
/-- 0x2630[L].09: current estimate. -/
abbrev Line.EST_KBPS : Nat := 0x263009
/-- 0x2630[L].0A: line-derived ceiling, layer id 0–11. -/
abbrev Line.LINE_CEIL : Nat := 0x26300A
/-- 0x2630[L].0B: held TMMBR value; 0xFFFF_FFFF none. -/
abbrev Line.TMMBR_KBPS : Nat := 0x26300B
/-- 0x2630[L].0C: loss of the latest window with reports. -/
abbrev Line.LOSS_PCT : Nat := 0x26300C
/-- 0x2630[L].0D: RFC 8888 reports received. -/
abbrev Line.FB_RX : Nat := 0x26300D
/-- 0x2630[L].0E: TMMBN packets sent. -/
abbrev Line.TMMBN_TX : Nat := 0x26300E

/-! 0x2700: Fret port objects (Table 6.1, 06_fret_interface.md). -/
/-- Index of the Fret port objects. -/
abbrev Fret.index : Nat := 0x2700
/-- 0x2700[f].01: Fret service on the port. -/
abbrev Fret.ENABLE : Nat := 0x270001
/-- 0x2700[f].02: EtherType of Fret frames, 0x0600–0xFFFF except 0x0800, 0x0806, 0x8100, 0x86DD, 0x8809, 0x88A8 and 0x88F7; writable only with ENABLE = 0. -/
abbrev Fret.ETYPE : Nat := 0x270002
/-- 0x2700[f].03: 0 CR1, 1 KR1; writable only with ENABLE = 0. -/
abbrev Fret.MEDIUM : Nat := 0x270003
/-- 0x2700[f].04: device address on the port. -/
abbrev Fret.LOCAL_MAC : Nat := 0x270004
/-- 0x2700[f].05: destination of the frames the device sends. -/
abbrev Fret.PEER_MAC : Nat := 0x270005
/-- 0x2700[f].06: 802.1Q VID of Fret frames, 1–4094; 0xFFFF untagged. -/
abbrev Fret.VLAN : Nat := 0x270006
/-- 0x2700[f].07: bytes charged per packet on top of its airborne size, 0–64. -/
abbrev Fret.PKT_OVH : Nat := 0x270007
/-- 0x2700[f].08: deadline of audio and SRTCP packets in ms, 5–2,000. -/
abbrev Fret.DL_AUDIO : Nat := 0x270008
/-- 0x2700[f].09: deadline of retransmissions in ms, 5–2,000. -/
abbrev Fret.DL_RTX : Nat := 0x270009
/-- 0x2700[f].0A: deadline of layer frames in ms, 5–2,000. -/
abbrev Fret.DL_VIDEO : Nat := 0x27000A
/-- 0x2700[f].0B: furthest slot start a QUERY may name, in µs after acceptance, 1,000–20,000. -/
abbrev Fret.MAX_LEAD : Nat := 0x27000B
/-- 0x2700[f].0C: airborne bytes queued per leg, 65,536–16,777,216. -/
abbrev Fret.QUEUE_MAX : Nat := 0x27000C
/-- 0x2700[f].0D: send HINT frames. -/
abbrev Fret.HINT_ENABLE : Nat := 0x27000D
/-- 0x2700[f].0E: also report candidates outside the top K. -/
abbrev Fret.HINT_CAND : Nat := 0x27000E
/-- 0x2700[f].0F: longest gap between HINT frames in ms, 10–1,000. -/
abbrev Fret.HINT_REFRESH : Nat := 0x27000F
/-- 0x2700[f].10: percent of the reported rate usable for media, 10–100. -/
abbrev Fret.HEADROOM : Nat := 0x270010
/-- 0x2700[f].11: kb/s held back for audio, 0–1,000. -/
abbrev Fret.AUDIO_RES : Nat := 0x270011
/-- 0x2700[f].12: windows a higher ceiling must persist before it applies, 1–50. -/
abbrev Fret.UP_WINDOWS : Nat := 0x270012
/-- 0x2700[f].13: ms without a LINK entry after which the line ceiling is 0, 200–10,000. -/
abbrev Fret.LINK_TIMEOUT : Nat := 0x270013
/-- 0x2700[f].14: tolerated SLOT time difference in ns, 100–1,000,000. -/
abbrev Fret.SLOT_TOL : Nat := 0x270014
/-- 0x2700[f].15: ms without a valid frame before the peer counts as lost, 10–1,000. -/
abbrev Fret.PEER_TIMEOUT : Nat := 0x270015
/-- 0x2700[f].20: 0 unknown or lost, 1 alive. -/
abbrev Fret.PEER : Nat := 0x270020
/-- 0x2700[f].21: QUERY frames accepted. -/
abbrev Fret.QUERIES : Nat := 0x270021
/-- 0x2700[f].22: QUERY entries answered. -/
abbrev Fret.ENTRIES : Nat := 0x270022
/-- 0x2700[f].23: QUERYs answered with STATUS 1, 2 or 4. -/
abbrev Fret.STALE : Nat := 0x270023
/-- 0x2700[f].24: QUERYs answered with STATUS 3. -/
abbrev Fret.REPEATS : Nat := 0x270024
/-- 0x2700[f].25: longest time from step 1 to step 4 of Table 6.8 since reset, in ns. -/
abbrev Fret.ANSWER_MAX : Nat := 0x270025
/-- 0x2700[f].26: DATA frames sent. -/
abbrev Fret.DATA_TX : Nat := 0x270026
/-- 0x2700[f].27: HINT frames sent. -/
abbrev Fret.HINT_TX : Nat := 0x270027
/-- 0x2700[f].28: ERROR frames sent. -/
abbrev Fret.ERROR_TX : Nat := 0x270028
/-- 0x2700[f].29: Fret frames or entries discarded, runts, and other frames discarded while ENABLE is 0 (R134). -/
abbrev Fret.RX_DISCARD : Nat := 0x270029
/-- 0x2700[f].2A: gaps in the scheduler's SEQ. -/
abbrev Fret.SEQ_GAPS : Nat := 0x27002A
/-- 0x2700[f].2B: SLOT frames outside SLOT_TOL or with another MU. -/
abbrev Fret.SLOT_MISMATCH : Nat := 0x27002B
/-- 0x2700[f].2C: talker sets cut under R150. -/
abbrev Fret.HINT_TRUNC : Nat := 0x27002C

/-! 0x2710: leg Fret objects (Table 6.4, 06_fret_interface.md). -/
/-- Index of the leg Fret objects. -/
abbrev FLeg.index : Nat := 0x2710
/-- 0x2710[L].01: radio bearer 0–31; writable only in OPEN; rewritten by REMAP. -/
abbrev FLeg.BEARER : Nat := 0x271001
/-- 0x2710[L].02: 0 none, 1 ACTIVE, 2 SUSPENDED, 3 RELEASED. -/
abbrev FLeg.FSTATE : Nat := 0x271002
/-- 0x2710[L].03: airborne bytes queued. -/
abbrev FLeg.QBYTES : Nat := 0x271003
/-- 0x2710[L].04: rate r of the latest window of R148. -/
abbrev FLeg.LINK_KBPS : Nat := 0x271004
/-- 0x2710[L].05: line-derived ceiling, layer id 0–11. -/
abbrev FLeg.LINE_CEIL : Nat := 0x271005
/-- 0x2710[L].06: packets committed. -/
abbrev FLeg.COMMIT_PKTS : Nat := 0x271006
/-- 0x2710[L].07: bytes charged to budgets. -/
abbrev FLeg.COMMIT_BYTES : Nat := 0x271007
/-- 0x2710[L].08: layer frames trimmed. -/
abbrev FLeg.TRIMMED : Nat := 0x271008
/-- 0x2710[L].09: packets and layer frames expired. -/
abbrev FLeg.EXPIRED : Nat := 0x271009
/-- 0x2710[L].0A: items not enqueued or abandoned (R138). -/
abbrev FLeg.Q_DROP : Nat := 0x27100A
/-- 0x2710[L].0B: GEN of the summary. -/
abbrev FLeg.GEN : Nat := 0x27100B

/-! 0x2800: crypto context objects (Table 8.2, 08_srtp_cipher.md). -/
/-- Index of the crypto context objects. -/
abbrev Ctx.index : Nat := 0x2800
/-- 0x2800[c].01: 0 EMPTY, 1 KEYED, 2 EXHAUSTED (a stream refused under R188), 3 FAULT. -/
abbrev Ctx.STATE : Nat := 0x280001
/-- 0x2800[c].02: SUITE of Table 8.1; 0 until the first blob after the leg is opened; kept through ERASE (R192). -/
abbrev Ctx.SUITE : Nat := 0x280002
/-- 0x2800[c].03: blobs installed since the leg was opened. -/
abbrev Ctx.GEN : Nat := 0x280003
/-- 0x2800[c].04: KEK slot that wrapped the current key; 0xFF none. -/
abbrev Ctx.KEK : Nat := 0x280004
/-- 0x2800[c].05: key blob of Table 8.5. -/
abbrev Ctx.INSTALL : Nat := 0x280005
/-- 0x2800[c].06: 1 erase. -/
abbrev Ctx.ERASE : Nat := 0x280006
/-- 0x2800[c].07: ms the previous generation's keys are kept, 0–10,000; receive contexts only, 0 on send contexts. -/
abbrev Ctx.PREV_HOLD : Nat := 0x280007
/-- 0x2800[c].08: streams held. -/
abbrev Ctx.STREAMS : Nat := 0x280008
/-- 0x2800[c].09: [0] SRTP rekey warning, [1] SRTCP rekey warning, under the current GEN; [7:2] reserved. -/
abbrev Ctx.WARN : Nat := 0x280009
/-- 0x2800[c].0A: packets protected or verified. -/
abbrev Ctx.PKTS : Nat := 0x28000A
/-- 0x2800[c].0B: outputs discarded under R192 or R197. -/
abbrev Ctx.DISCARDED : Nat := 0x28000B
/-- 0x2800[c].0C: packets refused under R188. -/
abbrev Ctx.EXHAUSTED : Nat := 0x28000C
/-- 0x2800[c].0D: packets verified under the previous generation. -/
abbrev Ctx.PREV_USED : Nat := 0x28000D
/-- 0x2800[c].0E: packets dropped with the context EMPTY or FAULT, or for lack of a stream. -/
abbrev Ctx.NOKEY : Nat := 0x28000E

/-! 0x2810: KEK objects (Table 8.3, 08_srtp_cipher.md). -/
/-- Index of the KEK objects. -/
abbrev Kek.index : Nat := 0x2810
/-- 0x2810[k].01: key value, LEN bytes then zeros. -/
abbrev Kek.KEY : Nat := 0x281001
/-- 0x2810[k].02: 16 or 32. -/
abbrev Kek.LEN : Nat := 0x281002
/-- 0x2810[k].03: 0 EMPTY, 1 LOADED. -/
abbrev Kek.STATE : Nat := 0x281003
/-- 0x2810[k].04: bit h: host slot h may name the slot in blobs and sessions. -/
abbrev Kek.USERS : Nat := 0x281004
/-- 0x2810[k].05: first 3 bytes of AES encryption of a zero block under the KEK. -/
abbrev Kek.CHECK : Nat := 0x281005
/-- 0x2810[k].06: 1: zeroise the slot; STATE 0, USERS 0. -/
abbrev Kek.CLEAR : Nat := 0x281006
/-- 0x2810[k].07: writes of KEY since manufacture. -/
abbrev Kek.WRITES : Nat := 0x281007

/-! 0x2820: session KEK objects (Table 8.4, 08_srtp_cipher.md). -/
/-- Index of the session KEK objects. -/
abbrev SKek.index : Nat := 0x2820
/-- 0x2820[h].01: KEK slot for host slot h's Xaras session keys; the slot's USERS bit h must be set, else E_KEY; 0xFF none. -/
abbrev SKek.SESSION_KEK : Nat := 0x282001

/-! 0x2830: alarm objects (Table 8.11, 08_srtp_cipher.md). -/
/-- Index of the alarm objects. -/
abbrev Alarm.index : Nat := 0x2830
/-- 0x2830.01: Table 8.8 bits of the latest alarm; [7] reserved. -/
abbrev Alarm.CAUSE : Nat := 0x283001
/-- 0x2830.02: alarms since manufacture. -/
abbrev Alarm.COUNT : Nat := 0x283002
/-- 0x2830.03: time of the latest alarm. -/
abbrev Alarm.LAST : Nat := 0x283003
/-- 0x2830.04: 1: alarm with CAUSE bit 6. -/
abbrev Alarm.ZEROISE : Nat := 0x283004
/-- 0x2830.05: internal context keys drawn since reset. -/
abbrev Alarm.ICK_GEN : Nat := 0x283005

/-! 0x3000: local clock objects (Table 3.1, 03_time.md). -/
/-- Index of the local clock objects. -/
abbrev Clk.index : Nat := 0x3000
/-- 0x3000.01: local time, latched when the read is executed. -/
abbrev Clk.NOW : Nat := 0x300001
/-- 0x3000.02: 0 FREERUN, 1 ACQUIRING, 2 LOCKED, 3 HOLDOVER. -/
abbrev Clk.STATE : Nat := 0x300002
/-- 0x3000.03: 0 PTP, 1 PPS_IN with FREQ_IN, 2 PPS_IN only, 3 none. -/
abbrev Clk.REF_SEL : Nat := 0x300003
/-- 0x3000.04: step to this time; accepted only with REF_SEL = 3. -/
abbrev Clk.SET_TIME : Nat := 0x300004
/-- 0x3000.05: last measured offset, local minus reference, in 2^-16 ns, saturated at the I64 limits (R62). -/
abbrev Clk.OFFSET : Nat := 0x300005
/-- 0x3000.06: frequency adjustment applied, in 10^-12. -/
abbrev Clk.FREQ_ADJ : Nat := 0x300006
/-- 0x3000.07: TAI − UTC in seconds; overwritten from PTP when currentUtcOffsetValid is set. -/
abbrev Clk.UTC_OFFSET : Nat := 0x300007
/-- 0x3000.08: [0] leap61, [1] leap59, from the parent's Announce; [7:2] reserved. -/
abbrev Clk.LEAP : Nat := 0x300008
/-- 0x3000.09: lock threshold in ns, 10–100,000. -/
abbrev Clk.LOCK_THRESH : Nat := 0x300009
/-- 0x3000.0A: offset in ns beyond which LOCKED or HOLDOVER returns to ACQUIRING, 1,000–10^9. -/
abbrev Clk.STEP_THRESH : Nat := 0x30000A
/-- 0x3000.0B: frequency adjustment limit in 10^-9, 1,000–200,000. -/
abbrev Clk.SLEW_MAX : Nat := 0x30000B
/-- 0x3000.0C: 1 once the clock has been set from a reference, the host or a valid RTC. -/
abbrev Clk.TIME_VALID : Nat := 0x30000C
/-- 0x3000.0D: seconds spent in the current holdover. -/
abbrev Clk.HOLDOVER_S : Nat := 0x30000D
/-- 0x3000.0E: steps since reset. -/
abbrev Clk.STEPS : Nat := 0x30000E

/-! 0x3010: PTP port objects (Table 3.5, 03_time.md). -/
/-- Index of the PTP port objects. -/
abbrev Ptp.index : Nat := 0x3010
/-- 0x3010[p].01: PTP on this port. -/
abbrev Ptp.ENABLE : Nat := 0x301001
/-- 0x3010[p].02: 0 default, 1 G.8275.1, 2 G.8275.2; writable only with ENABLE = 0. -/
abbrev Ptp.PROFILE : Nat := 0x301002
/-- 0x3010[p].03: domain number within the profile's range of Table 3.4. -/
abbrev Ptp.DOMAIN : Nat := 0x301003
/-- 0x3010[p].04: 802.1Q VID 1–4094; 0xFFFF untagged. -/
abbrev Ptp.VLAN : Nat := 0x301004
/-- 0x3010[p].05: localPriority, 1–255. -/
abbrev Ptp.LOCAL_PRIO : Nat := 0x301005
/-- 0x3010[p].06: G.8275.2 grantor address; IPv4 as ::ffff:a.b.c.d; all 0 unused. -/
abbrev Ptp.GRANTOR0 : Nat := 0x301006
/-- 0x3010[p].07: second grantor. -/
abbrev Ptp.GRANTOR1 : Nat := 0x301007
/-- 0x3010[p].08: requested log2 sync interval, −7 to 0. -/
abbrev Ptp.SYNC_LOG : Nat := 0x301008
/-- 0x3010[p].09: log2 Delay_Req interval, −7 to 0. -/
abbrev Ptp.DELAY_LOG : Nat := 0x301009
/-- 0x3010[p].0A: 1588 portState: 1 INITIALIZING, 2 FAULTY, 3 DISABLED, 4 LISTENING, 7 PASSIVE, 8 UNCALIBRATED, 9 SLAVE. -/
abbrev Ptp.PORT_STATE : Nat := 0x30100A
/-- 0x3010[p].0B: meanPathDelay in 2^-16 ns. -/
abbrev Ptp.MEAN_DELAY : Nat := 0x30100B
/-- 0x3010[p].0C: parentPortIdentity: clockIdentity then port number. -/
abbrev Ptp.PARENT : Nat := 0x30100C
/-- 0x3010[p].0D: PTP messages accepted. -/
abbrev Ptp.RX_COUNT : Nat := 0x30100D
/-- 0x3010[p].0E: PTP messages discarded. -/
abbrev Ptp.ERR_COUNT : Nat := 0x30100E

/-! 0x3020: time-stamp correction objects (Table 3.6, 03_time.md). -/
/-- Index of the time-stamp correction objects. -/
abbrev TsCor.index : Nat := 0x3020
/-- 0x3020[p].01: ingress delay of the part, MDI to time-stamp point, in ps. -/
abbrev TsCor.FACT_RX : Nat := 0x302001
/-- 0x3020[p].02: egress delay of the part, time-stamp point to MDI, in ps. -/
abbrev TsCor.FACT_TX : Nat := 0x302002
/-- 0x3020[p].03: board ingress delay in ps, ±1,000,000. -/
abbrev TsCor.USER_RX : Nat := 0x302003
/-- 0x3020[p].04: board egress delay in ps, ±1,000,000. -/
abbrev TsCor.USER_TX : Nat := 0x302004

/-! 0x3030: reference and SyncE objects (Table 3.8, 03_time.md). -/
/-- Index of the reference and SyncE objects. -/
abbrev Ref.index : Nat := 0x3030
/-- 0x3030.01: port index p of R66, 0–19; 0xFF output held low. -/
abbrev Ref.RCLK0_SRC : Nat := 0x303001
/-- 0x3030.02: as RCLK0_SRC. -/
abbrev Ref.RCLK1_SRC : Nat := 0x303002
/-- 0x3030.03: [0] RCLK0 squelch, [1] RCLK1 squelch, [2] RCLK0 31.25 MHz, [3] RCLK1 31.25 MHz; [7:4] reserved. -/
abbrev Ref.RCLK_CFG : Nat := 0x303003
/-- 0x3030.04: 0 absent, 1 within ±100 ppm, 2 out of range. -/
abbrev Ref.FREQ_IN_STATE : Nat := 0x303004
/-- 0x3030.05: 0 absent, 1 present, 2 period outside 1 s ± 1 µs. -/
abbrev Ref.PPS_IN_STATE : Nat := 0x303005
/-- 0x3030.06: 0 rising, 1 falling. -/
abbrev Ref.PPS_EDGE : Nat := 0x303006
/-- 0x3030.07: TAI seconds of the next PPS_IN edge, 0–2^48 − 1. -/
abbrev Ref.PPS_TOD : Nat := 0x303007
/-- 0x3030.08: cable and board delay on PPS_IN, in ps. -/
abbrev Ref.PPS_DELAY : Nat := 0x303008

/-! 0x3040: time output objects (Table 3.9, 03_time.md). -/
/-- Index of the time output objects. -/
abbrev Tout.index : Nat := 0x3040
/-- 0x3040[n].01: 0 off at idle level, 1 one-shot, 2 periodic, 3 lock state. -/
abbrev Tout.MODE : Nat := 0x304001
/-- 0x3040[n].02: first edge time. -/
abbrev Tout.START : Nat := 0x304002
/-- 0x3040[n].03: period in 2^-16 ns; 50 ns to 1,000 s. -/
abbrev Tout.PERIOD : Nat := 0x304003
/-- 0x3040[n].04: active time in ns; at least 10, and at most PERIOD − 10 ns when periodic. -/
abbrev Tout.WIDTH : Nat := 0x304004
/-- 0x3040[n].05: 0 active high, 1 active low. -/
abbrev Tout.POLARITY : Nat := 0x304005
/-- 0x3040[n].06: [0] FIRE_LATE; [7:1] reserved. -/
abbrev Tout.FLAGS : Nat := 0x304006
/-- 0x3040[n].07: 1 ARM, 2 DISARM. -/
abbrev Tout.ARM : Nat := 0x304007
/-- 0x3040[n].08: 0 idle, 1 armed, 2 done (one-shot fired). -/
abbrev Tout.STATUS : Nat := 0x304008
/-- 0x3040[n].09: time of the latest leading edge. -/
abbrev Tout.LAST_EDGE : Nat := 0x304009
/-- 0x3040[n].0A: leading edges since reset. -/
abbrev Tout.EDGES : Nat := 0x30400A
/-- 0x3040[n].0B: output compensation in ps, ±100,000; subtracted from edge times. -/
abbrev Tout.COMP : Nat := 0x30400B

/-! 0x3050: time capture objects (Table 3.10, 03_time.md). -/
/-- Index of the time capture objects. -/
abbrev Tin.index : Nat := 0x3050
/-- 0x3050[n].01: capture on. -/
abbrev Tin.ENABLE : Nat := 0x305001
/-- 0x3050[n].02: 0 rising, 1 falling, 2 both. -/
abbrev Tin.EDGE : Nat := 0x305002
/-- 0x3050[n].03: records held, 0–16. -/
abbrev Tin.LEVEL : Nat := 0x305003
/-- 0x3050[n].04: oldest record, removed on read. -/
abbrev Tin.READ : Nat := 0x305004
/-- 0x3050[n].05: edges lost to a full FIFO. -/
abbrev Tin.OVERFLOW : Nat := 0x305005
/-- 0x3050[n].06: input compensation in ps, ±100,000; subtracted from capture times. -/
abbrev Tin.COMP : Nat := 0x305006
/-- 0x3050[n].07: shortest accepted pulse in ns, 2–10,000. -/
abbrev Tin.DEGLITCH : Nat := 0x305007

/-! 0x3070: slot clock objects (Table 3.13, 03_time.md). -/
/-- Index of the slot clock objects. -/
abbrev FSlot.index : Nat := 0x3070
/-- 0x3070[f].01: numerology 0–3: slot of 1,000, 500, 250 or 125 µs. -/
abbrev FSlot.MU : Nat := 0x307001
/-- 0x3070[f].02: start of frame 0, slot 0, in ns after a multiple of 10.24 s of TAI; 0–10,239,999,999. -/
abbrev FSlot.OFFSET : Nat := 0x307002
/-- 0x3070[f].03: [31:17] 0, [16:7] frame number 0–1,023, [6:0] slot in frame 0 to 10 × 2^µ − 1. -/
abbrev FSlot.SLOT_NOW : Nat := 0x307003

/-! 0x3100: codec configuration objects (Table 9.2, 09_audio_mixing.md). -/
/-- Index of the codec configuration objects. -/
abbrev ACfg.index : Nat := 0x3100
/-- 0x3100[i].01: as CODEC of Table 2.5, 0–5. -/
abbrev ACfg.CODEC : Nat := 0x310001
/-- 0x3100[i].02: encoder input: 0 8 kHz, 1 16 kHz, 2 48 kHz. -/
abbrev ACfg.DOMAIN : Nat := 0x310002
/-- 0x3100[i].03: b/s. -/
abbrev ACfg.BITRATE : Nat := 0x310003
/-- 0x3100[i].04: frame length, as Table 9.1. -/
abbrev ACfg.FRAME_MS : Nat := 0x310004
/-- 0x3100[i].05: Opus 0–10; 0 for other codecs. -/
abbrev ACfg.COMPLEXITY : Nat := 0x310005
/-- 0x3100[i].06: DTX or SID frames in silence. -/
abbrev ACfg.DTX : Nat := 0x310006
/-- 0x3100[i].07: Opus in-band FEC; 0 for other codecs. -/
abbrev ACfg.FEC : Nat := 0x310007
/-- 0x3100[i].08: RTP payload type, 0–127. -/
abbrev ACfg.PT : Nat := 0x310008
/-- 0x3100[i].09: RFC 3389 comfort noise for G.711 and G.722; 0xFF none. -/
abbrev ACfg.CN_PT : Nat := 0x310009
/-- 0x3100[i].0A: e of Table 9.1, in M cycles/s × 10. -/
abbrev ACfg.ECOST : Nat := 0x31000A
/-- 0x3100[i].0B: legs whose AUDIO_CFG is i, plus SRC_OUT nodes of compiled graphs naming i. -/
abbrev ACfg.USERS : Nat := 0x31000B

/-! 0x3110: conference audio objects (Table 9.3, 09_audio_mixing.md). -/
/-- Index of the conference audio objects. -/
abbrev Mix.index : Nat := 0x3110
/-- 0x3110[C].01: rate domain: 0 8 kHz, 1 16 kHz, 2 48 kHz; writable only while MEMBERS = 0. -/
abbrev Mix.MIX_RATE : Nat := 0x311001
/-- 0x3110[C].02: RFC 6464 level, 0–127, whose steady loudness qualifies. -/
abbrev Mix.CAND_LEVEL : Nat := 0x311002
/-- 0x3110[C].03: bonus in dB for current talkers, 0–30. -/
abbrev Mix.HYST_DB : Nat := 0x311003
/-- 0x3110[C].04: least time in the top K, 0–5,000. -/
abbrev Mix.HOLD_MS : Nat := 0x311004
/-- 0x3110[C].05: dBFS, −90 to 0. -/
abbrev Mix.TALK_FLOOR : Nat := 0x311005
/-- 0x3110[C].06: dBFS, −90 to −20. -/
abbrev Mix.SIL_LEVEL : Nat := 0x311006
/-- 0x3110[C].07: 100–60,000. -/
abbrev Mix.SIL_MS : Nat := 0x311007
/-- 0x3110[C].08: jitter buffer depth, 10–200. -/
abbrev Mix.JB_MS : Nat := 0x311008
/-- 0x3110[C].09: 64-sample ramps on contribution changes. -/
abbrev Mix.RAMP : Nat := 0x311009
/-- 0x3110[C].0A: 16 U32 source IDs in rank order; 0xFFFF_FFFF unused. -/
abbrev Mix.TALKERS : Nat := 0x31100A
/-- 0x3110[C].0B: sources in the candidate set. -/
abbrev Mix.CANDS : Nat := 0x31100B
/-- 0x3110[C].0C: no work issued (R216). -/
abbrev Mix.SILENT : Nat := 0x31100C
/-- 0x3110[C].0D: private encodes plus group encodes with a member in group mode. -/
abbrev Mix.ENCODES : Nat := 0x31100D
/-- 0x3110[C].0E: mix blocks concealed. -/
abbrev Mix.CONCEALED : Nat := 0x31100E

/-! 0x3120: route graph objects (Table 9.11, 09_audio_mixing.md). -/
/-- Index of the route graph objects. -/
abbrev Graph.index : Nat := 0x3120
/-- 0x3120[g].01: staged side: 0 FREE, 1 STAGED, 2 COMPILING, 3 COMPILED, 4 FAILED. -/
abbrev Graph.STATE : Nat := 0x312001
/-- 0x3120[g].02: host slot that first staged it. -/
abbrev Graph.OWNER : Nat := 0x312002
/-- 0x3120[g].03: appends at most 8,192 bytes to the staged blob; from FREE, COMPILED or FAILED it starts a new blob; STATE becomes 1. -/
abbrev Graph.BLOB : Nat := 0x312003
/-- 0x3120[g].04: 1 COMPILE, 2 RUN, 3 STOP, 4 DELETE. -/
abbrev Graph.CMD : Nat := 0x312004
/-- 0x3120[g].05: [15:8] status, [7:0] detail of Table 9.10. -/
abbrev Graph.ERROR : Nat := 0x312005
/-- 0x3120[g].06: node or edge index of the failure. -/
abbrev Graph.ERR_NODE : Nat := 0x312006
/-- 0x3120[g].07: compiled program, M cycles/s × 10. -/
abbrev Graph.CYCLES : Nat := 0x312007
/-- 0x3120[g].08: latency pairs of the compiled program. -/
abbrev Graph.PAIRS : Nat := 0x312008
/-- 0x3120[g].09: bytes staged. -/
abbrev Graph.BLOB_LEN : Nat := 0x312009
/-- 0x3120[g].0A: a program is running. -/
abbrev Graph.RUNNING : Nat := 0x31200A

/-! 0x3130: latency objects (Table 9.12, 09_audio_mixing.md). -/
/-- Index of the latency objects. -/
abbrev Lat.index : Nat := 0x3130
/-- 0x3130[e].01: node index. -/
abbrev Lat.FROM : Nat := 0x313001
/-- 0x3130[e].02: sink node index. -/
abbrev Lat.TO : Nat := 0x313002
/-- 0x3130[e].03: least latency, samples. -/
abbrev Lat.MIN : Nat := 0x313003
/-- 0x3130[e].04: greatest latency, samples. -/
abbrev Lat.MAX : Nat := 0x313004
/-- 0x3130[e].05: sink domain, as Table 9.7. -/
abbrev Lat.DOMAIN : Nat := 0x313005

/-! 0x3150: leg mix objects (Table 9.4, 09_audio_mixing.md). -/
/-- Index of the leg mix objects. -/
abbrev LegMix.index : Nat := 0x3150
/-- 0x3150[L].01: SSRC of the leg's mix; picked unique among the leg's OUT_SSRCs at OPEN; also the sender SSRC of the device's RTCP to the leg (R115). -/
abbrev LegMix.MIX_SSRC : Nat := 0x315001
/-- 0x3150[L].02: 0 no mix, 1 group, 2 private. -/
abbrev LegMix.MODE : Nat := 0x315002
/-- 0x3150[L].03: changes to private mode. -/
abbrev LegMix.SWITCHES : Nat := 0x315003
/-- 0x3150[L].04: mix packets sent. -/
abbrev LegMix.MIX_PKTS : Nat := 0x315004

/-! 0x3200: serial audio port objects (Table 10.8, 10_audio_ports.md). -/
/-- Index of the serial audio port objects. -/
abbrev Sap.index : Nat := 0x3200
/-- 0x3200[n].01: port in service (Table 10.5). -/
abbrev Sap.ENABLE : Nat := 0x320001
/-- 0x3200[n].02: 0 I2S, 1 left-justified, 2 TDM; only in OFF. -/
abbrev Sap.FORMAT : Nat := 0x320002
/-- 0x3200[n].03: 0 master, 1 slave; only in OFF. -/
abbrev Sap.ROLE : Nat := 0x320003
/-- 0x3200[n].04: 0 44.1 kHz, 1 48 kHz, 2 96 kHz; only in OFF. -/
abbrev Sap.RATE : Nat := 0x320004
/-- 0x3200[n].05: 1–32; 2 for FORMAT 0 and 1; only in OFF. -/
abbrev Sap.SLOTS : Nat := 0x320005
/-- 0x3200[n].06: 16, 24 or 32; only in OFF. -/
abbrev Sap.SLOT_BITS : Nat := 0x320006
/-- 0x3200[n].07: 16, 24 or 32, at most SLOT_BITS; only in OFF. -/
abbrev Sap.SAMPLE_BITS : Nat := 0x320007
/-- 0x3200[n].08: [0] TDM data delay of 1 BCLK; [1] FS inverted; [2] BCLK edges swapped; [3] TDM FS for slot 0; [4] masked output slots high-impedance; [7:5] reserved; only in OFF. -/
abbrev Sap.TIMING : Nat := 0x320008
/-- 0x3200[n].09: 0 P24, 1 L32, 2 R32; only in OFF. -/
abbrev Sap.PACK : Nat := 0x320009
/-- 0x3200[n].0A: frames, 0–255; only in OFF. -/
abbrev Sap.PREROLL : Nat := 0x32000A
/-- 0x3200[n].0B: frames, 0–255; only in OFF. -/
abbrev Sap.POSTROLL : Nat := 0x32000B
/-- 0x3200[n].0C: bit s: slot s received (R234). -/
abbrev Sap.RX_MASK : Nat := 0x32000C
/-- 0x3200[n].0D: bit s: slot s driven (R234). -/
abbrev Sap.TX_MASK : Nat := 0x32000D
/-- 0x3200[n].10: 0 OFF, 1 ACQUIRE, 2 PREROLL, 3 RUN, 4 POSTROLL, 5 CLOCK_LOST. -/
abbrev Sap.STATE : Nat := 0x320010
/-- 0x3200[n].11: frames since ENABLE = 1. -/
abbrev Sap.FRAME : Nat := 0x320011
/-- 0x3200[n].12: FRAME at which the latest mask applied. -/
abbrev Sap.MASK_FRAME : Nat := 0x320012
/-- 0x3200[n].13: frames discarded. -/
abbrev Sap.FS_ERR : Nat := 0x320013
/-- 0x3200[n].14: clock-lost episodes. -/
abbrev Sap.CLK_LOST : Nat := 0x320014
/-- 0x3200[n].15: output blocks concealed (R232). -/
abbrev Sap.LATE : Nat := 0x320015

/-! 0x3210: slot grant objects (Table 10.9, 10_audio_ports.md). -/
/-- Index of the slot grant objects. -/
abbrev SlotOwn.index : Nat := 0x3210
/-- 0x3210[e].01: host slot 0–7 that may name the input slot in PORT_IN. -/
abbrev SlotOwn.RX_OWNER : Nat := 0x321001
/-- 0x3210[e].02: host slot 0–7 that may name the output slot in PORT_OUT. -/
abbrev SlotOwn.TX_OWNER : Nat := 0x321002

/-! 0x3230: clock output objects (Table 10.10, 10_audio_ports.md). -/
/-- Index of the clock output objects. -/
abbrev AClk.index : Nat := 0x3230
/-- 0x3230[g].01: 0 off, 1 256 × rate, 2 512 × rate. -/
abbrev AClk.MCLK_MODE : Nat := 0x323001
/-- 0x3230[g].02: 0 44.1 kHz, 1 48 kHz, 2 96 kHz. -/
abbrev AClk.RATE : Nat := 0x323002
/-- 0x3230[g].03: WCLKg driven. -/
abbrev AClk.WCLK_ON : Nat := 0x323003

/-! 0x3240: AES3 input objects (Table 10.11, 10_audio_ports.md). -/
/-- Index of the AES3 input objects. -/
abbrev Aesi.index : Nat := 0x3240
/-- 0x3240[a].01: input in service. -/
abbrev Aesi.ENABLE : Nat := 0x324001
/-- 0x3240[a].02: 0 use samples with V set, 1 replace them by zero. -/
abbrev Aesi.VALID_MODE : Nat := 0x324002
/-- 0x3240[a].03: [0] channel A, [1] channel B; [7:2] reserved. -/
abbrev Aesi.RX_MASK : Nat := 0x324003
/-- 0x3240[a].04: as Table 10.8. -/
abbrev Aesi.STATE : Nat := 0x324004
/-- 0x3240[a].05: latest latched channel status, channel A. -/
abbrev Aesi.CS_A : Nat := 0x324005
/-- 0x3240[a].06: channel B. -/
abbrev Aesi.CS_B : Nat := 0x324006
/-- 0x3240[a].07: user bits of the latest block, channel A. -/
abbrev Aesi.U_A : Nat := 0x324007
/-- 0x3240[a].08: channel B. -/
abbrev Aesi.U_B : Nat := 0x324008
/-- 0x3240[a].09: complete blocks received. -/
abbrev Aesi.BLOCKS : Nat := 0x324009
/-- 0x3240[a].0A: blocks broken by a misplaced Z preamble. -/
abbrev Aesi.BLOCK_ERR : Nat := 0x32400A
/-- 0x3240[a].0B: blocks failing the CRCC. -/
abbrev Aesi.CS_CRC_ERR : Nat := 0x32400B
/-- 0x3240[a].0C: subframes with bad parity. -/
abbrev Aesi.PARITY_ERR : Nat := 0x32400C
/-- 0x3240[a].0D: samples with V set. -/
abbrev Aesi.INVALID : Nat := 0x32400D
/-- 0x3240[a].0E: frames discarded. -/
abbrev Aesi.FS_ERR : Nat := 0x32400E
/-- 0x3240[a].0F: clock-lost episodes. -/
abbrev Aesi.CLK_LOST : Nat := 0x32400F

/-! 0x3250: AES3 output objects (Table 10.12, 10_audio_ports.md). -/
/-- Index of the AES3 output objects. -/
abbrev Aeso.index : Nat := 0x3250
/-- 0x3250[a].01: output in service. -/
abbrev Aeso.ENABLE : Nat := 0x325001
/-- 0x3250[a].02: 0 44.1 kHz, 1 48 kHz, 2 96 kHz; only in OFF. -/
abbrev Aeso.RATE : Nat := 0x325002
/-- 0x3250[a].03: frames, 0–255; only in OFF. -/
abbrev Aeso.PREROLL : Nat := 0x325003
/-- 0x3250[a].04: frames, 0–255; only in OFF. -/
abbrev Aeso.POSTROLL : Nat := 0x325004
/-- 0x3250[a].05: [0] channel A, [1] channel B; [7:2] reserved. -/
abbrev Aeso.TX_MASK : Nat := 0x325005
/-- 0x3250[a].06: channel status sent on channel A. -/
abbrev Aeso.CS_A : Nat := 0x325006
/-- 0x3250[a].07: channel B; unused while CS_LINK = 1. -/
abbrev Aeso.CS_B : Nat := 0x325007
/-- 0x3250[a].08: channel B sends CS_A. -/
abbrev Aeso.CS_LINK : Nat := 0x325008
/-- 0x3250[a].09: user bits of each block, both channels. -/
abbrev Aeso.U_OUT : Nat := 0x325009
/-- 0x3250[a].0A: as Table 10.8. -/
abbrev Aeso.STATE : Nat := 0x32500A
/-- 0x3250[a].0B: frames since ENABLE = 1. -/
abbrev Aeso.FRAME : Nat := 0x32500B
/-- 0x3250[a].0C: FRAME at which the latest mask applied. -/
abbrev Aeso.MASK_FRAME : Nat := 0x32500C
/-- 0x3250[a].0D: output blocks concealed. -/
abbrev Aeso.LATE : Nat := 0x32500D

/-! 0x3300: ASRC objects (Table 10.13, 10_audio_ports.md). -/
/-- Index of the ASRC objects. -/
abbrev Asrc.index : Nat := 0x3300
/-- 0x3300[q].01: 0 idle, 1 acquiring, 2 locked, 3 acquiring with mute, 4 bypassed. -/
abbrev Asrc.STATE : Nat := 0x330001
/-- 0x3300[q].02: ratio × 2^24 (R241). -/
abbrev Asrc.RATIO : Nat := 0x330002
/-- 0x3300[q].03: delay in 1/16 samples at 48 kHz. -/
abbrev Asrc.DELAY : Nat := 0x330003
/-- 0x3300[q].04: re-acquisitions in RUN. -/
abbrev Asrc.RELOCKS : Nat := 0x330004
/-- 0x3300[q].05: duration of the latest acquisition, ms. -/
abbrev Asrc.LOCK_MS : Nat := 0x330005
/-- 0x3300[q].06: mutes for rate changes above 2 %. -/
abbrev Asrc.MUTES : Nat := 0x330006

/-! 0x4000: decode session objects (Table 13.5, 13_video_decode.md). -/
/-- Index of the decode session objects. -/
abbrev Dec.index : Nat := 0x4000
/-- 0x4000[d].01: 0 FREE, 1 WAIT_RAP, 2 RUNNING, 3 NO_CORE, 4 CLOSING. -/
abbrev Dec.STATE : Nat := 0x400001
/-- 0x4000[d].02: host slot that opened it. -/
abbrev Dec.OWNER : Nat := 0x400002
/-- 0x4000[d].03: video source decoded. -/
abbrev Dec.SOURCE : Nat := 0x400003
/-- 0x4000[d].04: highest layer id decoded, 0–11. -/
abbrev Dec.MAX_LAYER : Nat := 0x400004
/-- 0x4000[d].05: luma width, even, 16–7,680. -/
abbrev Dec.MAX_WIDTH : Nat := 0x400005
/-- 0x4000[d].06: luma height, even, 16–4,320. -/
abbrev Dec.MAX_HEIGHT : Nat := 0x400006
/-- 0x4000[d].07: 1/100 fps, 100–12,000. -/
abbrev Dec.MAX_FPS : Nat := 0x400007
/-- 0x4000[d].08: 0 native, 1 always 10 bits. -/
abbrev Dec.OUT_DEPTH : Nat := 0x400008
/-- 0x4000[d].09: buffers beyond the reference set, 1–8. -/
abbrev Dec.OUT_EXTRA : Nat := 0x400009
/-- 0x4000[d].0A: 0–500. -/
abbrev Dec.REORDER_MS : Nat := 0x40000A
/-- 0x4000[d].0B: 100–10,000. -/
abbrev Dec.START_MS : Nat := 0x40000B
/-- 0x4000[d].0C: bit v: VDv serves the session. -/
abbrev Dec.CORES : Nat := 0x40000C
/-- 0x4000[d].0D: kpixel/s (R292). -/
abbrev Dec.CHARGE : Nat := 0x40000D
/-- 0x4000[d].0E: luma width of the latest picture. -/
abbrev Dec.WIDTH : Nat := 0x40000E
/-- 0x4000[d].0F: luma height of the latest picture. -/
abbrev Dec.HEIGHT : Nat := 0x40000F
/-- 0x4000[d].10: pictures output. -/
abbrev Dec.PICTURES : Nat := 0x400010
/-- 0x4000[d].11: pictures output with CONCEALED. -/
abbrev Dec.CONCEALED : Nat := 0x400011
/-- 0x4000[d].12: substitutions. -/
abbrev Dec.MISSING_REF : Nat := 0x400012
/-- 0x4000[d].13: pictures abandoned. -/
abbrev Dec.ABANDONED : Nat := 0x400013
/-- 0x4000[d].14: refresh requests raised. -/
abbrev Dec.REFRESH_REQ : Nat := 0x400014
/-- 0x4000[d].15: descriptor of the latest picture (Table 13.4). -/
abbrev Dec.LAST_DESC : Nat := 0x400015
/-- 0x4000[d].16: packets still missing when their picture became ready. -/
abbrev Dec.LOST_PKTS : Nat := 0x400016
/-- 0x4000[d].17: packets discarded under R294. -/
abbrev Dec.LATE_PKTS : Nat := 0x400017
/-- 0x4000[d].18: pictures with fewer split units than cores. -/
abbrev Dec.SPLIT_SHORT : Nat := 0x400018
/-- 0x4000[d].19: window faults (R298). -/
abbrev Dec.WINDOW_FAULT : Nat := 0x400019
/-- 0x4000[d].20: 1 OPEN, 2 CLOSE. -/
abbrev Dec.CMD : Nat := 0x400020

/-! 0x4010: decode core objects (Table 13.6, 13_video_decode.md). -/
/-- Index of the decode core objects. -/
abbrev Vd.index : Nat := 0x4010
/-- 0x4010[v].01: 0 in service, 1 retired, 2 retired, self-test due at next reset. -/
abbrev Vd.STATE : Nat := 0x401001
/-- 0x4010[v].02: cause of R308; 0 none. -/
abbrev Vd.CAUSE : Nat := 0x401002
/-- 0x4010[v].03: kpixel/s placed, 0–497,664. -/
abbrev Vd.USED : Nat := 0x401003
/-- 0x4010[v].04: sessions placed, 0–128. -/
abbrev Vd.SESSIONS : Nat := 0x401004
/-- 0x4010[v].05: pictures completed. -/
abbrev Vd.PICTURES : Nat := 0x401005
/-- 0x4010[v].06: window faults. -/
abbrev Vd.WINDOW_FAULT : Nat := 0x401006
/-- 0x4010[v].07: 0 power-gated, 1 running. -/
abbrev Vd.POWER : Nat := 0x401007
/-- 0x4010[v].08: 1 RETIRE, 2 UNRETIRE. -/
abbrev Vd.CMD : Nat := 0x401008

/-! 0x4100: encode session objects (Table 14.6, 14_video_encode.md). -/
/-- Index of the encode session objects. -/
abbrev Enc.index : Nat := 0x4100
/-- 0x4100[e].01: 0 FREE, 1 STARTING, 2 RUNNING, 3 NO_CORE, 4 CLOSING. -/
abbrev Enc.STATE : Nat := 0x410001
/-- 0x4100[e].02: host slot that opened it. -/
abbrev Enc.OWNER : Nat := 0x410002
/-- 0x4100[e].03: source produced (R319). -/
abbrev Enc.OUT_SOURCE : Nat := 0x410003
/-- 0x4100[e].04: 0 compositor output, 1 decode session. -/
abbrev Enc.INPUT : Nat := 0x410004
/-- 0x4100[e].05: output 2i + o of CMPi, 0–15; or decode session 0–2,047. -/
abbrev Enc.INPUT_ID : Nat := 0x410005
/-- 0x4100[e].06: 8 or 10. -/
abbrev Enc.DEPTH : Nat := 0x410006
/-- 0x4100[e].07: top-layer luma width, even, 64–7,680. -/
abbrev Enc.WIDTH : Nat := 0x410007
/-- 0x4100[e].08: top-layer luma height, even, 64–4,320. -/
abbrev Enc.HEIGHT : Nat := 0x410008
/-- 0x4100[e].09: N of R74. -/
abbrev Enc.RATE_N : Nat := 0x410009
/-- 0x4100[e].0A: D of R74. -/
abbrev Enc.RATE_D : Nat := 0x41000A
/-- 0x4100[e].0B: spatial layers, 1–3. -/
abbrev Enc.SPATIAL : Nat := 0x41000B
/-- 0x4100[e].0C: temporal layers, 1–4. -/
abbrev Enc.TEMPORAL : Nat := 0x41000C
/-- 0x4100[e].0D: 0 tiles, 1 wavefront rows (HEVC). -/
abbrev Enc.SPLIT : Nat := 0x41000D
/-- 0x4100[e].0E: 0 key pictures; 8–128 sweep length, a multiple of C. -/
abbrev Enc.REFRESH : Nat := 0x41000E
/-- 0x4100[e].0F: spatial switch interval with REFRESH 0, 8–1,024, a multiple of C. -/
abbrev Enc.SPATIAL_SW : Nat := 0x41000F
/-- 0x4100[e].10: splice group 0–254; 0xFF none. -/
abbrev Enc.SPLICE : Nat := 0x410010
/-- 0x4100[e].11: kb/s, 16–400,000. -/
abbrev Enc.RATE_S0 : Nat := 0x410011
/-- 0x4100[e].12: kb/s, 16–400,000; 0 only while SPATIAL < 2. -/
abbrev Enc.RATE_S1 : Nat := 0x410012
/-- 0x4100[e].13: kb/s, 16–400,000; 0 only while SPATIAL < 3. -/
abbrev Enc.RATE_S2 : Nat := 0x410013
/-- 0x4100[e].14: 0–51. -/
abbrev Enc.QP_MIN : Nat := 0x410014
/-- 0x4100[e].15: QP_MIN–51. -/
abbrev Enc.QP_MAX : Nat := 0x410015
/-- 0x4100[e].16: bit v: VEv serves the session. -/
abbrev Enc.CORES : Nat := 0x410016
/-- 0x4100[e].17: kpixel/s (R320). -/
abbrev Enc.CHARGE : Nat := 0x410017
/-- 0x4100[e].18: pictures with packets in the packet store. -/
abbrev Enc.PICTURES : Nat := 0x410018
/-- 0x4100[e].19: layer pictures dropped under R324. -/
abbrev Enc.DROPPED : Nat := 0x410019
/-- 0x4100[e].1A: layer pictures that left normal mode. -/
abbrev Enc.FALLBACK : Nat := 0x41001A
/-- 0x4100[e].1B: rows coded in skip mode. -/
abbrev Enc.SKIP_ROWS : Nat := 0x41001B
/-- 0x4100[e].1C: bits owed. -/
abbrev Enc.DEBT : Nat := 0x41001C
/-- 0x4100[e].1D: bits written off. -/
abbrev Enc.FORGIVEN : Nat := 0x41001D
/-- 0x4100[e].1E: layer pictures dropped at their deadline or under R328. -/
abbrev Enc.LATE : Nat := 0x41001E
/-- 0x4100[e].1F: layer pictures re-encoded under R328. -/
abbrev Enc.REENCODED : Nat := 0x41001F
/-- 0x4100[e].20: 1 OPEN, 2 CLOSE. -/
abbrev Enc.CMD : Nat := 0x410020
/-- 0x4100[e].21: all-skip pictures for a missing input (R321). -/
abbrev Enc.REPEATS : Nat := 0x410021
/-- 0x4100[e].22: refresh requests served. -/
abbrev Enc.REFRESHES : Nat := 0x410022
/-- 0x4100[e].23: refresh requests ignored (R317). -/
abbrev Enc.IGNORED : Nat := 0x410023

/-! 0x4110: encode core objects (Table 14.7, 14_video_encode.md). -/
/-- Index of the encode core objects. -/
abbrev Ve.index : Nat := 0x4110
/-- 0x4110[v].01: 0 in service, 1 retired, 2 retired, self-test due at next reset. -/
abbrev Ve.STATE : Nat := 0x411001
/-- 0x4110[v].02: Table 14.5; 0 none. -/
abbrev Ve.CAUSE : Nat := 0x411002
/-- 0x4110[v].03: kpixel/s placed, 0–497,664. -/
abbrev Ve.USED : Nat := 0x411003
/-- 0x4110[v].04: sessions placed, 0–128. -/
abbrev Ve.SESSIONS : Nat := 0x411004
/-- 0x4110[v].05: layer pictures completed. -/
abbrev Ve.PICTURES : Nat := 0x411005
/-- 0x4110[v].06: layer pictures past twice their nominal time. -/
abbrev Ve.OVERTIME : Nat := 0x411006
/-- 0x4110[v].07: 0 power-gated, 1 running. -/
abbrev Ve.POWER : Nat := 0x411007
/-- 0x4110[v].08: 1 RETIRE, 2 UNRETIRE. -/
abbrev Ve.CMD : Nat := 0x411008

/-! 0x4200: composition output objects (Table 15.1, 15_composition.md). -/
/-- Index of the composition output objects. -/
abbrev Outp.index : Nat := 0x4200
/-- 0x4200[k].01: 0 FREE, 1 RUNNING, 2 FROZEN. -/
abbrev Outp.STATE : Nat := 0x420001
/-- 0x4200[k].02: host slot that opened it. -/
abbrev Outp.OWNER : Nat := 0x420002
/-- 0x4200[k].03: luma width, even, 64–3,840; only while FREE. -/
abbrev Outp.WIDTH : Nat := 0x420003
/-- 0x4200[k].04: luma height, even, 64–2,160; only while FREE. -/
abbrev Outp.HEIGHT : Nat := 0x420004
/-- 0x4200[k].05: N of R74; only while FREE. -/
abbrev Outp.RATE_N : Nat := 0x420005
/-- 0x4200[k].06: D of R74; only while FREE. -/
abbrev Outp.RATE_D : Nat := 0x420006
/-- 0x4200[k].07: 8 (NV12 in HBM) or 10 (P010); only while FREE. -/
abbrev Outp.DEPTH : Nat := 0x420007
/-- 0x4200[k].08: 0 SDR (BT.709 OETF, BT.1886 display), 1 PQ, 2 HLG. -/
abbrev Outp.OUT_TF : Nat := 0x420008
/-- 0x4200[k].09: 0 BT.709, 1 BT.2020. -/
abbrev Outp.OUT_PRIM : Nat := 0x420009
/-- 0x4200[k].0A: cd/m²: PQ peak 400–10,000; HLG nominal peak 400–4,000. -/
abbrev Outp.OUT_PEAK : Nat := 0x42000A
/-- 0x4200[k].0B: cd/m² of SDR signal 1.0, 80–400. -/
abbrev Outp.SDR_NITS : Nat := 0x42000B
/-- 0x4200[k].0C: 0 static, 1 dynamic, 2 clip (R340). -/
abbrev Outp.TONE : Nat := 0x42000C
/-- 0x4200[k].0D: background below layer 0: [29:20] Y′, [19:10] Cb, [9:0] Cr at 10 bits; [31:30] 0. -/
abbrev Outp.BG : Nat := 0x42000D
/-- 0x4200[k].0E: compositor now serving the output. -/
abbrev Outp.HOST : Nat := 0x42000E
/-- 0x4200[k].0F: slots charged, 1 or 2. -/
abbrev Outp.SLOTS : Nat := 0x42000F
/-- 0x4200[k].10: frames completed. -/
abbrev Outp.FRAMES : Nat := 0x420010
/-- 0x4200[k].11: frames not complete by the next tick (R342). -/
abbrev Outp.LATE : Nat := 0x420011
/-- 0x4200[k].12: moves to a spare compositor. -/
abbrev Outp.MOVES : Nat := 0x420012
/-- 0x4200[k].13: descriptor of the latest frame (R341). -/
abbrev Outp.LAST_DESC : Nat := 0x420013
/-- 0x4200[k].20: 1 OPEN, 2 CLOSE. -/
abbrev Outp.CMD : Nat := 0x420020

/-! 0x4210: composition layer objects (Table 15.2, 15_composition.md). -/
/-- Index of the composition layer objects. -/
abbrev Lay.index : Nat := 0x4210
/-- 0x4210[e].01: 0 off, 1 decode session, 2 composition output, 3 flat colour. -/
abbrev Lay.KIND : Nat := 0x421001
/-- 0x4210[e].02: decode session 0–2,047 or output 0–15. -/
abbrev Lay.SRC : Nat := 0x421002
/-- 0x4210[e].03: left edge in source pixels, even. -/
abbrev Lay.CROP_X : Nat := 0x421003
/-- 0x4210[e].04: top edge, even. -/
abbrev Lay.CROP_Y : Nat := 0x421004
/-- 0x4210[e].05: width, even; 0 the whole picture. -/
abbrev Lay.CROP_W : Nat := 0x421005
/-- 0x4210[e].06: height, even; 0 the whole picture. -/
abbrev Lay.CROP_H : Nat := 0x421006
/-- 0x4210[e].07: left edge in output pixels, even. -/
abbrev Lay.DST_X : Nat := 0x421007
/-- 0x4210[e].08: top edge, even. -/
abbrev Lay.DST_Y : Nat := 0x421008
/-- 0x4210[e].09: width, even, 2 to WIDTH − DST_X. -/
abbrev Lay.DST_W : Nat := 0x421009
/-- 0x4210[e].0A: height, even, 2 to HEIGHT − DST_Y. -/
abbrev Lay.DST_H : Nat := 0x42100A
/-- 0x4210[e].0B: layer opacity, 0–1,024. -/
abbrev Lay.ALPHA : Nat := 0x42100B
/-- 0x4210[e].0C: 0 sharp, 1 soft, 2 nearest (R336). -/
abbrev Lay.FILTER : Nat := 0x42100C
/-- 0x4210[e].0D: pair mode (R337). -/
abbrev Lay.PAIR : Nat := 0x42100D
/-- 0x4210[e].0E: 0 FILL colour, 1 last good picture (R338). -/
abbrev Lay.FALLBACK : Nat := 0x42100E
/-- 0x4210[e].0F: colour, laid out as BG. -/
abbrev Lay.FILL : Nat := 0x42100F
/-- 0x4210[e].10: 0 off, 1 source, 2 fallback. -/
abbrev Lay.SHOWING : Nat := 0x421010
/-- 0x4210[e].11: scalers held, 0–2. -/
abbrev Lay.SCALERS : Nat := 0x421011
/-- 0x4210[e].12: entries into fallback. -/
abbrev Lay.FALLBACKS : Nat := 0x421012

/-! 0x4220: compositor objects (Table 15.9, 15_composition.md). -/
/-- Index of the compositor objects. -/
abbrev Cmp.index : Nat := 0x4220
/-- 0x4220[i].01: 0 in service, 1 retired, 2 retired, self-test due at next reset. -/
abbrev Cmp.STATE : Nat := 0x422001
/-- 0x4220[i].02: Table 15.8; 0 none. -/
abbrev Cmp.CAUSE : Nat := 0x422002
/-- 0x4220[i].03: bit k: output k served here. -/
abbrev Cmp.OUTPUTS : Nat := 0x422003
/-- 0x4220[i].04: layers with KIND ≠ 0, 0–32. -/
abbrev Cmp.LAYERS : Nat := 0x422004
/-- 0x4220[i].05: scalers held, 0–16. -/
abbrev Cmp.SCALERS : Nat := 0x422005
/-- 0x4220[i].06: frames completed. -/
abbrev Cmp.FRAMES : Nat := 0x422006
/-- 0x4220[i].07: 0 power-gated, 1 running. -/
abbrev Cmp.POWER : Nat := 0x422007
/-- 0x4220[i].08: 1 RETIRE, 2 UNRETIRE. -/
abbrev Cmp.CMD : Nat := 0x422008

/-! 0x4300: Rosette objects (Table 15.7, 15_composition.md). -/
/-- Index of the Rosette objects. -/
abbrev Ros.index : Nat := 0x4300
/-- 0x4300.01: HOST_ENG: 1 engage, 0 release. -/
abbrev Ros.ENGAGE : Nat := 0x430001
/-- 0x4300.02: SAFETY_N engagement latches. -/
abbrev Ros.PIN_LATCH : Nat := 0x430002
/-- 0x4300.03: 1: release a latched pin engagement. -/
abbrev Ros.RELEASE_PIN : Nat := 0x430003
/-- 0x4300.04: [0] HOST_ENG, [1] PIN_ENG; [7:2] 0. -/
abbrev Ros.STATE : Nat := 0x430004
/-- 0x4300.05: E of the latest engagement. -/
abbrev Ros.ENGAGED_AT : Nat := 0x430005
/-- 0x4300.06: engagements since manufacture. -/
abbrev Ros.ENGAGES : Nat := 0x430006
/-- 0x4300.07: store entry of kind 3; 0xFF none. -/
abbrev Ros.ANNOUNCE : Nat := 0x430007
/-- 0x4300.08: fill without an image, laid out as BG; default BT.709 red. -/
abbrev Ros.DEFAULT_FILL : Nat := 0x430008
/-- 0x4300.09: subscriptions now on an override stream. -/
abbrev Ros.SWITCHED : Nat := 0x430009
/-- 0x4300.0A: subscriptions withheld for lack of a stream. -/
abbrev Ros.MISSING : Nat := 0x43000A

/-! 0x4310: Rosette output objects (Table 15.7, 15_composition.md). -/
/-- Index of the Rosette output objects. -/
abbrev RosOut.index : Nat := 0x4310
/-- 0x4310[k].01: image entry shown while released; 0xFF none. -/
abbrev RosOut.NORMAL : Nat := 0x431001
/-- 0x4310[k].02: image entry shown while engaged; 0xFF DEFAULT_FILL. -/
abbrev RosOut.OVERRIDE : Nat := 0x431002

/-! 0x4320: Rosette store objects (Table 15.7, 15_composition.md). -/
/-- Index of the Rosette store objects. -/
abbrev Store.index : Nat := 0x4320
/-- 0x4320[s].01: 0 empty, 1 image, 2 override stream, 3 announcement; writing starts a new entry. -/
abbrev Store.KIND : Nat := 0x432001
/-- 0x4320[s].02: kind 2: 16 AV1, 17 HEVC, 18 AVC. -/
abbrev Store.CODEC : Nat := 0x432002
/-- 0x4320[s].03: kind 2: 0–3 of R347. -/
abbrev Store.FAMILY : Nat := 0x432003
/-- 0x4320[s].04: kind 1. -/
abbrev Store.WIDTH : Nat := 0x432004
/-- 0x4320[s].05: kind 1. -/
abbrev Store.HEIGHT : Nat := 0x432005
/-- 0x4320[s].06: appends up to 8,192 bytes. -/
abbrev Store.DATA : Nat := 0x432006
/-- 0x4320[s].07: bytes staged. -/
abbrev Store.LEN : Nat := 0x432007
/-- 0x4320[s].08: 1 SEAL, 2 CLEAR. -/
abbrev Store.CMD : Nat := 0x432008
/-- 0x4320[s].09: sealed and usable. -/
abbrev Store.READY : Nat := 0x432009
/-- 0x4320[s].0A: status of the latest SEAL. -/
abbrev Store.ERROR : Nat := 0x43200A
/-- 0x4320[s].0B: byte offset of the failed field. -/
abbrev Store.ERR_AT : Nat := 0x43200B

/-! 0x5000: DSP core objects (Table 11.13, 11_dsp_cores.md). -/
/-- Index of the DSP core objects. -/
abbrev Core.index : Nat := 0x5000
/-- 0x5000[n].01: 0 in service, 1 retired, 2 retired, self-test due at next reset. -/
abbrev Core.STATE : Nat := 0x500001
/-- 0x5000[n].02: Table 11.12; 0 none. -/
abbrev Core.CAUSE : Nat := 0x500002
/-- 0x5000[n].03: time of retirement. -/
abbrev Core.RETIRED_AT : Nat := 0x500003
/-- 0x5000[n].04: items completed. -/
abbrev Core.ITEMS : Nat := 0x500004
/-- 0x5000[n].05: cycles spent in items. -/
abbrev Core.BUSY : Nat := 0x500005
/-- 0x5000[n].06: I parity errors. -/
abbrev Core.PAR_I : Nat := 0x500006
/-- 0x5000[n].07: X and Y parity errors. -/
abbrev Core.PAR_XY : Nat := 0x500007
/-- 0x5000[n].08: counted overruns. -/
abbrev Core.OVERRUNS : Nat := 0x500008
/-- 0x5000[n].09: counted firmware faults. -/
abbrev Core.FAULTS : Nat := 0x500009
/-- 0x5000[n].0A: custom node faults. -/
abbrev Core.CUSTOM : Nat := 0x50000A
/-- 0x5000[n].0B: 1 RETIRE, 2 UNRETIRE: STATE 1 becomes 2. -/
abbrev Core.CMD : Nat := 0x50000B

/-! 0x5010: DSP cluster objects (Table 11.14, 11_dsp_cores.md). -/
/-- Index of the DSP cluster objects. -/
abbrev Clu.index : Nat := 0x5010
/-- 0x5010[c].01: 0 power-gated, 1 clock-gated, 2 running (R37). -/
abbrev Clu.POWER : Nat := 0x501001
/-- 0x5010[c].02: cores in service, 0–16. -/
abbrev Clu.IN_SERVICE : Nat := 0x501002
/-- 0x5010[c].03: shared-memory parity errors. -/
abbrev Clu.SHM_PAR : Nat := 0x501003
/-- 0x5010[c].04: power-ups from power-gated. -/
abbrev Clu.WAKES : Nat := 0x501004
/-- 0x5010[c].05: bit k: core 16c + k failed self-test at the latest reset. -/
abbrev Clu.BIST : Nat := 0x501005

/-! 0x5100: scheduler objects (Table 12.6, 12_task_scheduler.md). -/
/-- Index of the scheduler objects. -/
abbrev Sch.index : Nat := 0x5100
/-- 0x5100.01: items in flight, 0–131,072. -/
abbrev Sch.IN_FLIGHT : Nat := 0x510001
/-- 0x5100.02: highest IN_FLIGHT since reset. -/
abbrev Sch.PEAK : Nat := 0x510002
/-- 0x5100.03: 8 U32 counts of ready items, PRIO 0 first. -/
abbrev Sch.READY : Nat := 0x510003
/-- 0x5100.04: descriptors accepted. -/
abbrev Sch.SUBMITTED : Nat := 0x510004
/-- 0x5100.05: items committed. -/
abbrev Sch.COMMITTED : Nat := 0x510005
/-- 0x5100.06: re-dispatches. -/
abbrev Sch.REDISPATCHED : Nat := 0x510006
/-- 0x5100.07: items abandoned. -/
abbrev Sch.ABANDONED : Nat := 0x510007
/-- 0x5100.08: MISSING_OK items run with a missing dependence. -/
abbrev Sch.MISSING_RUNS : Nat := 0x510008
/-- 0x5100.09: descriptors rejected. -/
abbrev Sch.REJECTED : Nat := 0x510009
/-- 0x5100.0A: SSN the next descriptor receives. -/
abbrev Sch.NEXT_SSN : Nat := 0x51000A

/-! 0x5110: trace objects (Table 12.7, 12_task_scheduler.md). -/
/-- Index of the trace objects. -/
abbrev Trc.index : Nat := 0x5110
/-- 0x5110.01: trace written. -/
abbrev Trc.ENABLE : Nat := 0x511001
/-- 0x5110.02: ring size, a power of two, 1–1,024; writable only with ENABLE 0. -/
abbrev Trc.RING_MIB : Nat := 0x511002
/-- 0x5110.03: bit k: record KIND k; [15:10] and [0] reserved. -/
abbrev Trc.FILTER : Nat := 0x511003
/-- 0x5110.04: 0 overwrite, 1 stop when full. -/
abbrev Trc.MODE : Nat := 0x511004
/-- 0x5110.05: records written since enable. -/
abbrev Trc.WR_INDEX : Nat := 0x511005
/-- 0x5110.06: records the host has read; at most WR_INDEX. -/
abbrev Trc.RD_INDEX : Nat := 0x511006
/-- 0x5110.07: records not written in MODE 1. -/
abbrev Trc.LOST : Nat := 0x511007
/-- 0x5110.08: HBM byte address of the ring. -/
abbrev Trc.RING_ADDR : Nat := 0x511008

/-! 0x5200: HBM objects (Table 16.5, 16_memory.md). -/
/-- Index of the HBM objects. -/
abbrev Hbm.index : Nat := 0x5200
/-- 0x5200.01: map size, 768 × N. -/
abbrev Hbm.CAP_MIB : Nat := 0x520001
/-- 0x5200.02: N, 0–64. -/
abbrev Hbm.IN_SERVICE : Nat := 0x520002
/-- 0x5200.03: bit i: pseudo-channel i fenced, alone or with its stack. -/
abbrev Hbm.FENCED : Nat := 0x520003
/-- 0x5200.04: bit i: pseudo-channel i DEGRADED. -/
abbrev Hbm.DEGRADED : Nat := 0x520004
/-- 0x5200.05: CAP_MIB − 4,096; 0 when CAP_MIB is 0. -/
abbrev Hbm.POOL_MIB : Nat := 0x520005
/-- 0x5200.06: pool not allocated. -/
abbrev Hbm.POOL_FREE_MIB : Nat := 0x520006
/-- 0x5200.07: f of R371, percent. -/
abbrev Hbm.BW_FACTOR : Nat := 0x520007
/-- 0x5200.08: activates per refresh window, 512–32,768; applies from the next window. -/
abbrev Hbm.RD_TH : Nat := 0x520008
/-- 0x5200.09: patrol period, 1–168; applies from the next pass. -/
abbrev Hbm.SCRUB_HOURS : Nat := 0x520009
/-- 0x5200.0A: corrected words per hour per pseudo-channel; 0 never. -/
abbrev Hbm.CE_THRESH : Nat := 0x52000A
/-- 0x5200.0B: delay steps, 2–32. -/
abbrev Hbm.TRACK_LIMIT : Nat := 0x52000B
/-- 0x5200.0C: M to step 5 of the latest training. -/
abbrev Hbm.TRAIN_MS : Nat := 0x52000C
/-- 0x5200.0D: duration of the latest wipe. -/
abbrev Hbm.WIPE_MS : Nat := 0x52000D
/-- 0x5200.0E: patrol passes completed. -/
abbrev Hbm.SCRUB_PASSES : Nat := 0x52000E
/-- 0x5200.0F: 1 RETRAIN (R368). -/
abbrev Hbm.CMD : Nat := 0x52000F

/-! 0x5210: pseudo-channel objects (Table 16.6, 16_memory.md). -/
/-- Index of the pseudo-channel objects. -/
abbrev Pc.index : Nat := 0x5210
/-- 0x5210[i].01: 0 in service, 1 DEGRADED, 2 fenced, 3 fenced with its stack. -/
abbrev Pc.STATE : Nat := 0x521001
/-- 0x5210[i].02: 0 none, 1 no training setting, 2 stack fenced, 3 host FENCE, 4 UE count, 5 tracking. -/
abbrev Pc.CAUSE : Nat := 0x521002
/-- 0x5210[i].03: settings from 0 factory baseline, 1 last-good, 2 full training. -/
abbrev Pc.SOURCE : Nat := 0x521003
/-- 0x5210[i].04: 0 none, 1 fence, 2 unfence at next training. -/
abbrev Pc.PENDING : Nat := 0x521004
/-- 0x5210[i].05: corrected words. -/
abbrev Pc.CE : Nat := 0x521005
/-- 0x5210[i].06: uncorrectable words. -/
abbrev Pc.UE : Nat := 0x521006
/-- 0x5210[i].07: words repaired. -/
abbrev Pc.SCRUB_FIX : Nat := 0x521007
/-- 0x5210[i].08: neighbour refreshes. -/
abbrev Pc.NEIGHBOUR : Nat := 0x521008
/-- 0x5210[i].09: refresh management commands. -/
abbrev Pc.RFM : Nat := 0x521009
/-- 0x5210[i].0A: in-order mode entries (R357). -/
abbrev Pc.IN_ORDER : Nat := 0x52100A
/-- 0x5210[i].0B: spare lanes in use. -/
abbrev Pc.SPARES : Nat := 0x52100B
/-- 0x5210[i].0C: largest tracked drift, steps. -/
abbrev Pc.DRIFT : Nat := 0x52100C
/-- 0x5210[i].0D: 1 FENCE, 2 UNFENCE; sets PENDING. -/
abbrev Pc.CMD : Nat := 0x52100D

/-! 0x5220: HBM stack objects (Table 16.7, 16_memory.md). -/
/-- Index of the HBM stack objects. -/
abbrev Stk.index : Nat := 0x5220
/-- 0x5220[s].01: 0 in service, 1 fenced. -/
abbrev Stk.STATE : Nat := 0x522001
/-- 0x5220[s].02: stack temperature, °C. -/
abbrev Stk.TEMP : Nat := 0x522002
/-- 0x5220[s].03: 16 ms refresh window in force. -/
abbrev Stk.HOT : Nat := 0x522003
/-- 0x5220[s].04: JESD238 device ID. -/
abbrev Stk.DEVICE_ID : Nat := 0x522004
/-- 0x5220[s].05: as read from the stack. -/
abbrev Stk.RAAIMT : Nat := 0x522005
/-- 0x5220[s].06: as read from the stack. -/
abbrev Stk.RAAMMT : Nat := 0x522006

/-! 0x5230: training helper objects (Table 16.8, 16_memory.md). -/
/-- Index of the training helper objects. -/
abbrev Mar.index : Nat := 0x5230
/-- 0x5230.01: pseudo-channel 0–63. -/
abbrev Mar.TARGET : Nat := 0x523001
/-- 0x5230.02: 0 PRBS7, 1 PRBS15, 2 PRBS31, 3 walking one, 4 user. -/
abbrev Mar.PATTERN : Nat := 0x523002
/-- 0x5230.03: user pattern. -/
abbrev Mar.USER_PAT : Nat := 0x523003
/-- 0x5230.04: 1 MARGIN: eye scan on register patterns, touching no stored data; IDLE only. -/
abbrev Mar.CMD : Nat := 0x523004
/-- 0x5230.05: 0 idle, 1 running, 2 done, 3 failed. -/
abbrev Mar.STATUS : Nat := 0x523005
/-- 0x5230.06: bytes 0–35 read eye width, 36–71 write eye width, in delay steps per pin; pins 32–35 are ECC. -/
abbrev Mar.MARGIN : Nat := 0x523006

/-! 0x5300: arbiter objects (Table 17.9, 17_dma_arbitration.md). -/
/-- Index of the arbiter objects. -/
abbrev Arb.index : Nat := 0x5300
/-- 0x5300.01: cycles before an entry counts as PRIO 0, 256–65,535. -/
abbrev Arb.AGE_MAX : Nat := 0x530001

/-! 0x5310: requester objects (Table 17.10, 17_dma_arbitration.md). -/
/-- Index of the requester objects. -/
abbrev Rqr.index : Nat := 0x5310
/-- 0x5310[r].01: 0–7, 0 highest (R378). -/
abbrev Rqr.PRIO : Nat := 0x531001
/-- 0x5310[r].02: grants made to aged entries, all ports. -/
abbrev Rqr.AGED : Nat := 0x531002

/-! 0x5320: arbiter port objects (Table 17.11, 17_dma_arbitration.md). -/
/-- Index of the arbiter port objects. -/
abbrev APort.index : Nat := 0x5320
/-- 0x5320[i].01: freeze (Table 17.2). -/
abbrev APort.CAPO : Nat := 0x532001
/-- 0x5320[i].02: 0 RUNNING, 1 FROZEN, 2 DRAINED. -/
abbrev APort.STATE : Nat := 0x532002
/-- 0x5320[i].03: entries parked, 0–96. -/
abbrev APort.PARKED : Nat := 0x532003
/-- 0x5320[i].04: requests in the controller, 0–128. -/
abbrev APort.OUTSTANDING : Nat := 0x532004
/-- 0x5320[i].05: grants made. -/
abbrev APort.GRANTS : Nat := 0x532005

/-! 0x5400: DMA channel objects (Table 17.12, 17_dma_arbitration.md). -/
/-- Index of the DMA channel objects. -/
abbrev Dma.index : Nat := 0x5400
/-- 0x5400[n].01: 0 IDLE, 1 RUNNING, 2 PAUSED, 3 FAULT. -/
abbrev Dma.STATE : Nat := 0x540001
/-- 0x5400[n].02: host slot; 0xFF firmware. -/
abbrev Dma.OWNER : Nat := 0x540002
/-- 0x5400[n].03: pre-empting channel; host channels, owner and PLATFORM; only in IDLE. -/
abbrev Dma.HIGH : Nat := 0x540003
/-- 0x5400[n].04: first descriptor, as Table 17.5; host channels only in IDLE or FAULT. -/
abbrev Dma.HEAD : Nat := 0x540004
/-- 0x5400[n].05: 1 START, 2 STOP, 3 DISABLE; firmware channels: PLATFORM DISABLE only. -/
abbrev Dma.CMD : Nat := 0x540005
/-- 0x5400[n].06: descriptors completed. -/
abbrev Dma.DESCS : Nat := 0x540006
/-- 0x5400[n].07: destination bytes written. -/
abbrev Dma.BYTES : Nat := 0x540007
/-- 0x5400[n].08: STATUS of the latest record. -/
abbrev Dma.LAST_STATUS : Nat := 0x540008
/-- 0x5400[n].09: pre-emptions suffered. -/
abbrev Dma.PREEMPTS : Nat := 0x540009
/-- 0x5400[n].0A: pauses for power-down. -/
abbrev Dma.PAUSES : Nat := 0x54000A
/-- 0x5400[n].0B: samples clamped (R381). -/
abbrev Dma.CLAMPS : Nat := 0x54000B

end Sys2Proof.Machine
end

