-- ==== Sys2Proof/Machine/Status.lean ====
section
/-! DEFINITION. Status codes (R15), value types (R391), access rights (R11) and the shape of a dictionary row. -/

namespace Sys2Proof.Machine

/-- Table 0.4: the status of one Xaras operation. -/
inductive Status where
  | ok | eNoObj | eAccess | eType | eRange | eState | eBusy | eCapacity | eLate | eLength | eKey | eExhausted | eAuth
  | eTxn | eRetired
  deriving DecidableEq, Repr

/-- The code of a status (Table 0.4). -/
def Status.code : Status → Nat
  | .ok => 0x00 | .eNoObj => 0x01 | .eAccess => 0x02 | .eType => 0x03 | .eRange => 0x04 | .eState => 0x05
  | .eBusy => 0x06 | .eCapacity => 0x07 | .eLate => 0x08 | .eLength => 0x09 | .eKey => 0x0A | .eExhausted => 0x0B
  | .eAuth => 0x0C | .eTxn => 0x0D | .eRetired => 0x0E

/-- Table 18.2: the type of an object's value. -/
inductive Ty where
  | bool | u8 | u16 | u32 | u64 | i8 | i16 | i32 | i64 | time80
  | octets (n : Nat) | string (n : Nat) | blob
  deriving DecidableEq, Repr

/-- Type codes of Table 18.2. -/
def Ty.code : Ty → Nat
  | .bool => 0x01 | .u8 => 0x02 | .u16 => 0x03 | .u32 => 0x04 | .u64 => 0x05 | .i8 => 0x06 | .i16 => 0x07
  | .i32 => 0x08 | .i64 => 0x09 | .time80 => 0x0A | .octets _ => 0x0B | .string _ => 0x0C | .blob => 0x0D

/-- Value bytes of a fixed type (Table 18.2); the largest length of a STRING; 0 for a BLOB. -/
def Ty.size : Ty → Nat
  | .bool => 1 | .u8 => 1 | .u16 => 2 | .u32 => 4 | .u64 => 8 | .i8 => 1 | .i16 => 2 | .i32 => 4 | .i64 => 8
  | .time80 => 10 | .octets n => n | .string n => n | .blob => 0

/-- Is the type a two's complement number? -/
def Ty.signed : Ty → Bool
  | .i8 => true | .i16 => true | .i32 => true | .i64 => true | _ => false

/-- The right of one role in the Access column (R11). -/
inductive Right where
  | rw | ro | wo | none
  deriving DecidableEq, Repr

def Right.canRead : Right → Bool
  | .rw => true | .ro => true | .wo => false | .none => false

def Right.canWrite : Right → Bool
  | .rw => true | .wo => true | .ro => false | .none => false

/-- The Access column: the rights of PLATFORM/SAFETY/TENANT, or one of the per-element rules of Tables 8.3 and 8.4
(KEK slots 0 to 11 belong to PLATFORM and 12 to 15 to SAFETY; SESSION_KEK of slot 1 belongs to SAFETY). -/
inductive Acc where
  | roles (platform safety tenant : Right)
  | kekWo
  | kekRw
  | skek
  deriving DecidableEq, Repr

/-- The Persist column (R12). -/
inductive Persist where
  | v | m
  deriving DecidableEq, Repr

/-- One row of an object map: type, access, persistence and the intervals that hold the allowed values
(none listed: every value of the type). -/
structure ObjRow where
  ty : Ty
  acc : Acc
  persist : Persist
  allowed : List (Int × Int)
  deriving DecidableEq, Repr

/-- Table 17.1: the default priority of requester r. -/
def requesterPrio (r : Nat) : Nat :=
  if r ≤ 3 then 0 else if r ≤ 11 then 2 else if r ≤ 14 then 3 else if r = 15 then 1 else if r ≤ 19 then 4
  else if r = 20 then 5 else if r = 21 then 6 else if r = 22 then 7 else 0

end Sys2Proof.Machine
end

