-- ==== Sys2Proof/Machine/Dictionary.lean ====
section
/-! DEFINITION. The object dictionary's rows (R9 to R12, R390, R391): each object's type, access, persistence and the
values its Meaning column allows, and its Default column. -/

namespace Sys2Proof.Machine

/-- The rows of Table 18.10b (0x1000, identity and life-cycle). -/
def rowsIdent (sub : Nat) : Option ObjRow :=
  match sub with
  | 0x01 => some ⟨.string 16, (.roles .ro .ro .ro), .m, []⟩
  | 0x02 => some ⟨.string 16, (.roles .ro .ro .ro), .m, []⟩
  | 0x03 => some ⟨.octets 8, (.roles .ro .ro .ro), .m, []⟩
  | 0x04 => some ⟨.u16, (.roles .ro .ro .ro), .m, []⟩
  | 0x05 => some ⟨.u32, (.roles .ro .ro .ro), .v, []⟩
  | 0x06 => some ⟨.u8, (.roles .ro .ro .ro), .m, []⟩
  | 0x07 => some ⟨.u8, (.roles .wo .none .none), .v, [(0, 5)]⟩
  | 0x08 => some ⟨.bool, (.roles .ro .ro .none), .v, []⟩
  | 0x09 => some ⟨.u64, (.roles .ro .ro .ro), .v, []⟩
  | _ => none

/-- The rows of Table 18.11 (0x1100, Xaras). -/
def rowsXar (sub : Nat) : Option ObjRow :=
  match sub with
  | 0x01 => some ⟨.u16, (.roles .rw .ro .none), .m, [(1024, 65535)]⟩
  | 0x02 => some ⟨.u16, (.roles .rw .ro .none), .m, [(1000, 60000)]⟩
  | 0x03 => some ⟨.u64, (.roles .ro .ro .none), .v, []⟩
  | 0x04 => some ⟨.u64, (.roles .ro .ro .none), .v, []⟩
  | _ => none

/-- The rows of Table 18.11 (0x1110, management port). -/
def rowsMg (sub : Nat) : Option ObjRow :=
  match sub with
  | 0x01 => some ⟨.bool, (.roles .rw .ro .none), .m, []⟩
  | 0x02 => some ⟨.octets 4, (.roles .rw .ro .none), .m, []⟩
  | 0x03 => some ⟨.u8, (.roles .rw .ro .none), .m, [(0, 32)]⟩
  | 0x04 => some ⟨.octets 16, (.roles .rw .ro .none), .m, []⟩
  | 0x05 => some ⟨.u8, (.roles .rw .ro .none), .m, [(0, 128)]⟩
  | 0x06 => some ⟨.octets 16, (.roles .rw .ro .none), .m, []⟩
  | 0x07 => some ⟨.u16, (.roles .rw .ro .none), .m, [(1, 4094), (65535, 65535)]⟩
  | 0x08 => some ⟨.octets 6, (.roles .ro .ro .none), .m, []⟩
  | 0x09 => some ⟨.u8, (.roles .ro .ro .none), .v, []⟩
  | _ => none

/-- The rows of Table 18.12 (0x1120, host slot). -/
def rowsSlot (sub : Nat) : Option ObjRow :=
  match sub with
  | 0x01 => some ⟨.u8, (.roles .ro .ro .ro), .v, []⟩
  | 0x02 => some ⟨.u8, (.roles .rw .ro .ro), .m, [(0, 3)]⟩
  | 0x03 => some ⟨.octets 16, (.roles .rw .ro .ro), .m, []⟩
  | 0x04 => some ⟨.u8, (.roles .ro .ro .ro), .v, []⟩
  | 0x05 => some ⟨.u8, (.roles .ro .ro .ro), .v, []⟩
  | 0x06 => some ⟨.octets 16, (.roles .ro .ro .ro), .v, []⟩
  | 0x07 => some ⟨.u16, (.roles .ro .ro .ro), .v, []⟩
  | 0x08 => some ⟨.u64, (.roles .ro .ro .ro), .v, []⟩
  | 0x09 => some ⟨.u64, (.roles .ro .ro .ro), .v, []⟩
  | 0x0A => some ⟨.u32, (.roles .ro .ro .ro), .v, []⟩
  | 0x0B => some ⟨.u32, (.roles .ro .ro .ro), .v, []⟩
  | 0x0C => some ⟨.u8, (.roles .ro .ro .ro), .v, []⟩
  | 0x0D => some ⟨.u8, (.roles .rw .rw .rw), .v, [(0, 2)]⟩
  | 0x0E => some ⟨.u8, (.roles .rw .rw .rw), .v, [(0, 3)]⟩
  | 0x0F => some ⟨.u8, (.roles .ro .ro .ro), .v, []⟩
  | 0x10 => some ⟨.u32, (.roles .wo .wo .wo), .v, []⟩
  | 0x11 => some ⟨.u8, (.roles .wo .wo .wo), .v, [(1, 1)]⟩
  | 0x12 => some ⟨.u32, (.roles .ro .ro .ro), .v, []⟩
  | 0x13 => some ⟨.u32, (.roles .ro .ro .ro), .v, []⟩
  | _ => none

/-- The rows of Table 18.13 (0x1200, power and supply). -/
def rowsPwr (sub : Nat) : Option ObjRow :=
  match sub with
  | 0x01 => some ⟨.u8, (.roles .ro .ro .ro), .v, []⟩
  | 0x02 => some ⟨.u8, (.roles .wo .none .none), .v, [(0, 2)]⟩
  | 0x03 => some ⟨.u16, (.roles .ro .ro .none), .v, []⟩
  | 0x04 => some ⟨.u8, (.roles .rw .ro .none), .m, [(0, 7)]⟩
  | 0x05 => some ⟨.time80, (.roles .rw .ro .none), .v, []⟩
  | 0x06 => some ⟨.u8, (.roles .wo .none .none), .v, [(1, 1)]⟩
  | 0x07 => some ⟨.u8, (.roles .ro .ro .none), .v, []⟩
  | 0x08 => some ⟨.u16, (.roles .ro .ro .none), .v, []⟩
  | 0x09 => some ⟨.u16, (.roles .ro .ro .none), .v, []⟩
  | 0x0A => some ⟨.u16, (.roles .ro .ro .none), .v, []⟩
  | 0x0B => some ⟨.u32, (.roles .ro .ro .none), .m, []⟩
  | 0x0C => some ⟨.u32, (.roles .ro .ro .none), .m, []⟩
  | 0x0D => some ⟨.u16, (.roles .ro .ro .none), .m, []⟩
  | 0x0E => some ⟨.i8, (.roles .ro .ro .none), .v, []⟩
  | 0x0F => some ⟨.i32, (.roles .ro .ro .none), .v, []⟩
  | _ => none

/-- The rows of Table 18.14 (0x1300, calibration). -/
def rowsCal (sub : Nat) : Option ObjRow :=
  match sub with
  | 0x01 => some ⟨.u8, (.roles .ro .ro .none), .m, []⟩
  | 0x02 => some ⟨.u8, (.roles .wo .none .none), .v, [(1, 1)]⟩
  | 0x03 => some ⟨.i8, (.roles .rw .ro .none), .m, [(60, 115)]⟩
  | 0x04 => some ⟨.i8, (.roles .rw .ro .none), .m, [(60, 120)]⟩
  | 0x05 => some ⟨.i16, (.roles .rw .ro .none), .m, [(-10000, 10000)]⟩
  | 0x06 => some ⟨.u8, (.roles .ro .ro .none), .m, []⟩
  | _ => none

/-- The rows of Table 18.14 (0x1310, lane override). -/
def rowsLane (sub : Nat) : Option ObjRow :=
  match sub with
  | 0x01 => some ⟨.bool, (.roles .rw .ro .none), .m, []⟩
  | 0x02 => some ⟨.i8, (.roles .rw .ro .none), .m, [(-15, 0)]⟩
  | 0x03 => some ⟨.u8, (.roles .rw .ro .none), .m, [(20, 63)]⟩
  | 0x04 => some ⟨.i8, (.roles .rw .ro .none), .m, [(-31, 0)]⟩
  | 0x05 => some ⟨.u8, (.roles .rw .ro .none), .m, [(0, 15)]⟩
  | _ => none

/-- The rows of Table 18.15 (0x1400, life counters and event log). -/
def rowsLife (sub : Nat) : Option ObjRow :=
  match sub with
  | 0x01 => some ⟨.u32, (.roles .ro .ro .none), .m, []⟩
  | 0x02 => some ⟨.u32, (.roles .ro .ro .none), .m, []⟩
  | 0x03 => some ⟨.octets 64, (.roles .ro .ro .none), .m, []⟩
  | 0x04 => some ⟨.u16, (.roles .ro .ro .none), .m, []⟩
  | 0x05 => some ⟨.u32, (.roles .ro .ro .none), .m, []⟩
  | 0x06 => some ⟨.octets 8, (.roles .ro .ro .ro), .v, []⟩
  | 0x07 => some ⟨.u32, (.roles .rw .rw .rw), .v, []⟩
  | 0x08 => some ⟨.octets 32, (.roles .ro .ro .ro), .v, []⟩
  | 0x09 => some ⟨.u32, (.roles .ro .ro .ro), .v, []⟩
  | 0x0A => some ⟨.u16, (.roles .rw .ro .none), .v, [(0, 4095)]⟩
  | 0x0B => some ⟨.octets 32, (.roles .ro .ro .none), .v, []⟩
  | 0x0C => some ⟨.u32, (.roles .ro .ro .none), .m, []⟩
  | _ => none

/-- The rows of Table 18.16 (0x1800, unit status). -/
def rowsSvc (sub : Nat) : Option ObjRow :=
  match sub with
  | 0x01 => some ⟨.u8, (.roles .ro .ro .ro), .v, []⟩
  | 0x02 => some ⟨.u8, (.roles .ro .ro .none), .v, []⟩
  | 0x03 => some ⟨.u8, (.roles .ro .ro .none), .v, []⟩
  | 0x04 => some ⟨.u8, (.roles .ro .ro .none), .v, []⟩
  | 0x05 => some ⟨.u8, (.roles .ro .ro .none), .v, []⟩
  | 0x06 => some ⟨.u8, (.roles .ro .ro .none), .v, []⟩
  | 0x07 => some ⟨.u32, (.roles .ro .ro .none), .v, []⟩
  | 0x08 => some ⟨.u32, (.roles .ro .ro .none), .m, []⟩
  | 0x09 => some ⟨.octets 32, (.roles .ro .ro .none), .m, []⟩
  | _ => none

/-- The rows of Table 4.2 (0x2000, physical media port). -/
def rowsMp (sub : Nat) : Option ObjRow :=
  match sub with
  | 0x01 => some ⟨.u8, (.roles .rw .ro .none), .m, [(0, 2)]⟩
  | 0x02 => some ⟨.u8, (.roles .rw .ro .none), .m, [(0, 1)]⟩
  | 0x03 => some ⟨.bool, (.roles .rw .ro .none), .m, []⟩
  | 0x04 => some ⟨.u8, (.roles .ro .ro .none), .v, []⟩
  | 0x05 => some ⟨.u64, (.roles .ro .ro .none), .v, []⟩
  | 0x06 => some ⟨.u64, (.roles .ro .ro .none), .v, []⟩
  | _ => none

/-- The rows of Table 4.3 (0x2010, logical port). -/
def rowsLp (sub : Nat) : Option ObjRow :=
  match sub with
  | 0x01 => some ⟨.bool, (.roles .rw .ro .none), .m, []⟩
  | 0x02 => some ⟨.u8, (.roles .ro .ro .none), .v, []⟩
  | 0x03 => some ⟨.u16, (.roles .rw .ro .none), .m, [(1518, 9216)]⟩
  | 0x04 => some ⟨.u16, (.roles .rw .ro .none), .m, [(64, 16384)]⟩
  | 0x05 => some ⟨.octets 16, (.roles .rw .ro .none), .m, []⟩
  | 0x06 => some ⟨.u32, (.roles .ro .ro .none), .v, []⟩
  | 0x07 => some ⟨.u64, (.roles .ro .ro .none), .v, []⟩
  | 0x08 => some ⟨.u64, (.roles .ro .ro .none), .v, []⟩
  | 0x09 => some ⟨.u64, (.roles .ro .ro .none), .v, []⟩
  | 0x0A => some ⟨.u64, (.roles .ro .ro .none), .v, []⟩
  | 0x0B => some ⟨.u64, (.roles .ro .ro .none), .v, []⟩
  | 0x0C => some ⟨.u64, (.roles .ro .ro .none), .v, []⟩
  | 0x0D => some ⟨.u32, (.roles .ro .ro .none), .v, []⟩
  | 0x0E => some ⟨.u64, (.roles .ro .ro .none), .v, []⟩
  | 0x0F => some ⟨.u32, (.roles .ro .ro .none), .v, []⟩
  | 0x10 => some ⟨.u32, (.roles .rw .ro .none), .m, []⟩
  | 0x11 => some ⟨.u64, (.roles .ro .ro .none), .v, []⟩
  | _ => none

/-- The rows of Table 4.6 (0x2020, leg ingress). -/
def rowsLegIn (sub : Nat) : Option ObjRow :=
  match sub with
  | 0x01 => some ⟨.u8, (.roles .rw .ro .rw), .v, []⟩
  | 0x02 => some ⟨.u8, (.roles .rw .ro .rw), .v, []⟩
  | 0x03 => some ⟨.u8, (.roles .rw .ro .rw), .v, []⟩
  | 0x04 => some ⟨.u16, (.roles .rw .ro .rw), .v, [(64, 64), (128, 128), (192, 192), (256, 256), (320, 320), (384, 384), (448, 448), (512, 512), (576, 576), (640, 640), (704, 704), (768, 768), (832, 832), (896, 896), (960, 960), (1024, 1024)]⟩
  | 0x05 => some ⟨.u64, (.roles .ro .ro .ro), .v, []⟩
  | 0x06 => some ⟨.u64, (.roles .ro .ro .ro), .v, []⟩
  | 0x07 => some ⟨.u64, (.roles .ro .ro .ro), .v, []⟩
  | 0x08 => some ⟨.u64, (.roles .ro .ro .ro), .v, []⟩
  | 0x09 => some ⟨.u64, (.roles .ro .ro .ro), .v, []⟩
  | _ => none

/-- The rows of Table 4.8 (0x2030, punt steering). -/
def rowsPuntRule (sub : Nat) : Option ObjRow :=
  match sub with
  | 0x01 => some ⟨.bool, (.roles .rw .none .none), .m, []⟩
  | 0x02 => some ⟨.u16, (.roles .rw .none .none), .m, []⟩
  | 0x03 => some ⟨.u16, (.roles .rw .none .none), .m, []⟩
  | 0x04 => some ⟨.u8, (.roles .rw .none .none), .m, [(0, 7)]⟩
  | _ => none

/-- The rows of Table 4.9 (0x2040, punt delivery). -/
def rowsPunt (sub : Nat) : Option ObjRow :=
  match sub with
  | 0x01 => some ⟨.u8, (.roles .rw .rw .rw), .v, [(0, 1)]⟩
  | 0x02 => some ⟨.u32, (.roles .rw .ro .ro), .m, [(1000, 1000000)]⟩
  | 0x03 => some ⟨.u16, (.roles .ro .ro .ro), .v, []⟩
  | 0x04 => some ⟨.u64, (.roles .ro .ro .ro), .v, []⟩
  | 0x05 => some ⟨.u64, (.roles .ro .ro .ro), .v, []⟩
  | _ => none

/-- The rows of Table 4.7 (0x2100, meter). -/
def rowsMeter (sub : Nat) : Option ObjRow :=
  match sub with
  | 0x01 => some ⟨.bool, (.roles .rw .ro .rw), .v, []⟩
  | 0x02 => some ⟨.bool, (.roles .rw .ro .rw), .v, []⟩
  | 0x03 => some ⟨.u32, (.roles .rw .ro .rw), .v, [(0, 400000000)]⟩
  | 0x04 => some ⟨.u32, (.roles .rw .ro .rw), .v, [(64, 16777216)]⟩
  | 0x05 => some ⟨.u32, (.roles .rw .ro .rw), .v, [(0, 400000000)]⟩
  | 0x06 => some ⟨.u32, (.roles .rw .ro .rw), .v, [(64, 16777216)]⟩
  | 0x07 => some ⟨.u8, (.roles .wo .none .wo), .v, [(1, 1)]⟩
  | 0x08 => some ⟨.u32, (.roles .ro .ro .ro), .v, []⟩
  | 0x09 => some ⟨.u32, (.roles .ro .ro .ro), .v, []⟩
  | 0x0A => some ⟨.u64, (.roles .ro .ro .ro), .v, []⟩
  | 0x0B => some ⟨.u64, (.roles .ro .ro .ro), .v, []⟩
  | 0x0C => some ⟨.u64, (.roles .ro .ro .ro), .v, []⟩
  | _ => none

/-- The rows of Table 2.1 (0x2200, leg). -/
def rowsLeg (sub : Nat) : Option ObjRow :=
  match sub with
  | 0x01 => some ⟨.u8, (.roles .ro .ro .ro), .v, []⟩
  | 0x02 => some ⟨.u8, (.roles .ro .ro .ro), .v, []⟩
  | 0x03 => some ⟨.u8, (.roles .ro .ro .ro), .v, []⟩
  | 0x04 => some ⟨.u8, (.roles .rw .ro .rw), .v, [(0, 1)]⟩
  | 0x05 => some ⟨.u8, (.roles .rw .ro .rw), .v, [(0, 15)]⟩
  | 0x06 => some ⟨.octets 16, (.roles .rw .ro .rw), .v, []⟩
  | 0x07 => some ⟨.u16, (.roles .rw .ro .rw), .v, []⟩
  | 0x08 => some ⟨.octets 16, (.roles .rw .ro .rw), .v, []⟩
  | 0x09 => some ⟨.u16, (.roles .rw .ro .rw), .v, []⟩
  | 0x0A => some ⟨.u16, (.roles .rw .ro .rw), .v, [(1, 4094), (65535, 65535)]⟩
  | 0x0B => some ⟨.u16, (.roles .rw .ro .rw), .v, [(0, 8191), (65535, 65535)]⟩
  | 0x0C => some ⟨.u16, (.roles .rw .ro .rw), .v, [(0, 255), (65535, 65535)]⟩
  | 0x0D => some ⟨.u8, (.roles .rw .ro .rw), .v, [(0, 11)]⟩
  | 0x0E => some ⟨.u8, (.roles .ro .ro .ro), .v, []⟩
  | 0x0F => some ⟨.u32, (.roles .rw .ro .rw), .v, []⟩
  | 0x10 => some ⟨.u8, (.roles .ro .ro .ro), .v, []⟩
  | 0x11 => some ⟨.u32, (.roles .ro .ro .ro), .v, []⟩
  | 0x20 => some ⟨.u8, (.roles .wo .none .wo), .v, [(1, 3)]⟩
  | _ => none

/-- The rows of Table 5.6 (0x2230, leg feedback). -/
def rowsLegFb (sub : Nat) : Option ObjRow :=
  match sub with
  | 0x01 => some ⟨.u16, (.roles .rw .ro .rw), .v, [(100, 5000)]⟩
  | 0x02 => some ⟨.u16, (.roles .rw .ro .rw), .v, [(0, 4096)]⟩
  | 0x03 => some ⟨.u16, (.roles .rw .ro .rw), .v, [(100, 3000)]⟩
  | 0x04 => some ⟨.u16, (.roles .rw .ro .rw), .v, [(5, 500)]⟩
  | 0x05 => some ⟨.bool, (.roles .rw .ro .rw), .v, []⟩
  | 0x06 => some ⟨.string 32, (.roles .rw .ro .rw), .v, []⟩
  | 0x07 => some ⟨.u64, (.roles .ro .ro .ro), .v, []⟩
  | 0x08 => some ⟨.u64, (.roles .ro .ro .ro), .v, []⟩
  | 0x09 => some ⟨.u64, (.roles .ro .ro .ro), .v, []⟩
  | 0x0A => some ⟨.u32, (.roles .ro .ro .ro), .v, []⟩
  | _ => none

/-- The rows of Table 2.8 (0x2280, partition). -/
def rowsPart (sub : Nat) : Option ObjRow :=
  match sub with
  | 0x01 => some ⟨.u32, (.roles .rw .none .ro), .m, []⟩
  | 0x02 => some ⟨.u32, (.roles .rw .none .ro), .m, []⟩
  | 0x03 => some ⟨.u16, (.roles .rw .none .ro), .m, []⟩
  | 0x04 => some ⟨.u16, (.roles .rw .none .ro), .m, []⟩
  | 0x05 => some ⟨.u32, (.roles .rw .none .ro), .m, []⟩
  | 0x06 => some ⟨.u32, (.roles .rw .none .ro), .m, []⟩
  | 0x07 => some ⟨.u32, (.roles .rw .none .ro), .m, []⟩
  | 0x08 => some ⟨.u32, (.roles .rw .none .ro), .m, []⟩
  | 0x09 => some ⟨.u32, (.roles .rw .none .ro), .m, []⟩
  | 0x0A => some ⟨.u32, (.roles .rw .none .ro), .m, []⟩
  | 0x0B => some ⟨.u32, (.roles .rw .none .ro), .m, []⟩
  | 0x0C => some ⟨.u8, (.roles .rw .none .ro), .m, []⟩
  | 0x11 => some ⟨.u32, (.roles .ro .none .ro), .v, []⟩
  | 0x12 => some ⟨.u32, (.roles .ro .none .ro), .v, []⟩
  | 0x13 => some ⟨.u32, (.roles .ro .none .ro), .v, []⟩
  | 0x14 => some ⟨.u8, (.roles .ro .none .ro), .v, []⟩
  | _ => none

/-- The rows of Table 2.9 (0x2290, device capacity). -/
def rowsCap (sub : Nat) : Option ObjRow :=
  match sub with
  | 0x01 => some ⟨.u32, (.roles .ro .ro .none), .v, []⟩
  | 0x02 => some ⟨.u32, (.roles .ro .ro .none), .v, []⟩
  | 0x03 => some ⟨.u32, (.roles .ro .ro .none), .v, []⟩
  | 0x04 => some ⟨.u32, (.roles .ro .ro .none), .v, []⟩
  | 0x05 => some ⟨.u32, (.roles .ro .ro .none), .v, []⟩
  | 0x06 => some ⟨.u32, (.roles .ro .ro .none), .v, []⟩
  | 0x07 => some ⟨.u8, (.roles .ro .ro .none), .v, []⟩
  | 0x08 => some ⟨.u8, (.roles .ro .ro .none), .v, []⟩
  | 0x09 => some ⟨.u32, (.roles .ro .ro .none), .v, []⟩
  | 0x0A => some ⟨.u16, (.roles .ro .ro .none), .v, []⟩
  | 0x0B => some ⟨.u32, (.roles .ro .ro .none), .v, []⟩
  | 0x0C => some ⟨.u32, (.roles .ro .ro .none), .v, []⟩
  | _ => none

/-- The rows of Table 2.4 (0x2300, conference). -/
def rowsConf (sub : Nat) : Option ObjRow :=
  match sub with
  | 0x01 => some ⟨.u8, (.roles .ro .ro .ro), .v, []⟩
  | 0x02 => some ⟨.u8, (.roles .ro .ro .ro), .v, []⟩
  | 0x03 => some ⟨.u8, (.roles .rw .ro .rw), .v, [(1, 16)]⟩
  | 0x04 => some ⟨.u8, (.roles .rw .ro .rw), .v, [(1, 32)]⟩
  | 0x05 => some ⟨.u32, (.roles .rw .ro .rw), .v, [(0, 131072)]⟩
  | 0x06 => some ⟨.u32, (.roles .ro .ro .ro), .v, []⟩
  | 0x07 => some ⟨.u16, (.roles .ro .ro .ro), .v, []⟩
  | 0x20 => some ⟨.u8, (.roles .wo .none .wo), .v, [(1, 2)]⟩
  | _ => none

/-- The rows of Table 2.5 (0x2400, source). -/
def rowsSrc (sub : Nat) : Option ObjRow :=
  match sub with
  | 0x01 => some ⟨.u8, (.roles .ro .ro .ro), .v, []⟩
  | 0x02 => some ⟨.u8, (.roles .ro .ro .ro), .v, []⟩
  | 0x03 => some ⟨.u32, (.roles .rw .ro .rw), .v, [(0, 131071), (4294967295, 4294967295)]⟩
  | 0x04 => some ⟨.u8, (.roles .rw .ro .rw), .v, [(0, 1)]⟩
  | 0x05 => some ⟨.u32, (.roles .rw .ro .rw), .v, []⟩
  | 0x06 => some ⟨.u8, (.roles .rw .ro .rw), .v, [(0, 127)]⟩
  | 0x07 => some ⟨.u8, (.roles .rw .ro .rw), .v, [(0, 5), (16, 18)]⟩
  | 0x08 => some ⟨.u32, (.roles .rw .ro .rw), .v, []⟩
  | 0x09 => some ⟨.u8, (.roles .rw .ro .rw), .v, [(0, 127), (255, 255)]⟩
  | 0x0A => some ⟨.bool, (.roles .rw .ro .rw), .v, []⟩
  | 0x0B => some ⟨.u16, (.roles .ro .ro .ro), .v, []⟩
  | 0x0C => some ⟨.bool, (.roles .ro .ro .ro), .v, []⟩
  | 0x20 => some ⟨.u8, (.roles .wo .none .wo), .v, [(1, 2)]⟩
  | _ => none

/-- The rows of Table 2.6 (0x2410, layer). -/
def rowsLayer (sub : Nat) : Option ObjRow :=
  match sub with
  | 0x01 => some ⟨.bool, (.roles .ro .ro .ro), .v, []⟩
  | 0x02 => some ⟨.u16, (.roles .ro .ro .ro), .v, []⟩
  | 0x03 => some ⟨.u16, (.roles .ro .ro .ro), .v, []⟩
  | 0x04 => some ⟨.u16, (.roles .ro .ro .ro), .v, []⟩
  | 0x05 => some ⟨.u32, (.roles .ro .ro .ro), .v, []⟩
  | _ => none

/-- The rows of Table 5.4 (0x2420, source forwarding). -/
def rowsSrcFwd (sub : Nat) : Option ObjRow :=
  match sub with
  | 0x01 => some ⟨.u8, (.roles .rw .ro .rw), .v, [(0, 1)]⟩
  | 0x02 => some ⟨.u16, (.roles .rw .ro .rw), .v, [(100, 10000)]⟩
  | 0x03 => some ⟨.u8, (.roles .ro .ro .ro), .v, []⟩
  | 0x04 => some ⟨.u64, (.roles .ro .ro .ro), .v, []⟩
  | 0x05 => some ⟨.u64, (.roles .ro .ro .ro), .v, []⟩
  | 0x06 => some ⟨.u32, (.roles .ro .ro .ro), .v, []⟩
  | 0x07 => some ⟨.u32, (.roles .ro .ro .ro), .v, []⟩
  | 0x08 => some ⟨.u64, (.roles .ro .ro .ro), .v, []⟩
  | 0x09 => some ⟨.bool, (.roles .ro .ro .ro), .v, []⟩
  | _ => none

/-- The rows of Table 2.7 (0x2500, subscription). -/
def rowsSub (sub : Nat) : Option ObjRow :=
  match sub with
  | 0x01 => some ⟨.u8, (.roles .ro .ro .ro), .v, []⟩
  | 0x02 => some ⟨.u32, (.roles .rw .ro .rw), .v, [(0, 131071)]⟩
  | 0x03 => some ⟨.u32, (.roles .rw .ro .rw), .v, [(0, 262143)]⟩
  | 0x04 => some ⟨.u8, (.roles .rw .ro .rw), .v, [(0, 11)]⟩
  | 0x05 => some ⟨.u8, (.roles .ro .ro .ro), .v, []⟩
  | 0x06 => some ⟨.bool, (.roles .rw .ro .rw), .v, []⟩
  | 0x07 => some ⟨.u32, (.roles .rw .ro .rw), .v, []⟩
  | 0x20 => some ⟨.u8, (.roles .wo .none .wo), .v, [(1, 2)]⟩
  | _ => none

/-- The rows of Table 5.5 (0x2520, subscription forwarding). -/
def rowsSubFwd (sub : Nat) : Option ObjRow :=
  match sub with
  | 0x01 => some ⟨.u64, (.roles .ro .ro .ro), .v, []⟩
  | 0x02 => some ⟨.u64, (.roles .ro .ro .ro), .v, []⟩
  | 0x03 => some ⟨.u32, (.roles .ro .ro .ro), .v, []⟩
  | 0x04 => some ⟨.u8, (.roles .ro .ro .ro), .v, []⟩
  | 0x05 => some ⟨.u32, (.roles .rw .ro .rw), .v, []⟩
  | 0x06 => some ⟨.u8, (.roles .rw .ro .rw), .v, [(0, 127), (255, 255)]⟩
  | 0x07 => some ⟨.u32, (.roles .ro .ro .ro), .v, []⟩
  | 0x08 => some ⟨.u16, (.roles .ro .ro .ro), .v, []⟩
  | 0x09 => some ⟨.u32, (.roles .ro .ro .ro), .v, []⟩
  | 0x0A => some ⟨.u32, (.roles .ro .ro .ro), .v, []⟩
  | _ => none

/-- The rows of Table 5.9 (0x2570, splice group). -/
def rowsSplice (sub : Nat) : Option ObjRow :=
  match sub with
  | 0x01 => some ⟨.u8, (.roles .ro .ro .ro), .v, []⟩
  | 0x02 => some ⟨.u8, (.roles .ro .ro .ro), .v, []⟩
  | 0x03 => some ⟨.u8, (.roles .rw .ro .rw), .v, [(16, 17)]⟩
  | 0x04 => some ⟨.u8, (.roles .rw .ro .rw), .v, [(8, 8), (10, 10)]⟩
  | 0x05 => some ⟨.u32, (.roles .rw .ro .rw), .v, []⟩
  | 0x06 => some ⟨.u16, (.roles .rw .ro .rw), .v, []⟩
  | 0x07 => some ⟨.u16, (.roles .rw .ro .rw), .v, [(64, 64), (128, 128), (192, 192), (256, 256), (320, 320), (384, 384), (448, 448), (512, 512), (576, 576), (640, 640), (704, 704), (768, 768), (832, 832), (896, 896), (960, 960), (1024, 1024), (1088, 1088), (1152, 1152), (1216, 1216), (1280, 1280), (1344, 1344), (1408, 1408), (1472, 1472), (1536, 1536), (1600, 1600), (1664, 1664), (1728, 1728), (1792, 1792), (1856, 1856), (1920, 1920)]⟩
  | 0x08 => some ⟨.u16, (.roles .rw .ro .rw), .v, [(64, 64), (128, 128), (192, 192), (256, 256), (320, 320), (384, 384), (448, 448), (512, 512), (576, 576), (640, 640), (704, 704), (768, 768), (832, 832), (896, 896), (960, 960), (1024, 1024), (1088, 1088)]⟩
  | 0x09 => some ⟨.u8, (.roles .rw .ro .rw), .v, [(4, 128)]⟩
  | 0x0A => some ⟨.u8, (.roles .rw .ro .rw), .v, [(0, 127)]⟩
  | 0x0B => some ⟨.u32, (.roles .rw .ro .rw), .v, [(0, 1073741823)]⟩
  | 0x0C => some ⟨.u16, (.roles .ro .ro .ro), .v, []⟩
  | 0x20 => some ⟨.u8, (.roles .wo .none .wo), .v, [(1, 2)]⟩
  | _ => none

/-- The rows of Table 5.10 (0x2580, mosaic). -/
def rowsMos (sub : Nat) : Option ObjRow :=
  match sub with
  | 0x01 => some ⟨.u8, (.roles .ro .ro .ro), .v, []⟩
  | 0x02 => some ⟨.u8, (.roles .ro .ro .ro), .v, []⟩
  | 0x03 => some ⟨.u8, (.roles .rw .ro .rw), .v, [(0, 255)]⟩
  | 0x04 => some ⟨.u8, (.roles .rw .ro .rw), .v, [(1, 8)]⟩
  | 0x05 => some ⟨.u8, (.roles .rw .ro .rw), .v, [(1, 8)]⟩
  | 0x06 => some ⟨.u32, (.roles .rw .ro .rw), .v, [(0, 262143), (4294967295, 4294967295)]⟩
  | 0x07 => some ⟨.bool, (.roles .rw .ro .rw), .v, []⟩
  | 0x08 => some ⟨.u32, (.roles .ro .ro .ro), .v, []⟩
  | 0x09 => some ⟨.u64, (.roles .ro .ro .ro), .v, []⟩
  | 0x0A => some ⟨.u64, (.roles .ro .ro .ro), .v, []⟩
  | 0x20 => some ⟨.u8, (.roles .wo .none .wo), .v, [(1, 2)]⟩
  | _ => none

/-- The rows of Table 5.11 (0x2590, mosaic position). -/
def rowsMosPos (sub : Nat) : Option ObjRow :=
  match sub with
  | 0x01 => some ⟨.u32, (.roles .rw .ro .rw), .v, [(0, 262143), (4294967295, 4294967295)]⟩
  | _ => none

/-- The rows of Table 7.2 (0x2600, port egress). -/
def rowsEgr (sub : Nat) : Option ObjRow :=
  match sub with
  | 0x01 => some ⟨.u32, (.roles .rw .ro .none), .m, [(262144, 16777216)]⟩
  | 0x02 => some ⟨.u8, (.roles .rw .ro .none), .m, []⟩
  | 0x03 => some ⟨.u8, (.roles .rw .ro .none), .m, []⟩
  | 0x04 => some ⟨.u8, (.roles .rw .ro .none), .m, []⟩
  | 0x05 => some ⟨.u8, (.roles .rw .ro .none), .m, [(0, 64)]⟩
  | 0x06 => some ⟨.u8, (.roles .rw .ro .none), .m, [(10, 100)]⟩
  | 0x07 => some ⟨.u16, (.roles .rw .ro .none), .m, [(0, 1000)]⟩
  | 0x08 => some ⟨.u8, (.roles .rw .ro .none), .m, [(1, 50)]⟩
  | 0x09 => some ⟨.u32, (.roles .ro .ro .none), .v, []⟩
  | 0x0A => some ⟨.u64, (.roles .ro .ro .none), .v, []⟩
  | 0x0B => some ⟨.u64, (.roles .ro .ro .none), .v, []⟩
  | 0x0C => some ⟨.u64, (.roles .ro .ro .none), .v, []⟩
  | _ => none

/-- The rows of Table 7.3 (0x2610, leg group). -/
def rowsLegGrp (sub : Nat) : Option ObjRow :=
  match sub with
  | 0x01 => some ⟨.u8, (.roles .ro .ro .ro), .v, []⟩
  | 0x02 => some ⟨.u8, (.roles .ro .ro .ro), .v, []⟩
  | 0x03 => some ⟨.u8, (.roles .rw .ro .rw), .v, [(0, 15)]⟩
  | 0x04 => some ⟨.u32, (.roles .rw .ro .rw), .v, [(16, 400000000)]⟩
  | 0x05 => some ⟨.u32, (.roles .rw .ro .rw), .v, [(1, 16777216)]⟩
  | 0x06 => some ⟨.u8, (.roles .wo .none .wo), .v, [(1, 1)]⟩
  | 0x07 => some ⟨.u32, (.roles .ro .ro .ro), .v, []⟩
  | 0x08 => some ⟨.i64, (.roles .ro .ro .ro), .v, []⟩
  | 0x20 => some ⟨.u8, (.roles .wo .none .wo), .v, [(1, 2)]⟩
  | _ => none

/-- The rows of Table 7.4 (0x2620, leg egress). -/
def rowsShp (sub : Nat) : Option ObjRow :=
  match sub with
  | 0x01 => some ⟨.u16, (.roles .rw .ro .rw), .v, [(0, 4095), (65535, 65535)]⟩
  | 0x02 => some ⟨.u32, (.roles .rw .ro .rw), .v, [(16, 400000000)]⟩
  | 0x03 => some ⟨.u32, (.roles .rw .ro .rw), .v, [(1, 16777216)]⟩
  | 0x04 => some ⟨.u8, (.roles .wo .none .wo), .v, [(1, 1)]⟩
  | 0x05 => some ⟨.bool, (.roles .rw .ro .rw), .v, []⟩
  | 0x06 => some ⟨.u32, (.roles .rw .ro .rw), .v, [(16384, 4194304)]⟩
  | 0x07 => some ⟨.u8, (.roles .rw .ro .rw), .v, [(0, 63)]⟩
  | 0x08 => some ⟨.u8, (.roles .rw .ro .rw), .v, [(0, 63)]⟩
  | 0x09 => some ⟨.u8, (.roles .rw .ro .rw), .v, [(0, 63)]⟩
  | 0x0A => some ⟨.u8, (.roles .rw .ro .rw), .v, [(0, 63)]⟩
  | 0x0B => some ⟨.u8, (.roles .rw .ro .rw), .v, [(0, 63), (255, 255)]⟩
  | 0x0C => some ⟨.u8, (.roles .rw .ro .rw), .v, [(0, 2)]⟩
  | 0x0D => some ⟨.i64, (.roles .ro .ro .ro), .v, []⟩
  | 0x0E => some ⟨.u32, (.roles .ro .ro .ro), .v, []⟩
  | 0x0F => some ⟨.u64, (.roles .ro .ro .ro), .v, []⟩
  | 0x10 => some ⟨.u64, (.roles .ro .ro .ro), .v, []⟩
  | 0x11 => some ⟨.u64, (.roles .ro .ro .ro), .v, []⟩
  | 0x12 => some ⟨.u64, (.roles .ro .ro .ro), .v, []⟩
  | 0x13 => some ⟨.u64, (.roles .ro .ro .ro), .v, []⟩
  | _ => none

/-- The rows of Table 7.5 (0x2630, leg line). -/
def rowsLine (sub : Nat) : Option ObjRow :=
  match sub with
  | 0x01 => some ⟨.u8, (.roles .rw .ro .rw), .v, [(0, 3)]⟩
  | 0x02 => some ⟨.u32, (.roles .rw .ro .rw), .v, [(16, 400000000)]⟩
  | 0x03 => some ⟨.u32, (.roles .rw .ro .rw), .v, [(16, 400000000)]⟩
  | 0x04 => some ⟨.u32, (.roles .rw .ro .rw), .v, [(16, 400000000)]⟩
  | 0x05 => some ⟨.u8, (.roles .rw .ro .rw), .v, [(0, 100)]⟩
  | 0x06 => some ⟨.u8, (.roles .rw .ro .rw), .v, [(1, 100)]⟩
  | 0x07 => some ⟨.u8, (.roles .rw .ro .rw), .v, [(1, 100)]⟩
  | 0x08 => some ⟨.u16, (.roles .rw .ro .rw), .v, [(200, 10000)]⟩
  | 0x09 => some ⟨.u32, (.roles .ro .ro .ro), .v, []⟩
  | 0x0A => some ⟨.u8, (.roles .ro .ro .ro), .v, []⟩
  | 0x0B => some ⟨.u32, (.roles .ro .ro .ro), .v, []⟩
  | 0x0C => some ⟨.u8, (.roles .ro .ro .ro), .v, []⟩
  | 0x0D => some ⟨.u64, (.roles .ro .ro .ro), .v, []⟩
  | 0x0E => some ⟨.u32, (.roles .ro .ro .ro), .v, []⟩
  | _ => none

/-- The rows of Table 6.1 (0x2700, Fret port). -/
def rowsFret (sub : Nat) : Option ObjRow :=
  match sub with
  | 0x01 => some ⟨.bool, (.roles .rw .ro .none), .v, []⟩
  | 0x02 => some ⟨.u16, (.roles .rw .ro .none), .m, [(1536, 2047), (2049, 2053), (2055, 33023), (33025, 34524), (34526, 34824), (34826, 34983), (34985, 35062), (35064, 65535)]⟩
  | 0x03 => some ⟨.u8, (.roles .rw .ro .none), .m, [(0, 1)]⟩
  | 0x04 => some ⟨.octets 6, (.roles .rw .ro .none), .m, []⟩
  | 0x05 => some ⟨.octets 6, (.roles .rw .ro .none), .m, []⟩
  | 0x06 => some ⟨.u16, (.roles .rw .ro .none), .m, [(1, 4094), (65535, 65535)]⟩
  | 0x07 => some ⟨.u8, (.roles .rw .ro .none), .m, [(0, 64)]⟩
  | 0x08 => some ⟨.u16, (.roles .rw .ro .none), .m, [(5, 2000)]⟩
  | 0x09 => some ⟨.u16, (.roles .rw .ro .none), .m, [(5, 2000)]⟩
  | 0x0A => some ⟨.u16, (.roles .rw .ro .none), .m, [(5, 2000)]⟩
  | 0x0B => some ⟨.u16, (.roles .rw .ro .none), .m, [(1000, 20000)]⟩
  | 0x0C => some ⟨.u32, (.roles .rw .ro .none), .m, [(65536, 16777216)]⟩
  | 0x0D => some ⟨.bool, (.roles .rw .ro .none), .m, []⟩
  | 0x0E => some ⟨.bool, (.roles .rw .ro .none), .m, []⟩
  | 0x0F => some ⟨.u16, (.roles .rw .ro .none), .m, [(10, 1000)]⟩
  | 0x10 => some ⟨.u8, (.roles .rw .ro .none), .m, [(10, 100)]⟩
  | 0x11 => some ⟨.u16, (.roles .rw .ro .none), .m, [(0, 1000)]⟩
  | 0x12 => some ⟨.u8, (.roles .rw .ro .none), .m, [(1, 50)]⟩
  | 0x13 => some ⟨.u16, (.roles .rw .ro .none), .m, [(200, 10000)]⟩
  | 0x14 => some ⟨.u32, (.roles .rw .ro .none), .m, [(100, 1000000)]⟩
  | 0x15 => some ⟨.u16, (.roles .rw .ro .none), .m, [(10, 1000)]⟩
  | 0x20 => some ⟨.u8, (.roles .ro .ro .none), .v, []⟩
  | 0x21 => some ⟨.u64, (.roles .ro .ro .none), .v, []⟩
  | 0x22 => some ⟨.u64, (.roles .ro .ro .none), .v, []⟩
  | 0x23 => some ⟨.u32, (.roles .ro .ro .none), .v, []⟩
  | 0x24 => some ⟨.u32, (.roles .ro .ro .none), .v, []⟩
  | 0x25 => some ⟨.u16, (.roles .ro .ro .none), .v, []⟩
  | 0x26 => some ⟨.u64, (.roles .ro .ro .none), .v, []⟩
  | 0x27 => some ⟨.u64, (.roles .ro .ro .none), .v, []⟩
  | 0x28 => some ⟨.u32, (.roles .ro .ro .none), .v, []⟩
  | 0x29 => some ⟨.u64, (.roles .ro .ro .none), .v, []⟩
  | 0x2A => some ⟨.u32, (.roles .ro .ro .none), .v, []⟩
  | 0x2B => some ⟨.u32, (.roles .ro .ro .none), .v, []⟩
  | 0x2C => some ⟨.u32, (.roles .ro .ro .none), .v, []⟩
  | _ => none

/-- The rows of Table 6.4 (0x2710, leg Fret). -/
def rowsFLeg (sub : Nat) : Option ObjRow :=
  match sub with
  | 0x01 => some ⟨.u8, (.roles .rw .ro .rw), .v, [(0, 31)]⟩
  | 0x02 => some ⟨.u8, (.roles .ro .ro .ro), .v, []⟩
  | 0x03 => some ⟨.u32, (.roles .ro .ro .ro), .v, []⟩
  | 0x04 => some ⟨.u32, (.roles .ro .ro .ro), .v, []⟩
  | 0x05 => some ⟨.u8, (.roles .ro .ro .ro), .v, []⟩
  | 0x06 => some ⟨.u64, (.roles .ro .ro .ro), .v, []⟩
  | 0x07 => some ⟨.u64, (.roles .ro .ro .ro), .v, []⟩
  | 0x08 => some ⟨.u64, (.roles .ro .ro .ro), .v, []⟩
  | 0x09 => some ⟨.u64, (.roles .ro .ro .ro), .v, []⟩
  | 0x0A => some ⟨.u64, (.roles .ro .ro .ro), .v, []⟩
  | 0x0B => some ⟨.u8, (.roles .ro .ro .ro), .v, []⟩
  | _ => none

/-- The rows of Table 8.2 (0x2800, crypto context). -/
def rowsCtx (sub : Nat) : Option ObjRow :=
  match sub with
  | 0x01 => some ⟨.u8, (.roles .ro .ro .ro), .v, []⟩
  | 0x02 => some ⟨.u8, (.roles .ro .ro .ro), .v, []⟩
  | 0x03 => some ⟨.u32, (.roles .ro .ro .ro), .v, []⟩
  | 0x04 => some ⟨.u8, (.roles .ro .ro .ro), .v, []⟩
  | 0x05 => some ⟨.blob, (.roles .wo .none .wo), .v, []⟩
  | 0x06 => some ⟨.u8, (.roles .wo .none .wo), .v, [(1, 1)]⟩
  | 0x07 => some ⟨.u16, (.roles .rw .ro .rw), .v, [(0, 10000)]⟩
  | 0x08 => some ⟨.u16, (.roles .ro .ro .ro), .v, []⟩
  | 0x09 => some ⟨.u8, (.roles .ro .ro .ro), .v, []⟩
  | 0x0A => some ⟨.u64, (.roles .ro .ro .ro), .v, []⟩
  | 0x0B => some ⟨.u64, (.roles .ro .ro .ro), .v, []⟩
  | 0x0C => some ⟨.u64, (.roles .ro .ro .ro), .v, []⟩
  | 0x0D => some ⟨.u64, (.roles .ro .ro .ro), .v, []⟩
  | 0x0E => some ⟨.u64, (.roles .ro .ro .ro), .v, []⟩
  | _ => none

/-- The rows of Table 8.3 (0x2810, KEK). -/
def rowsKek (sub : Nat) : Option ObjRow :=
  match sub with
  | 0x01 => some ⟨.octets 32, .kekWo, .m, []⟩
  | 0x02 => some ⟨.u8, .kekRw, .m, [(16, 16), (32, 32)]⟩
  | 0x03 => some ⟨.u8, (.roles .ro .ro .ro), .m, []⟩
  | 0x04 => some ⟨.u8, .kekRw, .m, []⟩
  | 0x05 => some ⟨.octets 3, (.roles .ro .ro .ro), .m, []⟩
  | 0x06 => some ⟨.u8, .kekWo, .v, [(1, 1)]⟩
  | 0x07 => some ⟨.u32, (.roles .ro .ro .none), .m, []⟩
  | _ => none

/-- The rows of Table 8.4 (0x2820, session KEK). -/
def rowsSKek (sub : Nat) : Option ObjRow :=
  match sub with
  | 0x01 => some ⟨.u8, .skek, .m, [(0, 15), (255, 255)]⟩
  | _ => none

/-- The rows of Table 8.11 (0x2830, alarm). -/
def rowsAlarm (sub : Nat) : Option ObjRow :=
  match sub with
  | 0x01 => some ⟨.u8, (.roles .ro .ro .none), .m, []⟩
  | 0x02 => some ⟨.u32, (.roles .ro .ro .none), .m, []⟩
  | 0x03 => some ⟨.time80, (.roles .ro .ro .none), .m, []⟩
  | 0x04 => some ⟨.u8, (.roles .wo .wo .none), .v, [(1, 1)]⟩
  | 0x05 => some ⟨.u32, (.roles .ro .ro .none), .v, []⟩
  | _ => none

/-- The rows of Table 3.1 (0x3000, local clock). -/
def rowsClk (sub : Nat) : Option ObjRow :=
  match sub with
  | 0x01 => some ⟨.time80, (.roles .ro .ro .ro), .v, []⟩
  | 0x02 => some ⟨.u8, (.roles .ro .ro .ro), .v, []⟩
  | 0x03 => some ⟨.u8, (.roles .rw .ro .none), .m, [(0, 3)]⟩
  | 0x04 => some ⟨.time80, (.roles .wo .none .none), .v, []⟩
  | 0x05 => some ⟨.i64, (.roles .ro .ro .none), .v, []⟩
  | 0x06 => some ⟨.i32, (.roles .ro .ro .none), .v, []⟩
  | 0x07 => some ⟨.i16, (.roles .rw .ro .ro), .m, []⟩
  | 0x08 => some ⟨.u8, (.roles .ro .ro .ro), .v, []⟩
  | 0x09 => some ⟨.u32, (.roles .rw .ro .none), .m, [(10, 100000)]⟩
  | 0x0A => some ⟨.u32, (.roles .rw .ro .none), .m, [(1000, 1000000000)]⟩
  | 0x0B => some ⟨.u32, (.roles .rw .ro .none), .m, [(1000, 200000)]⟩
  | 0x0C => some ⟨.bool, (.roles .ro .ro .ro), .v, []⟩
  | 0x0D => some ⟨.u32, (.roles .ro .ro .none), .v, []⟩
  | 0x0E => some ⟨.u32, (.roles .ro .ro .none), .v, []⟩
  | _ => none

/-- The rows of Table 3.5 (0x3010, PTP port). -/
def rowsPtp (sub : Nat) : Option ObjRow :=
  match sub with
  | 0x01 => some ⟨.bool, (.roles .rw .ro .none), .m, []⟩
  | 0x02 => some ⟨.u8, (.roles .rw .ro .none), .m, [(0, 2)]⟩
  | 0x03 => some ⟨.u8, (.roles .rw .ro .none), .m, []⟩
  | 0x04 => some ⟨.u16, (.roles .rw .ro .none), .m, [(1, 4094), (65535, 65535)]⟩
  | 0x05 => some ⟨.u8, (.roles .rw .ro .none), .m, [(1, 255)]⟩
  | 0x06 => some ⟨.octets 16, (.roles .rw .ro .none), .m, []⟩
  | 0x07 => some ⟨.octets 16, (.roles .rw .ro .none), .m, []⟩
  | 0x08 => some ⟨.i8, (.roles .rw .ro .none), .m, [(-7, 0)]⟩
  | 0x09 => some ⟨.i8, (.roles .rw .ro .none), .m, [(-7, 0)]⟩
  | 0x0A => some ⟨.u8, (.roles .ro .ro .none), .v, []⟩
  | 0x0B => some ⟨.i64, (.roles .ro .ro .none), .v, []⟩
  | 0x0C => some ⟨.octets 10, (.roles .ro .ro .none), .v, []⟩
  | 0x0D => some ⟨.u32, (.roles .ro .ro .none), .v, []⟩
  | 0x0E => some ⟨.u32, (.roles .ro .ro .none), .v, []⟩
  | _ => none

/-- The rows of Table 3.6 (0x3020, time-stamp correction). -/
def rowsTsCor (sub : Nat) : Option ObjRow :=
  match sub with
  | 0x01 => some ⟨.i32, (.roles .ro .ro .none), .m, []⟩
  | 0x02 => some ⟨.i32, (.roles .ro .ro .none), .m, []⟩
  | 0x03 => some ⟨.i32, (.roles .rw .ro .none), .m, [(-1000000, 1000000)]⟩
  | 0x04 => some ⟨.i32, (.roles .rw .ro .none), .m, [(-1000000, 1000000)]⟩
  | _ => none

/-- The rows of Table 3.8 (0x3030, reference and SyncE). -/
def rowsRef (sub : Nat) : Option ObjRow :=
  match sub with
  | 0x01 => some ⟨.u8, (.roles .rw .ro .none), .m, [(0, 19), (255, 255)]⟩
  | 0x02 => some ⟨.u8, (.roles .rw .ro .none), .m, [(0, 19), (255, 255)]⟩
  | 0x03 => some ⟨.u8, (.roles .rw .ro .none), .m, [(0, 15)]⟩
  | 0x04 => some ⟨.u8, (.roles .ro .ro .none), .v, []⟩
  | 0x05 => some ⟨.u8, (.roles .ro .ro .none), .v, []⟩
  | 0x06 => some ⟨.u8, (.roles .rw .ro .none), .m, [(0, 1)]⟩
  | 0x07 => some ⟨.u64, (.roles .wo .none .none), .v, [(0, 281474976710655)]⟩
  | 0x08 => some ⟨.i32, (.roles .rw .ro .none), .m, []⟩
  | _ => none

/-- The rows of Table 3.9 (0x3040, time output). -/
def rowsTout (sub : Nat) : Option ObjRow :=
  match sub with
  | 0x01 => some ⟨.u8, (.roles .rw .ro .none), .v, [(0, 3)]⟩
  | 0x02 => some ⟨.time80, (.roles .rw .ro .none), .v, []⟩
  | 0x03 => some ⟨.u64, (.roles .rw .ro .none), .v, []⟩
  | 0x04 => some ⟨.u32, (.roles .rw .ro .none), .v, []⟩
  | 0x05 => some ⟨.bool, (.roles .rw .ro .none), .v, []⟩
  | 0x06 => some ⟨.u8, (.roles .rw .ro .none), .v, [(0, 1)]⟩
  | 0x07 => some ⟨.u8, (.roles .wo .none .none), .v, [(1, 2)]⟩
  | 0x08 => some ⟨.u8, (.roles .ro .ro .none), .v, []⟩
  | 0x09 => some ⟨.time80, (.roles .ro .ro .none), .v, []⟩
  | 0x0A => some ⟨.u64, (.roles .ro .ro .none), .v, []⟩
  | 0x0B => some ⟨.i32, (.roles .rw .ro .none), .m, [(-100000, 100000)]⟩
  | _ => none

/-- The rows of Table 3.10 (0x3050, time capture). -/
def rowsTin (sub : Nat) : Option ObjRow :=
  match sub with
  | 0x01 => some ⟨.bool, (.roles .rw .ro .none), .v, []⟩
  | 0x02 => some ⟨.u8, (.roles .rw .ro .none), .v, [(0, 2)]⟩
  | 0x03 => some ⟨.u8, (.roles .ro .ro .none), .v, []⟩
  | 0x04 => some ⟨.octets 16, (.roles .ro .ro .none), .v, []⟩
  | 0x05 => some ⟨.u32, (.roles .ro .ro .none), .v, []⟩
  | 0x06 => some ⟨.i32, (.roles .rw .ro .none), .m, [(-100000, 100000)]⟩
  | 0x07 => some ⟨.u16, (.roles .rw .ro .none), .v, [(2, 10000)]⟩
  | _ => none

/-- The rows of Table 3.13 (0x3070, slot clock). -/
def rowsFSlot (sub : Nat) : Option ObjRow :=
  match sub with
  | 0x01 => some ⟨.u8, (.roles .rw .ro .none), .m, [(0, 3)]⟩
  | 0x02 => some ⟨.u64, (.roles .rw .ro .none), .m, [(0, 10239999999)]⟩
  | 0x03 => some ⟨.u32, (.roles .ro .ro .none), .v, []⟩
  | _ => none

/-- The rows of Table 9.2 (0x3100, codec configuration). -/
def rowsACfg (sub : Nat) : Option ObjRow :=
  match sub with
  | 0x01 => some ⟨.u8, (.roles .rw .ro .ro), .m, [(0, 5)]⟩
  | 0x02 => some ⟨.u8, (.roles .rw .ro .ro), .m, [(0, 2)]⟩
  | 0x03 => some ⟨.u32, (.roles .rw .ro .ro), .m, []⟩
  | 0x04 => some ⟨.u8, (.roles .rw .ro .ro), .m, []⟩
  | 0x05 => some ⟨.u8, (.roles .rw .ro .ro), .m, [(0, 10)]⟩
  | 0x06 => some ⟨.bool, (.roles .rw .ro .ro), .m, []⟩
  | 0x07 => some ⟨.bool, (.roles .rw .ro .ro), .m, []⟩
  | 0x08 => some ⟨.u8, (.roles .rw .ro .ro), .m, [(0, 127)]⟩
  | 0x09 => some ⟨.u8, (.roles .rw .ro .ro), .m, [(0, 127), (255, 255)]⟩
  | 0x0A => some ⟨.u32, (.roles .ro .ro .ro), .v, []⟩
  | 0x0B => some ⟨.u32, (.roles .ro .ro .ro), .v, []⟩
  | _ => none

/-- The rows of Table 9.3 (0x3110, conference audio). -/
def rowsMix (sub : Nat) : Option ObjRow :=
  match sub with
  | 0x01 => some ⟨.u8, (.roles .rw .ro .rw), .v, [(0, 2)]⟩
  | 0x02 => some ⟨.u8, (.roles .rw .ro .rw), .v, [(0, 127)]⟩
  | 0x03 => some ⟨.u8, (.roles .rw .ro .rw), .v, [(0, 30)]⟩
  | 0x04 => some ⟨.u16, (.roles .rw .ro .rw), .v, [(0, 5000)]⟩
  | 0x05 => some ⟨.i8, (.roles .rw .ro .rw), .v, [(-90, 0)]⟩
  | 0x06 => some ⟨.i8, (.roles .rw .ro .rw), .v, [(-90, -20)]⟩
  | 0x07 => some ⟨.u16, (.roles .rw .ro .rw), .v, [(100, 60000)]⟩
  | 0x08 => some ⟨.u8, (.roles .rw .ro .rw), .v, [(10, 200)]⟩
  | 0x09 => some ⟨.bool, (.roles .rw .ro .rw), .v, []⟩
  | 0x0A => some ⟨.octets 64, (.roles .ro .ro .ro), .v, []⟩
  | 0x0B => some ⟨.u8, (.roles .ro .ro .ro), .v, []⟩
  | 0x0C => some ⟨.bool, (.roles .ro .ro .ro), .v, []⟩
  | 0x0D => some ⟨.u16, (.roles .ro .ro .ro), .v, []⟩
  | 0x0E => some ⟨.u64, (.roles .ro .ro .ro), .v, []⟩
  | _ => none

/-- The rows of Table 9.11 (0x3120, route graph). -/
def rowsGraph (sub : Nat) : Option ObjRow :=
  match sub with
  | 0x01 => some ⟨.u8, (.roles .ro .ro .ro), .v, []⟩
  | 0x02 => some ⟨.u8, (.roles .ro .ro .ro), .v, []⟩
  | 0x03 => some ⟨.blob, (.roles .wo .none .wo), .v, []⟩
  | 0x04 => some ⟨.u8, (.roles .wo .none .wo), .v, [(1, 4)]⟩
  | 0x05 => some ⟨.u16, (.roles .ro .ro .ro), .v, []⟩
  | 0x06 => some ⟨.u16, (.roles .ro .ro .ro), .v, []⟩
  | 0x07 => some ⟨.u32, (.roles .ro .ro .ro), .v, []⟩
  | 0x08 => some ⟨.u16, (.roles .ro .ro .ro), .v, []⟩
  | 0x09 => some ⟨.u32, (.roles .ro .ro .ro), .v, []⟩
  | 0x0A => some ⟨.bool, (.roles .ro .ro .ro), .v, []⟩
  | _ => none

/-- The rows of Table 9.12 (0x3130, latency). -/
def rowsLat (sub : Nat) : Option ObjRow :=
  match sub with
  | 0x01 => some ⟨.u8, (.roles .ro .ro .ro), .v, []⟩
  | 0x02 => some ⟨.u8, (.roles .ro .ro .ro), .v, []⟩
  | 0x03 => some ⟨.u32, (.roles .ro .ro .ro), .v, []⟩
  | 0x04 => some ⟨.u32, (.roles .ro .ro .ro), .v, []⟩
  | 0x05 => some ⟨.u8, (.roles .ro .ro .ro), .v, []⟩
  | _ => none

/-- The rows of Table 9.4 (0x3150, leg mix). -/
def rowsLegMix (sub : Nat) : Option ObjRow :=
  match sub with
  | 0x01 => some ⟨.u32, (.roles .rw .ro .rw), .v, []⟩
  | 0x02 => some ⟨.u8, (.roles .ro .ro .ro), .v, []⟩
  | 0x03 => some ⟨.u32, (.roles .ro .ro .ro), .v, []⟩
  | 0x04 => some ⟨.u64, (.roles .ro .ro .ro), .v, []⟩
  | _ => none

/-- The rows of Table 10.8 (0x3200, serial audio port). -/
def rowsSap (sub : Nat) : Option ObjRow :=
  match sub with
  | 0x01 => some ⟨.bool, (.roles .rw .ro .none), .v, []⟩
  | 0x02 => some ⟨.u8, (.roles .rw .ro .none), .m, [(0, 2)]⟩
  | 0x03 => some ⟨.u8, (.roles .rw .ro .none), .m, [(0, 1)]⟩
  | 0x04 => some ⟨.u8, (.roles .rw .ro .none), .m, [(0, 2)]⟩
  | 0x05 => some ⟨.u8, (.roles .rw .ro .none), .m, [(1, 32)]⟩
  | 0x06 => some ⟨.u8, (.roles .rw .ro .none), .m, [(16, 16), (24, 24), (32, 32)]⟩
  | 0x07 => some ⟨.u8, (.roles .rw .ro .none), .m, [(16, 16), (24, 24), (32, 32)]⟩
  | 0x08 => some ⟨.u8, (.roles .rw .ro .none), .m, [(0, 31)]⟩
  | 0x09 => some ⟨.u8, (.roles .rw .ro .none), .m, [(0, 2)]⟩
  | 0x0A => some ⟨.u8, (.roles .rw .ro .none), .m, []⟩
  | 0x0B => some ⟨.u8, (.roles .rw .ro .none), .m, []⟩
  | 0x0C => some ⟨.u32, (.roles .rw .ro .none), .v, []⟩
  | 0x0D => some ⟨.u32, (.roles .rw .ro .none), .v, []⟩
  | 0x10 => some ⟨.u8, (.roles .ro .ro .ro), .v, []⟩
  | 0x11 => some ⟨.u32, (.roles .ro .ro .ro), .v, []⟩
  | 0x12 => some ⟨.u32, (.roles .ro .ro .ro), .v, []⟩
  | 0x13 => some ⟨.u32, (.roles .ro .ro .ro), .v, []⟩
  | 0x14 => some ⟨.u32, (.roles .ro .ro .ro), .v, []⟩
  | 0x15 => some ⟨.u32, (.roles .ro .ro .ro), .v, []⟩
  | _ => none

/-- The rows of Table 10.9 (0x3210, slot grant). -/
def rowsSlotOwn (sub : Nat) : Option ObjRow :=
  match sub with
  | 0x01 => some ⟨.u8, (.roles .rw .ro .ro), .m, [(0, 7)]⟩
  | 0x02 => some ⟨.u8, (.roles .rw .ro .ro), .m, [(0, 7)]⟩
  | _ => none

/-- The rows of Table 10.10 (0x3230, clock output). -/
def rowsAClk (sub : Nat) : Option ObjRow :=
  match sub with
  | 0x01 => some ⟨.u8, (.roles .rw .ro .none), .m, [(0, 2)]⟩
  | 0x02 => some ⟨.u8, (.roles .rw .ro .none), .m, [(0, 2)]⟩
  | 0x03 => some ⟨.bool, (.roles .rw .ro .none), .m, []⟩
  | _ => none

/-- The rows of Table 10.11 (0x3240, AES3 input). -/
def rowsAesi (sub : Nat) : Option ObjRow :=
  match sub with
  | 0x01 => some ⟨.bool, (.roles .rw .ro .none), .v, []⟩
  | 0x02 => some ⟨.u8, (.roles .rw .ro .none), .m, [(0, 1)]⟩
  | 0x03 => some ⟨.u8, (.roles .rw .ro .none), .v, [(0, 3)]⟩
  | 0x04 => some ⟨.u8, (.roles .ro .ro .ro), .v, []⟩
  | 0x05 => some ⟨.octets 24, (.roles .ro .ro .ro), .v, []⟩
  | 0x06 => some ⟨.octets 24, (.roles .ro .ro .ro), .v, []⟩
  | 0x07 => some ⟨.octets 24, (.roles .ro .ro .ro), .v, []⟩
  | 0x08 => some ⟨.octets 24, (.roles .ro .ro .ro), .v, []⟩
  | 0x09 => some ⟨.u32, (.roles .ro .ro .ro), .v, []⟩
  | 0x0A => some ⟨.u32, (.roles .ro .ro .ro), .v, []⟩
  | 0x0B => some ⟨.u32, (.roles .ro .ro .ro), .v, []⟩
  | 0x0C => some ⟨.u32, (.roles .ro .ro .ro), .v, []⟩
  | 0x0D => some ⟨.u64, (.roles .ro .ro .ro), .v, []⟩
  | 0x0E => some ⟨.u32, (.roles .ro .ro .ro), .v, []⟩
  | 0x0F => some ⟨.u32, (.roles .ro .ro .ro), .v, []⟩
  | _ => none

/-- The rows of Table 10.12 (0x3250, AES3 output). -/
def rowsAeso (sub : Nat) : Option ObjRow :=
  match sub with
  | 0x01 => some ⟨.bool, (.roles .rw .ro .none), .v, []⟩
  | 0x02 => some ⟨.u8, (.roles .rw .ro .none), .m, [(0, 2)]⟩
  | 0x03 => some ⟨.u8, (.roles .rw .ro .none), .m, []⟩
  | 0x04 => some ⟨.u8, (.roles .rw .ro .none), .m, []⟩
  | 0x05 => some ⟨.u8, (.roles .rw .ro .none), .v, [(0, 3)]⟩
  | 0x06 => some ⟨.octets 24, (.roles .rw .ro .none), .m, []⟩
  | 0x07 => some ⟨.octets 24, (.roles .rw .ro .none), .m, []⟩
  | 0x08 => some ⟨.bool, (.roles .rw .ro .none), .m, []⟩
  | 0x09 => some ⟨.octets 24, (.roles .rw .ro .none), .m, []⟩
  | 0x0A => some ⟨.u8, (.roles .ro .ro .ro), .v, []⟩
  | 0x0B => some ⟨.u32, (.roles .ro .ro .ro), .v, []⟩
  | 0x0C => some ⟨.u32, (.roles .ro .ro .ro), .v, []⟩
  | 0x0D => some ⟨.u32, (.roles .ro .ro .ro), .v, []⟩
  | _ => none

/-- The rows of Table 10.13 (0x3300, ASRC). -/
def rowsAsrc (sub : Nat) : Option ObjRow :=
  match sub with
  | 0x01 => some ⟨.u8, (.roles .ro .ro .ro), .v, []⟩
  | 0x02 => some ⟨.u32, (.roles .ro .ro .ro), .v, []⟩
  | 0x03 => some ⟨.u16, (.roles .ro .ro .ro), .v, []⟩
  | 0x04 => some ⟨.u32, (.roles .ro .ro .ro), .v, []⟩
  | 0x05 => some ⟨.u16, (.roles .ro .ro .ro), .v, []⟩
  | 0x06 => some ⟨.u32, (.roles .ro .ro .ro), .v, []⟩
  | _ => none

/-- The rows of Table 13.5 (0x4000, decode session). -/
def rowsDec (sub : Nat) : Option ObjRow :=
  match sub with
  | 0x01 => some ⟨.u8, (.roles .ro .ro .ro), .v, []⟩
  | 0x02 => some ⟨.u8, (.roles .ro .ro .ro), .v, []⟩
  | 0x03 => some ⟨.u32, (.roles .rw .ro .rw), .v, [(0, 262143), (4294967295, 4294967295)]⟩
  | 0x04 => some ⟨.u8, (.roles .rw .ro .rw), .v, [(0, 11)]⟩
  | 0x05 => some ⟨.u16, (.roles .rw .ro .rw), .v, [(16, 7680)]⟩
  | 0x06 => some ⟨.u16, (.roles .rw .ro .rw), .v, [(16, 4320)]⟩
  | 0x07 => some ⟨.u16, (.roles .rw .ro .rw), .v, [(100, 12000)]⟩
  | 0x08 => some ⟨.u8, (.roles .rw .ro .rw), .v, [(0, 1)]⟩
  | 0x09 => some ⟨.u8, (.roles .rw .ro .rw), .v, [(1, 8)]⟩
  | 0x0A => some ⟨.u16, (.roles .rw .ro .rw), .v, [(0, 500)]⟩
  | 0x0B => some ⟨.u16, (.roles .rw .ro .rw), .v, [(100, 10000)]⟩
  | 0x0C => some ⟨.u16, (.roles .ro .ro .ro), .v, []⟩
  | 0x0D => some ⟨.u32, (.roles .ro .ro .ro), .v, []⟩
  | 0x0E => some ⟨.u16, (.roles .ro .ro .ro), .v, []⟩
  | 0x0F => some ⟨.u16, (.roles .ro .ro .ro), .v, []⟩
  | 0x10 => some ⟨.u64, (.roles .ro .ro .ro), .v, []⟩
  | 0x11 => some ⟨.u64, (.roles .ro .ro .ro), .v, []⟩
  | 0x12 => some ⟨.u32, (.roles .ro .ro .ro), .v, []⟩
  | 0x13 => some ⟨.u32, (.roles .ro .ro .ro), .v, []⟩
  | 0x14 => some ⟨.u32, (.roles .ro .ro .ro), .v, []⟩
  | 0x15 => some ⟨.octets 64, (.roles .ro .ro .ro), .v, []⟩
  | 0x16 => some ⟨.u64, (.roles .ro .ro .ro), .v, []⟩
  | 0x17 => some ⟨.u64, (.roles .ro .ro .ro), .v, []⟩
  | 0x18 => some ⟨.u32, (.roles .ro .ro .ro), .v, []⟩
  | 0x19 => some ⟨.u32, (.roles .ro .ro .ro), .v, []⟩
  | 0x20 => some ⟨.u8, (.roles .wo .none .wo), .v, [(1, 2)]⟩
  | _ => none

/-- The rows of Table 13.6 (0x4010, decode core). -/
def rowsVd (sub : Nat) : Option ObjRow :=
  match sub with
  | 0x01 => some ⟨.u8, (.roles .ro .ro .none), .m, []⟩
  | 0x02 => some ⟨.u8, (.roles .ro .ro .none), .m, []⟩
  | 0x03 => some ⟨.u32, (.roles .ro .ro .none), .v, []⟩
  | 0x04 => some ⟨.u8, (.roles .ro .ro .none), .v, []⟩
  | 0x05 => some ⟨.u64, (.roles .ro .ro .none), .v, []⟩
  | 0x06 => some ⟨.u32, (.roles .ro .ro .none), .v, []⟩
  | 0x07 => some ⟨.u8, (.roles .ro .ro .none), .v, []⟩
  | 0x08 => some ⟨.u8, (.roles .wo .none .none), .v, [(1, 2)]⟩
  | _ => none

/-- The rows of Table 14.6 (0x4100, encode session). -/
def rowsEnc (sub : Nat) : Option ObjRow :=
  match sub with
  | 0x01 => some ⟨.u8, (.roles .ro .ro .ro), .v, []⟩
  | 0x02 => some ⟨.u8, (.roles .ro .ro .ro), .v, []⟩
  | 0x03 => some ⟨.u32, (.roles .rw .ro .rw), .v, [(0, 262143), (4294967295, 4294967295)]⟩
  | 0x04 => some ⟨.u8, (.roles .rw .ro .rw), .v, [(0, 1)]⟩
  | 0x05 => some ⟨.u16, (.roles .rw .ro .rw), .v, [(0, 2047)]⟩
  | 0x06 => some ⟨.u8, (.roles .rw .ro .rw), .v, [(8, 8), (10, 10)]⟩
  | 0x07 => some ⟨.u16, (.roles .rw .ro .rw), .v, [(64, 7680)]⟩
  | 0x08 => some ⟨.u16, (.roles .rw .ro .rw), .v, [(64, 4320)]⟩
  | 0x09 => some ⟨.u32, (.roles .rw .ro .rw), .v, []⟩
  | 0x0A => some ⟨.u16, (.roles .rw .ro .rw), .v, []⟩
  | 0x0B => some ⟨.u8, (.roles .rw .ro .rw), .v, [(1, 3)]⟩
  | 0x0C => some ⟨.u8, (.roles .rw .ro .rw), .v, [(1, 4)]⟩
  | 0x0D => some ⟨.u8, (.roles .rw .ro .rw), .v, [(0, 1)]⟩
  | 0x0E => some ⟨.u8, (.roles .rw .ro .rw), .v, [(0, 0), (8, 128)]⟩
  | 0x0F => some ⟨.u16, (.roles .rw .ro .rw), .v, [(8, 1024)]⟩
  | 0x10 => some ⟨.u8, (.roles .rw .ro .rw), .v, []⟩
  | 0x11 => some ⟨.u32, (.roles .rw .ro .rw), .v, [(16, 400000)]⟩
  | 0x12 => some ⟨.u32, (.roles .rw .ro .rw), .v, [(0, 0), (16, 400000)]⟩
  | 0x13 => some ⟨.u32, (.roles .rw .ro .rw), .v, [(0, 0), (16, 400000)]⟩
  | 0x14 => some ⟨.u8, (.roles .rw .ro .rw), .v, [(0, 51)]⟩
  | 0x15 => some ⟨.u8, (.roles .rw .ro .rw), .v, [(0, 51)]⟩
  | 0x16 => some ⟨.u16, (.roles .ro .ro .ro), .v, []⟩
  | 0x17 => some ⟨.u32, (.roles .ro .ro .ro), .v, []⟩
  | 0x18 => some ⟨.u64, (.roles .ro .ro .ro), .v, []⟩
  | 0x19 => some ⟨.u32, (.roles .ro .ro .ro), .v, []⟩
  | 0x1A => some ⟨.u32, (.roles .ro .ro .ro), .v, []⟩
  | 0x1B => some ⟨.u64, (.roles .ro .ro .ro), .v, []⟩
  | 0x1C => some ⟨.u32, (.roles .ro .ro .ro), .v, []⟩
  | 0x1D => some ⟨.u64, (.roles .ro .ro .ro), .v, []⟩
  | 0x1E => some ⟨.u32, (.roles .ro .ro .ro), .v, []⟩
  | 0x1F => some ⟨.u32, (.roles .ro .ro .ro), .v, []⟩
  | 0x20 => some ⟨.u8, (.roles .wo .none .wo), .v, [(1, 2)]⟩
  | 0x21 => some ⟨.u64, (.roles .ro .ro .ro), .v, []⟩
  | 0x22 => some ⟨.u32, (.roles .ro .ro .ro), .v, []⟩
  | 0x23 => some ⟨.u32, (.roles .ro .ro .ro), .v, []⟩
  | _ => none

/-- The rows of Table 14.7 (0x4110, encode core). -/
def rowsVe (sub : Nat) : Option ObjRow :=
  match sub with
  | 0x01 => some ⟨.u8, (.roles .ro .ro .none), .m, []⟩
  | 0x02 => some ⟨.u8, (.roles .ro .ro .none), .m, []⟩
  | 0x03 => some ⟨.u32, (.roles .ro .ro .none), .v, []⟩
  | 0x04 => some ⟨.u8, (.roles .ro .ro .none), .v, []⟩
  | 0x05 => some ⟨.u64, (.roles .ro .ro .none), .v, []⟩
  | 0x06 => some ⟨.u32, (.roles .ro .ro .none), .v, []⟩
  | 0x07 => some ⟨.u8, (.roles .ro .ro .none), .v, []⟩
  | 0x08 => some ⟨.u8, (.roles .wo .none .none), .v, [(1, 2)]⟩
  | _ => none

/-- The rows of Table 15.1 (0x4200, composition output). -/
def rowsOutp (sub : Nat) : Option ObjRow :=
  match sub with
  | 0x01 => some ⟨.u8, (.roles .ro .ro .ro), .v, []⟩
  | 0x02 => some ⟨.u8, (.roles .ro .ro .ro), .v, []⟩
  | 0x03 => some ⟨.u16, (.roles .rw .ro .rw), .v, [(64, 3840)]⟩
  | 0x04 => some ⟨.u16, (.roles .rw .ro .rw), .v, [(64, 2160)]⟩
  | 0x05 => some ⟨.u32, (.roles .rw .ro .rw), .v, []⟩
  | 0x06 => some ⟨.u16, (.roles .rw .ro .rw), .v, []⟩
  | 0x07 => some ⟨.u8, (.roles .rw .ro .rw), .v, [(8, 8), (10, 10)]⟩
  | 0x08 => some ⟨.u8, (.roles .rw .ro .rw), .v, [(0, 2)]⟩
  | 0x09 => some ⟨.u8, (.roles .rw .ro .rw), .v, [(0, 1)]⟩
  | 0x0A => some ⟨.u16, (.roles .rw .ro .rw), .v, [(400, 10000)]⟩
  | 0x0B => some ⟨.u16, (.roles .rw .ro .rw), .v, [(80, 400)]⟩
  | 0x0C => some ⟨.u8, (.roles .rw .ro .rw), .v, [(0, 2)]⟩
  | 0x0D => some ⟨.u32, (.roles .rw .ro .rw), .v, [(0, 1073741823)]⟩
  | 0x0E => some ⟨.u8, (.roles .ro .ro .ro), .v, []⟩
  | 0x0F => some ⟨.u8, (.roles .ro .ro .ro), .v, []⟩
  | 0x10 => some ⟨.u64, (.roles .ro .ro .ro), .v, []⟩
  | 0x11 => some ⟨.u32, (.roles .ro .ro .ro), .v, []⟩
  | 0x12 => some ⟨.u32, (.roles .ro .ro .ro), .v, []⟩
  | 0x13 => some ⟨.octets 64, (.roles .ro .ro .ro), .v, []⟩
  | 0x20 => some ⟨.u8, (.roles .wo .none .wo), .v, [(1, 2)]⟩
  | _ => none

/-- The rows of Table 15.2 (0x4210, composition layer). -/
def rowsLay (sub : Nat) : Option ObjRow :=
  match sub with
  | 0x01 => some ⟨.u8, (.roles .rw .ro .rw), .v, [(0, 3)]⟩
  | 0x02 => some ⟨.u16, (.roles .rw .ro .rw), .v, [(0, 2047)]⟩
  | 0x03 => some ⟨.u16, (.roles .rw .ro .rw), .v, []⟩
  | 0x04 => some ⟨.u16, (.roles .rw .ro .rw), .v, []⟩
  | 0x05 => some ⟨.u16, (.roles .rw .ro .rw), .v, []⟩
  | 0x06 => some ⟨.u16, (.roles .rw .ro .rw), .v, []⟩
  | 0x07 => some ⟨.u16, (.roles .rw .ro .rw), .v, []⟩
  | 0x08 => some ⟨.u16, (.roles .rw .ro .rw), .v, []⟩
  | 0x09 => some ⟨.u16, (.roles .rw .ro .rw), .v, []⟩
  | 0x0A => some ⟨.u16, (.roles .rw .ro .rw), .v, []⟩
  | 0x0B => some ⟨.u16, (.roles .rw .ro .rw), .v, [(0, 1024)]⟩
  | 0x0C => some ⟨.u8, (.roles .rw .ro .rw), .v, [(0, 2)]⟩
  | 0x0D => some ⟨.bool, (.roles .rw .ro .rw), .v, []⟩
  | 0x0E => some ⟨.u8, (.roles .rw .ro .rw), .v, [(0, 1)]⟩
  | 0x0F => some ⟨.u32, (.roles .rw .ro .rw), .v, [(0, 1073741823)]⟩
  | 0x10 => some ⟨.u8, (.roles .ro .ro .ro), .v, []⟩
  | 0x11 => some ⟨.u8, (.roles .ro .ro .ro), .v, []⟩
  | 0x12 => some ⟨.u32, (.roles .ro .ro .ro), .v, []⟩
  | _ => none

/-- The rows of Table 15.9 (0x4220, compositor). -/
def rowsCmp (sub : Nat) : Option ObjRow :=
  match sub with
  | 0x01 => some ⟨.u8, (.roles .ro .ro .none), .m, []⟩
  | 0x02 => some ⟨.u8, (.roles .ro .ro .none), .m, []⟩
  | 0x03 => some ⟨.u16, (.roles .ro .ro .none), .v, []⟩
  | 0x04 => some ⟨.u8, (.roles .ro .ro .none), .v, []⟩
  | 0x05 => some ⟨.u8, (.roles .ro .ro .none), .v, []⟩
  | 0x06 => some ⟨.u64, (.roles .ro .ro .none), .v, []⟩
  | 0x07 => some ⟨.u8, (.roles .ro .ro .none), .v, []⟩
  | 0x08 => some ⟨.u8, (.roles .wo .none .none), .v, [(1, 2)]⟩
  | _ => none

/-- The rows of Table 15.7 (0x4300, Rosette). -/
def rowsRos (sub : Nat) : Option ObjRow :=
  match sub with
  | 0x01 => some ⟨.u8, (.roles .ro .rw .none), .v, [(0, 1)]⟩
  | 0x02 => some ⟨.bool, (.roles .ro .rw .none), .m, []⟩
  | 0x03 => some ⟨.u8, (.roles .none .wo .none), .v, [(1, 1)]⟩
  | 0x04 => some ⟨.u8, (.roles .ro .ro .none), .v, []⟩
  | 0x05 => some ⟨.time80, (.roles .ro .ro .none), .v, []⟩
  | 0x06 => some ⟨.u32, (.roles .ro .ro .none), .m, []⟩
  | 0x07 => some ⟨.u8, (.roles .ro .rw .none), .v, []⟩
  | 0x08 => some ⟨.u32, (.roles .ro .rw .none), .m, [(0, 1073741823)]⟩
  | 0x09 => some ⟨.u32, (.roles .ro .ro .none), .v, []⟩
  | 0x0A => some ⟨.u64, (.roles .ro .ro .none), .v, []⟩
  | _ => none

/-- The rows of Table 15.7 (0x4310, Rosette output). -/
def rowsRosOut (sub : Nat) : Option ObjRow :=
  match sub with
  | 0x01 => some ⟨.u8, (.roles .ro .rw .none), .v, []⟩
  | 0x02 => some ⟨.u8, (.roles .ro .rw .none), .v, []⟩
  | _ => none

/-- The rows of Table 15.7 (0x4320, Rosette store). -/
def rowsStore (sub : Nat) : Option ObjRow :=
  match sub with
  | 0x01 => some ⟨.u8, (.roles .ro .rw .none), .v, [(0, 3)]⟩
  | 0x02 => some ⟨.u8, (.roles .ro .rw .none), .v, [(16, 18)]⟩
  | 0x03 => some ⟨.u8, (.roles .ro .rw .none), .v, [(0, 3)]⟩
  | 0x04 => some ⟨.u16, (.roles .ro .rw .none), .v, []⟩
  | 0x05 => some ⟨.u16, (.roles .ro .rw .none), .v, []⟩
  | 0x06 => some ⟨.blob, (.roles .none .wo .none), .v, []⟩
  | 0x07 => some ⟨.u32, (.roles .ro .ro .none), .v, []⟩
  | 0x08 => some ⟨.u8, (.roles .none .wo .none), .v, [(1, 2)]⟩
  | 0x09 => some ⟨.bool, (.roles .ro .ro .none), .v, []⟩
  | 0x0A => some ⟨.u8, (.roles .ro .ro .none), .v, []⟩
  | 0x0B => some ⟨.u32, (.roles .ro .ro .none), .v, []⟩
  | _ => none

/-- The rows of Table 11.13 (0x5000, DSP core). -/
def rowsCore (sub : Nat) : Option ObjRow :=
  match sub with
  | 0x01 => some ⟨.u8, (.roles .ro .ro .none), .m, []⟩
  | 0x02 => some ⟨.u8, (.roles .ro .ro .none), .m, []⟩
  | 0x03 => some ⟨.time80, (.roles .ro .ro .none), .m, []⟩
  | 0x04 => some ⟨.u64, (.roles .ro .ro .none), .v, []⟩
  | 0x05 => some ⟨.u64, (.roles .ro .ro .none), .v, []⟩
  | 0x06 => some ⟨.u32, (.roles .ro .ro .none), .v, []⟩
  | 0x07 => some ⟨.u32, (.roles .ro .ro .none), .v, []⟩
  | 0x08 => some ⟨.u32, (.roles .ro .ro .none), .v, []⟩
  | 0x09 => some ⟨.u32, (.roles .ro .ro .none), .v, []⟩
  | 0x0A => some ⟨.u32, (.roles .ro .ro .none), .v, []⟩
  | 0x0B => some ⟨.u8, (.roles .wo .none .none), .v, [(1, 2)]⟩
  | _ => none

/-- The rows of Table 11.14 (0x5010, DSP cluster). -/
def rowsClu (sub : Nat) : Option ObjRow :=
  match sub with
  | 0x01 => some ⟨.u8, (.roles .ro .ro .none), .v, []⟩
  | 0x02 => some ⟨.u8, (.roles .ro .ro .none), .v, []⟩
  | 0x03 => some ⟨.u32, (.roles .ro .ro .none), .v, []⟩
  | 0x04 => some ⟨.u32, (.roles .ro .ro .none), .v, []⟩
  | 0x05 => some ⟨.u16, (.roles .ro .ro .none), .v, []⟩
  | _ => none

/-- The rows of Table 12.6 (0x5100, scheduler). -/
def rowsSch (sub : Nat) : Option ObjRow :=
  match sub with
  | 0x01 => some ⟨.u32, (.roles .ro .ro .none), .v, []⟩
  | 0x02 => some ⟨.u32, (.roles .ro .ro .none), .v, []⟩
  | 0x03 => some ⟨.octets 32, (.roles .ro .ro .none), .v, []⟩
  | 0x04 => some ⟨.u64, (.roles .ro .ro .none), .v, []⟩
  | 0x05 => some ⟨.u64, (.roles .ro .ro .none), .v, []⟩
  | 0x06 => some ⟨.u32, (.roles .ro .ro .none), .v, []⟩
  | 0x07 => some ⟨.u32, (.roles .ro .ro .none), .v, []⟩
  | 0x08 => some ⟨.u64, (.roles .ro .ro .none), .v, []⟩
  | 0x09 => some ⟨.u32, (.roles .ro .ro .none), .v, []⟩
  | 0x0A => some ⟨.u32, (.roles .ro .ro .none), .v, []⟩
  | _ => none

/-- The rows of Table 12.7 (0x5110, trace). -/
def rowsTrc (sub : Nat) : Option ObjRow :=
  match sub with
  | 0x01 => some ⟨.bool, (.roles .rw .none .none), .m, []⟩
  | 0x02 => some ⟨.u16, (.roles .rw .none .none), .m, [(1, 1), (2, 2), (4, 4), (8, 8), (16, 16), (32, 32), (64, 64), (128, 128), (256, 256), (512, 512), (1024, 1024)]⟩
  | 0x03 => some ⟨.u16, (.roles .rw .none .none), .m, [(0, 1022)]⟩
  | 0x04 => some ⟨.u8, (.roles .rw .none .none), .m, [(0, 1)]⟩
  | 0x05 => some ⟨.u64, (.roles .ro .none .none), .v, []⟩
  | 0x06 => some ⟨.u64, (.roles .rw .none .none), .v, []⟩
  | 0x07 => some ⟨.u64, (.roles .ro .none .none), .v, []⟩
  | 0x08 => some ⟨.u64, (.roles .ro .none .none), .v, []⟩
  | _ => none

/-- The rows of Table 16.5 (0x5200, HBM). -/
def rowsHbm (sub : Nat) : Option ObjRow :=
  match sub with
  | 0x01 => some ⟨.u32, (.roles .ro .ro .none), .v, []⟩
  | 0x02 => some ⟨.u8, (.roles .ro .ro .none), .v, []⟩
  | 0x03 => some ⟨.u64, (.roles .ro .ro .none), .m, []⟩
  | 0x04 => some ⟨.u64, (.roles .ro .ro .none), .v, []⟩
  | 0x05 => some ⟨.u32, (.roles .ro .ro .none), .v, []⟩
  | 0x06 => some ⟨.u32, (.roles .ro .ro .none), .v, []⟩
  | 0x07 => some ⟨.u8, (.roles .ro .ro .none), .v, []⟩
  | 0x08 => some ⟨.u16, (.roles .rw .ro .none), .m, [(512, 32768)]⟩
  | 0x09 => some ⟨.u8, (.roles .rw .ro .none), .m, [(1, 168)]⟩
  | 0x0A => some ⟨.u32, (.roles .rw .ro .none), .m, []⟩
  | 0x0B => some ⟨.u8, (.roles .rw .ro .none), .m, [(2, 32)]⟩
  | 0x0C => some ⟨.u16, (.roles .ro .ro .none), .v, []⟩
  | 0x0D => some ⟨.u16, (.roles .ro .ro .none), .v, []⟩
  | 0x0E => some ⟨.u32, (.roles .ro .ro .none), .v, []⟩
  | 0x0F => some ⟨.u8, (.roles .wo .none .none), .v, [(1, 1)]⟩
  | _ => none

/-- The rows of Table 16.6 (0x5210, pseudo-channel). -/
def rowsPc (sub : Nat) : Option ObjRow :=
  match sub with
  | 0x01 => some ⟨.u8, (.roles .ro .ro .none), .v, []⟩
  | 0x02 => some ⟨.u8, (.roles .ro .ro .none), .m, []⟩
  | 0x03 => some ⟨.u8, (.roles .ro .ro .none), .v, []⟩
  | 0x04 => some ⟨.u8, (.roles .ro .ro .none), .m, []⟩
  | 0x05 => some ⟨.u64, (.roles .ro .ro .none), .v, []⟩
  | 0x06 => some ⟨.u32, (.roles .ro .ro .none), .v, []⟩
  | 0x07 => some ⟨.u64, (.roles .ro .ro .none), .v, []⟩
  | 0x08 => some ⟨.u64, (.roles .ro .ro .none), .v, []⟩
  | 0x09 => some ⟨.u64, (.roles .ro .ro .none), .v, []⟩
  | 0x0A => some ⟨.u64, (.roles .ro .ro .none), .v, []⟩
  | 0x0B => some ⟨.u8, (.roles .ro .ro .none), .v, []⟩
  | 0x0C => some ⟨.u8, (.roles .ro .ro .none), .v, []⟩
  | 0x0D => some ⟨.u8, (.roles .wo .none .none), .v, [(1, 2)]⟩
  | _ => none

/-- The rows of Table 16.7 (0x5220, HBM stack). -/
def rowsStk (sub : Nat) : Option ObjRow :=
  match sub with
  | 0x01 => some ⟨.u8, (.roles .ro .ro .none), .v, []⟩
  | 0x02 => some ⟨.i8, (.roles .ro .ro .none), .v, []⟩
  | 0x03 => some ⟨.bool, (.roles .ro .ro .none), .v, []⟩
  | 0x04 => some ⟨.octets 16, (.roles .ro .ro .none), .v, []⟩
  | 0x05 => some ⟨.u16, (.roles .ro .ro .none), .v, []⟩
  | 0x06 => some ⟨.u16, (.roles .ro .ro .none), .v, []⟩
  | _ => none

/-- The rows of Table 16.8 (0x5230, training helper). -/
def rowsMar (sub : Nat) : Option ObjRow :=
  match sub with
  | 0x01 => some ⟨.u8, (.roles .rw .ro .none), .v, [(0, 63)]⟩
  | 0x02 => some ⟨.u8, (.roles .rw .ro .none), .v, [(0, 4)]⟩
  | 0x03 => some ⟨.octets 32, (.roles .rw .ro .none), .v, []⟩
  | 0x04 => some ⟨.u8, (.roles .wo .none .none), .v, [(1, 1)]⟩
  | 0x05 => some ⟨.u8, (.roles .ro .ro .none), .v, []⟩
  | 0x06 => some ⟨.octets 72, (.roles .ro .ro .none), .v, []⟩
  | _ => none

/-- The rows of Table 17.9 (0x5300, arbiter). -/
def rowsArb (sub : Nat) : Option ObjRow :=
  match sub with
  | 0x01 => some ⟨.u16, (.roles .rw .ro .none), .m, [(256, 65535)]⟩
  | _ => none

/-- The rows of Table 17.10 (0x5310, requester). -/
def rowsRqr (sub : Nat) : Option ObjRow :=
  match sub with
  | 0x01 => some ⟨.u8, (.roles .rw .ro .none), .m, [(0, 7)]⟩
  | 0x02 => some ⟨.u64, (.roles .ro .ro .none), .v, []⟩
  | _ => none

/-- The rows of Table 17.11 (0x5320, arbiter port). -/
def rowsAPort (sub : Nat) : Option ObjRow :=
  match sub with
  | 0x01 => some ⟨.bool, (.roles .rw .ro .none), .v, []⟩
  | 0x02 => some ⟨.u8, (.roles .ro .ro .none), .v, []⟩
  | 0x03 => some ⟨.u8, (.roles .ro .ro .none), .v, []⟩
  | 0x04 => some ⟨.u8, (.roles .ro .ro .none), .v, []⟩
  | 0x05 => some ⟨.u64, (.roles .ro .ro .none), .v, []⟩
  | _ => none

/-- The rows of Table 17.12 (0x5400, DMA channel). -/
def rowsDma (sub : Nat) : Option ObjRow :=
  match sub with
  | 0x01 => some ⟨.u8, (.roles .ro .ro .ro), .v, []⟩
  | 0x02 => some ⟨.u8, (.roles .ro .ro .ro), .v, []⟩
  | 0x03 => some ⟨.bool, (.roles .rw .rw .rw), .v, []⟩
  | 0x04 => some ⟨.u64, (.roles .rw .rw .rw), .v, []⟩
  | 0x05 => some ⟨.u8, (.roles .wo .wo .wo), .v, [(1, 3)]⟩
  | 0x06 => some ⟨.u64, (.roles .ro .ro .ro), .v, []⟩
  | 0x07 => some ⟨.u64, (.roles .ro .ro .ro), .v, []⟩
  | 0x08 => some ⟨.u8, (.roles .ro .ro .ro), .v, []⟩
  | 0x09 => some ⟨.u32, (.roles .ro .ro .ro), .v, []⟩
  | 0x0A => some ⟨.u32, (.roles .ro .ro .ro), .v, []⟩
  | 0x0B => some ⟨.u64, (.roles .ro .ro .ro), .v, []⟩
  | _ => none

/-- The dictionary: the row of (index, subindex), none where no map lists it (R390). -/
def objRow (ix sub : Nat) : Option ObjRow :=
  match ix with
  | 0x1000 => rowsIdent sub
  | 0x1100 => rowsXar sub
  | 0x1110 => rowsMg sub
  | 0x1120 => rowsSlot sub
  | 0x1200 => rowsPwr sub
  | 0x1300 => rowsCal sub
  | 0x1310 => rowsLane sub
  | 0x1400 => rowsLife sub
  | 0x1800 => rowsSvc sub
  | 0x2000 => rowsMp sub
  | 0x2010 => rowsLp sub
  | 0x2020 => rowsLegIn sub
  | 0x2030 => rowsPuntRule sub
  | 0x2040 => rowsPunt sub
  | 0x2100 => rowsMeter sub
  | 0x2200 => rowsLeg sub
  | 0x2230 => rowsLegFb sub
  | 0x2280 => rowsPart sub
  | 0x2290 => rowsCap sub
  | 0x2300 => rowsConf sub
  | 0x2400 => rowsSrc sub
  | 0x2410 => rowsLayer sub
  | 0x2420 => rowsSrcFwd sub
  | 0x2500 => rowsSub sub
  | 0x2520 => rowsSubFwd sub
  | 0x2570 => rowsSplice sub
  | 0x2580 => rowsMos sub
  | 0x2590 => rowsMosPos sub
  | 0x2600 => rowsEgr sub
  | 0x2610 => rowsLegGrp sub
  | 0x2620 => rowsShp sub
  | 0x2630 => rowsLine sub
  | 0x2700 => rowsFret sub
  | 0x2710 => rowsFLeg sub
  | 0x2800 => rowsCtx sub
  | 0x2810 => rowsKek sub
  | 0x2820 => rowsSKek sub
  | 0x2830 => rowsAlarm sub
  | 0x3000 => rowsClk sub
  | 0x3010 => rowsPtp sub
  | 0x3020 => rowsTsCor sub
  | 0x3030 => rowsRef sub
  | 0x3040 => rowsTout sub
  | 0x3050 => rowsTin sub
  | 0x3070 => rowsFSlot sub
  | 0x3100 => rowsACfg sub
  | 0x3110 => rowsMix sub
  | 0x3120 => rowsGraph sub
  | 0x3130 => rowsLat sub
  | 0x3150 => rowsLegMix sub
  | 0x3200 => rowsSap sub
  | 0x3210 => rowsSlotOwn sub
  | 0x3230 => rowsAClk sub
  | 0x3240 => rowsAesi sub
  | 0x3250 => rowsAeso sub
  | 0x3300 => rowsAsrc sub
  | 0x4000 => rowsDec sub
  | 0x4010 => rowsVd sub
  | 0x4100 => rowsEnc sub
  | 0x4110 => rowsVe sub
  | 0x4200 => rowsOutp sub
  | 0x4210 => rowsLay sub
  | 0x4220 => rowsCmp sub
  | 0x4300 => rowsRos sub
  | 0x4310 => rowsRosOut sub
  | 0x4320 => rowsStore sub
  | 0x5000 => rowsCore sub
  | 0x5010 => rowsClu sub
  | 0x5100 => rowsSch sub
  | 0x5110 => rowsTrc sub
  | 0x5200 => rowsHbm sub
  | 0x5210 => rowsPc sub
  | 0x5220 => rowsStk sub
  | 0x5230 => rowsMar sub
  | 0x5300 => rowsArb sub
  | 0x5310 => rowsRqr sub
  | 0x5320 => rowsAPort sub
  | 0x5400 => rowsDma sub
  | _ => none

/-- How many elements each index has (the range given in its map's caption); a scalar object has one. -/
def elementCount (ix : Nat) : Nat :=
  match ix with
  | 0x1000 => 1
  | 0x1100 => 1
  | 0x1110 => 2
  | 0x1120 => 8
  | 0x1200 => 1
  | 0x1300 => 1
  | 0x1310 => 20
  | 0x1400 => 1
  | 0x1800 => 1
  | 0x2000 => 4
  | 0x2010 => 16
  | 0x2020 => 131072
  | 0x2030 => 16
  | 0x2040 => 8
  | 0x2100 => 262144
  | 0x2200 => 131072
  | 0x2230 => 131072
  | 0x2280 => 8
  | 0x2290 => 1
  | 0x2300 => 8192
  | 0x2400 => 262144
  | 0x2410 => 4194304
  | 0x2420 => 262144
  | 0x2500 => 5242880
  | 0x2520 => 5242880
  | 0x2570 => 255
  | 0x2580 => 8192
  | 0x2590 => 524288
  | 0x2600 => 16
  | 0x2610 => 4096
  | 0x2620 => 131072
  | 0x2630 => 131072
  | 0x2700 => 2
  | 0x2710 => 131072
  | 0x2800 => 262144
  | 0x2810 => 16
  | 0x2820 => 8
  | 0x2830 => 1
  | 0x3000 => 1
  | 0x3010 => 20
  | 0x3020 => 20
  | 0x3030 => 1
  | 0x3040 => 8
  | 0x3050 => 4
  | 0x3070 => 2
  | 0x3100 => 256
  | 0x3110 => 8192
  | 0x3120 => 1024
  | 0x3130 => 262144
  | 0x3150 => 131072
  | 0x3200 => 16
  | 0x3210 => 768
  | 0x3230 => 4
  | 0x3240 => 8
  | 0x3250 => 8
  | 0x3300 => 24
  | 0x4000 => 2048
  | 0x4010 => 16
  | 0x4100 => 2048
  | 0x4110 => 16
  | 0x4200 => 16
  | 0x4210 => 512
  | 0x4220 => 8
  | 0x4300 => 1
  | 0x4310 => 16
  | 0x4320 => 256
  | 0x5000 => 128
  | 0x5010 => 8
  | 0x5100 => 1
  | 0x5110 => 1
  | 0x5200 => 1
  | 0x5210 => 64
  | 0x5220 => 2
  | 0x5230 => 1
  | 0x5300 => 1
  | 0x5310 => 24
  | 0x5320 => 64
  | 0x5400 => 64
  | _ => 0

/-- The non-zero Defaults of Table 18.10b (0x1000, identity and life-cycle). -/
def dfltIdent (sub _el : Nat) : Nat :=
  match sub with
  | 0x01 => 0x7265736c656d6154
  | _ => 0

/-- The non-zero Defaults of Table 18.11 (0x1100, Xaras). -/
def dfltXar (sub _el : Nat) : Nat :=
  match sub with
  | 0x01 => 47808
  | 0x02 => 5000
  | _ => 0

/-- The non-zero Defaults of Table 18.11 (0x1110, management port). -/
def dfltMg (sub el : Nat) : Nat :=
  match sub with
  | 0x01 => if el = 0 then 1 else 0
  | 0x02 => if el = 0 then 0x0A00FEA9 else 0
  | 0x03 => 16
  | 0x05 => 64
  | 0x07 => 65535
  | _ => 0

/-- The non-zero Defaults of Table 18.12 (0x1120, host slot). -/
def dfltSlot (sub el : Nat) : Nat :=
  match sub with
  | 0x01 => if el = 0 then 0 else if el = 1 then 1 else 2
  | 0x02 => 3
  | _ => 0

/-- The non-zero Defaults of Table 18.13 (0x1200, power and supply). -/
def dfltPwr (sub _el : Nat) : Nat :=
  match sub with
  | 0x04 => 7
  | 0x09 => 705
  | 0x0A => 675
  | _ => 0

/-- The non-zero Defaults of Table 18.14 (0x1300, calibration). -/
def dfltCal (sub _el : Nat) : Nat :=
  match sub with
  | 0x03 => 100
  | 0x04 => 110
  | _ => 0

/-- The non-zero Defaults of Table 18.14 (0x1310, lane override). -/
def dfltLane (sub _el : Nat) : Nat :=
  match sub with
  | 0x03 => 20
  | _ => 0

/-- The non-zero Defaults of Table 18.16 (0x1800, unit status). -/
def dfltSvc (sub _el : Nat) : Nat :=
  match sub with
  | 0x02 => 128
  | 0x03 => 16
  | 0x04 => 16
  | 0x05 => 8
  | 0x06 => 64
  | _ => 0

/-- The non-zero Defaults of Table 4.2 (0x2000, physical media port). -/
def dfltMp (sub _el : Nat) : Nat :=
  match sub with
  | 0x03 => 1
  | _ => 0

/-- The non-zero Defaults of Table 4.3 (0x2010, logical port). -/
def dfltLp (sub _el : Nat) : Nat :=
  match sub with
  | 0x03 => 9216
  | 0x04 => 512
  | 0x10 => 1000
  | _ => 0

/-- The non-zero Defaults of Table 4.6 (0x2020, leg ingress). -/
def dfltLegIn (sub _el : Nat) : Nat :=
  match sub with
  | 0x04 => 128
  | _ => 0

/-- The non-zero Defaults of Table 4.9 (0x2040, punt delivery). -/
def dfltPunt (sub _el : Nat) : Nat :=
  match sub with
  | 0x02 => 100000
  | _ => 0

/-- The non-zero Defaults of Table 4.7 (0x2100, meter). -/
def dfltMeter (sub _el : Nat) : Nat :=
  match sub with
  | 0x03 => 2000
  | 0x04 => 16384
  | 0x05 => 4000
  | 0x06 => 32768
  | _ => 0

/-- The non-zero Defaults of Table 2.1 (0x2200, leg). -/
def dfltLeg (sub _el : Nat) : Nat :=
  match sub with
  | 0x0A => 65535
  | 0x0B => 65535
  | 0x0C => 65535
  | 0x0D => 11
  | _ => 0

/-- The non-zero Defaults of Table 5.6 (0x2230, leg feedback). -/
def dfltLegFb (sub _el : Nat) : Nat :=
  match sub with
  | 0x01 => 1000
  | 0x02 => 1024
  | 0x03 => 1000
  | 0x04 => 20
  | 0x05 => 1
  | _ => 0

/-- The non-zero Defaults of Table 2.9 (0x2290, device capacity). -/
def dfltCap (sub _el : Nat) : Nat :=
  match sub with
  | 0x01 => 2059520
  | 0x03 => 7962624
  | 0x05 => 7962624
  | 0x07 => 16
  | _ => 0

/-- The non-zero Defaults of Table 2.4 (0x2300, conference). -/
def dfltConf (sub _el : Nat) : Nat :=
  match sub with
  | 0x03 => 8
  | 0x04 => 16
  | 0x05 => 131072
  | _ => 0

/-- The non-zero Defaults of Table 2.5 (0x2400, source). -/
def dfltSrc (sub _el : Nat) : Nat :=
  match sub with
  | 0x03 => 4294967295
  | 0x09 => 255
  | _ => 0

/-- The non-zero Defaults of Table 5.4 (0x2420, source forwarding). -/
def dfltSrcFwd (sub _el : Nat) : Nat :=
  match sub with
  | 0x02 => 500
  | 0x03 => 255
  | _ => 0

/-- The non-zero Defaults of Table 2.7 (0x2500, subscription). -/
def dfltSub (sub _el : Nat) : Nat :=
  match sub with
  | 0x04 => 11
  | 0x05 => 255
  | 0x06 => 1
  | _ => 0

/-- The non-zero Defaults of Table 5.5 (0x2520, subscription forwarding). -/
def dfltSubFwd (sub _el : Nat) : Nat :=
  match sub with
  | 0x06 => 255
  | _ => 0

/-- The non-zero Defaults of Table 5.9 (0x2570, splice group). -/
def dfltSplice (sub _el : Nat) : Nat :=
  match sub with
  | 0x03 => 16
  | 0x04 => 8
  | 0x05 => 30
  | 0x06 => 1
  | 0x07 => 448
  | 0x08 => 256
  | 0x09 => 16
  | 0x0B => 67633664
  | _ => 0

/-- The non-zero Defaults of Table 5.10 (0x2580, mosaic). -/
def dfltMos (sub _el : Nat) : Nat :=
  match sub with
  | 0x03 => 255
  | 0x04 => 4
  | 0x05 => 4
  | 0x06 => 4294967295
  | 0x07 => 1
  | _ => 0

/-- The non-zero Defaults of Table 5.11 (0x2590, mosaic position). -/
def dfltMosPos (sub _el : Nat) : Nat :=
  match sub with
  | 0x01 => 4294967295
  | _ => 0

/-- The non-zero Defaults of Table 7.2 (0x2600, port egress). -/
def dfltEgr (sub _el : Nat) : Nat :=
  match sub with
  | 0x01 => 4194304
  | 0x02 => 60
  | 0x03 => 75
  | 0x04 => 90
  | 0x06 => 80
  | 0x07 => 64
  | 0x08 => 3
  | _ => 0

/-- The non-zero Defaults of Table 7.3 (0x2610, leg group). -/
def dfltLegGrp (sub _el : Nat) : Nat :=
  match sub with
  | 0x04 => 1000000
  | 0x05 => 1048576
  | _ => 0

/-- The non-zero Defaults of Table 7.4 (0x2620, leg egress). -/
def dfltShp (sub _el : Nat) : Nat :=
  match sub with
  | 0x01 => 65535
  | 0x02 => 10000
  | 0x03 => 32768
  | 0x06 => 262144
  | 0x07 => 46
  | 0x08 => 38
  | 0x09 => 34
  | 0x0A => 36
  | 0x0B => 255
  | _ => 0

/-- The non-zero Defaults of Table 7.5 (0x2630, leg line). -/
def dfltLine (sub _el : Nat) : Nat :=
  match sub with
  | 0x01 => 1
  | 0x02 => 2000
  | 0x03 => 100
  | 0x04 => 100000
  | 0x05 => 2
  | 0x06 => 10
  | 0x07 => 5
  | 0x08 => 2000
  | 0x0B => 4294967295
  | _ => 0

/-- The non-zero Defaults of Table 6.1 (0x2700, Fret port). -/
def dfltFret (sub _el : Nat) : Nat :=
  match sub with
  | 0x02 => 34998
  | 0x06 => 65535
  | 0x08 => 60
  | 0x09 => 100
  | 0x0A => 150
  | 0x0B => 10000
  | 0x0C => 1048576
  | 0x0D => 1
  | 0x0F => 100
  | 0x10 => 80
  | 0x11 => 64
  | 0x12 => 3
  | 0x13 => 1000
  | 0x14 => 1000
  | 0x15 => 30
  | _ => 0

/-- The non-zero Defaults of Table 8.2 (0x2800, crypto context). -/
def dfltCtx (sub el : Nat) : Nat :=
  match sub with
  | 0x04 => 255
  | 0x07 => if el % 2 = 0 then 1000 else 0
  | _ => 0

/-- The non-zero Defaults of Table 8.3 (0x2810, KEK). -/
def dfltKek (sub _el : Nat) : Nat :=
  match sub with
  | 0x02 => 32
  | _ => 0

/-- The non-zero Defaults of Table 8.4 (0x2820, session KEK). -/
def dfltSKek (sub _el : Nat) : Nat :=
  match sub with
  | 0x01 => 255
  | _ => 0

/-- The non-zero Defaults of Table 3.1 (0x3000, local clock). -/
def dfltClk (sub _el : Nat) : Nat :=
  match sub with
  | 0x07 => 37
  | 0x09 => 100
  | 0x0A => 1000000
  | 0x0B => 100000
  | _ => 0

/-- The non-zero Defaults of Table 3.5 (0x3010, PTP port). -/
def dfltPtp (sub _el : Nat) : Nat :=
  match sub with
  | 0x02 => 1
  | 0x03 => 24
  | 0x04 => 65535
  | 0x05 => 128
  | 0x08 => 252
  | 0x09 => 252
  | 0x0A => 3
  | _ => 0

/-- The non-zero Defaults of Table 3.8 (0x3030, reference and SyncE). -/
def dfltRef (sub _el : Nat) : Nat :=
  match sub with
  | 0x01 => 255
  | 0x02 => 255
  | 0x03 => 3
  | _ => 0

/-- The non-zero Defaults of Table 3.9 (0x3040, time output). -/
def dfltTout (sub _el : Nat) : Nat :=
  match sub with
  | 0x03 => 65536000000
  | 0x04 => 100000
  | _ => 0

/-- The non-zero Defaults of Table 3.10 (0x3050, time capture). -/
def dfltTin (sub _el : Nat) : Nat :=
  match sub with
  | 0x07 => 10
  | _ => 0

/-- The non-zero Defaults of Table 3.13 (0x3070, slot clock). -/
def dfltFSlot (sub _el : Nat) : Nat :=
  match sub with
  | 0x01 => 1
  | _ => 0

/-- The non-zero Defaults of Table 9.2 (0x3100, codec configuration). -/
def dfltACfg (sub _el : Nat) : Nat :=
  match sub with
  | 0x02 => 2
  | 0x03 => 32000
  | 0x04 => 20
  | 0x05 => 5
  | 0x06 => 1
  | 0x08 => 111
  | 0x09 => 255
  | 0x0A => 150
  | _ => 0

/-- The non-zero Defaults of Table 9.3 (0x3110, conference audio). -/
def dfltMix (sub _el : Nat) : Nat :=
  match sub with
  | 0x01 => 2
  | 0x02 => 50
  | 0x03 => 6
  | 0x04 => 500
  | 0x05 => 206
  | 0x06 => 196
  | 0x07 => 2000
  | 0x08 => 40
  | 0x09 => 1
  | 0x0A => 0xFFFFFFFFFFFFFFFFFFFFFFFFFFFFFFFFFFFFFFFFFFFFFFFFFFFFFFFFFFFFFFFFFFFFFFFFFFFFFFFFFFFFFFFFFFFFFFFFFFFFFFFFFFFFFFFFFFFFFFFFFFFFFFFF
  | _ => 0

/-- The non-zero Defaults of Table 10.8 (0x3200, serial audio port). -/
def dfltSap (sub _el : Nat) : Nat :=
  match sub with
  | 0x02 => 2
  | 0x04 => 1
  | 0x05 => 8
  | 0x06 => 32
  | 0x07 => 24
  | 0x08 => 1
  | 0x09 => 1
  | 0x0A => 64
  | 0x0B => 64
  | _ => 0

/-- The non-zero Defaults of Table 10.10 (0x3230, clock output). -/
def dfltAClk (sub _el : Nat) : Nat :=
  match sub with
  | 0x02 => 1
  | _ => 0

/-- The non-zero Defaults of Table 10.12 (0x3250, AES3 output). -/
def dfltAeso (sub _el : Nat) : Nat :=
  match sub with
  | 0x02 => 1
  | 0x03 => 64
  | 0x04 => 64
  | 0x06 => 1
  | 0x07 => 1
  | 0x08 => 1
  | _ => 0

/-- The non-zero Defaults of Table 13.5 (0x4000, decode session). -/
def dfltDec (sub _el : Nat) : Nat :=
  match sub with
  | 0x03 => 4294967295
  | 0x04 => 11
  | 0x05 => 1920
  | 0x06 => 1080
  | 0x07 => 3000
  | 0x09 => 3
  | 0x0A => 40
  | 0x0B => 1000
  | _ => 0

/-- The non-zero Defaults of Table 14.6 (0x4100, encode session). -/
def dfltEnc (sub _el : Nat) : Nat :=
  match sub with
  | 0x03 => 4294967295
  | 0x06 => 8
  | 0x07 => 1920
  | 0x08 => 1080
  | 0x09 => 30
  | 0x0A => 1
  | 0x0B => 1
  | 0x0C => 1
  | 0x0E => 32
  | 0x0F => 64
  | 0x10 => 255
  | 0x11 => 1000
  | 0x14 => 10
  | 0x15 => 45
  | _ => 0

/-- The non-zero Defaults of Table 15.1 (0x4200, composition output). -/
def dfltOutp (sub _el : Nat) : Nat :=
  match sub with
  | 0x03 => 1920
  | 0x04 => 1080
  | 0x05 => 30
  | 0x06 => 1
  | 0x07 => 8
  | 0x0A => 1000
  | 0x0B => 203
  | 0x0D => 67633664
  | _ => 0

/-- The non-zero Defaults of Table 15.2 (0x4210, composition layer). -/
def dfltLay (sub _el : Nat) : Nat :=
  match sub with
  | 0x0B => 1024
  | 0x0E => 1
  | 0x0F => 67633664
  | _ => 0

/-- The non-zero Defaults of Table 15.7 (0x4300, Rosette). -/
def dfltRos (sub _el : Nat) : Nat :=
  match sub with
  | 0x07 => 255
  | 0x08 => 262563776
  | _ => 0

/-- The non-zero Defaults of Table 15.7 (0x4310, Rosette output). -/
def dfltRosOut (sub _el : Nat) : Nat :=
  match sub with
  | 0x01 => 255
  | 0x02 => 255
  | _ => 0

/-- The non-zero Defaults of Table 15.7 (0x4320, Rosette store). -/
def dfltStore (sub _el : Nat) : Nat :=
  match sub with
  | 0x02 => 16
  | _ => 0

/-- The non-zero Defaults of Table 11.14 (0x5010, DSP cluster). -/
def dfltClu (sub _el : Nat) : Nat :=
  match sub with
  | 0x02 => 16
  | _ => 0

/-- The non-zero Defaults of Table 12.7 (0x5110, trace). -/
def dfltTrc (sub _el : Nat) : Nat :=
  match sub with
  | 0x01 => 1
  | 0x02 => 64
  | 0x03 => 1022
  | _ => 0

/-- The non-zero Defaults of Table 16.5 (0x5200, HBM). -/
def dfltHbm (sub _el : Nat) : Nat :=
  match sub with
  | 0x01 => 49152
  | 0x02 => 64
  | 0x05 => 45056
  | 0x06 => 45056
  | 0x07 => 100
  | 0x08 => 4096
  | 0x09 => 24
  | 0x0A => 100
  | 0x0B => 8
  | _ => 0

/-- The non-zero Defaults of Table 16.8 (0x5230, training helper). -/
def dfltMar (sub _el : Nat) : Nat :=
  match sub with
  | 0x02 => 1
  | _ => 0

/-- The non-zero Defaults of Table 17.9 (0x5300, arbiter). -/
def dfltArb (sub _el : Nat) : Nat :=
  match sub with
  | 0x01 => 4096
  | _ => 0

/-- The non-zero Defaults of Table 17.10 (0x5310, requester). -/
def dfltRqr (sub el : Nat) : Nat :=
  match sub with
  | 0x01 => requesterPrio el
  | _ => 0

/-- The non-zero Defaults of Table 17.12 (0x5400, DMA channel). -/
def dfltDma (sub _el : Nat) : Nat :=
  match sub with
  | 0x02 => 255
  | _ => 0

/-- The Default column of an object map, as the value's number (R12; the model's choices for "kept", "factory",
"random" and "device-picked" are in the assumption log). -/
def dflt (col el : Nat) : Nat :=
  match col / 256 with
  | 0x1000 => dfltIdent (col % 256) el
  | 0x1100 => dfltXar (col % 256) el
  | 0x1110 => dfltMg (col % 256) el
  | 0x1120 => dfltSlot (col % 256) el
  | 0x1200 => dfltPwr (col % 256) el
  | 0x1300 => dfltCal (col % 256) el
  | 0x1310 => dfltLane (col % 256) el
  | 0x1800 => dfltSvc (col % 256) el
  | 0x2000 => dfltMp (col % 256) el
  | 0x2010 => dfltLp (col % 256) el
  | 0x2020 => dfltLegIn (col % 256) el
  | 0x2040 => dfltPunt (col % 256) el
  | 0x2100 => dfltMeter (col % 256) el
  | 0x2200 => dfltLeg (col % 256) el
  | 0x2230 => dfltLegFb (col % 256) el
  | 0x2290 => dfltCap (col % 256) el
  | 0x2300 => dfltConf (col % 256) el
  | 0x2400 => dfltSrc (col % 256) el
  | 0x2420 => dfltSrcFwd (col % 256) el
  | 0x2500 => dfltSub (col % 256) el
  | 0x2520 => dfltSubFwd (col % 256) el
  | 0x2570 => dfltSplice (col % 256) el
  | 0x2580 => dfltMos (col % 256) el
  | 0x2590 => dfltMosPos (col % 256) el
  | 0x2600 => dfltEgr (col % 256) el
  | 0x2610 => dfltLegGrp (col % 256) el
  | 0x2620 => dfltShp (col % 256) el
  | 0x2630 => dfltLine (col % 256) el
  | 0x2700 => dfltFret (col % 256) el
  | 0x2800 => dfltCtx (col % 256) el
  | 0x2810 => dfltKek (col % 256) el
  | 0x2820 => dfltSKek (col % 256) el
  | 0x3000 => dfltClk (col % 256) el
  | 0x3010 => dfltPtp (col % 256) el
  | 0x3030 => dfltRef (col % 256) el
  | 0x3040 => dfltTout (col % 256) el
  | 0x3050 => dfltTin (col % 256) el
  | 0x3070 => dfltFSlot (col % 256) el
  | 0x3100 => dfltACfg (col % 256) el
  | 0x3110 => dfltMix (col % 256) el
  | 0x3200 => dfltSap (col % 256) el
  | 0x3230 => dfltAClk (col % 256) el
  | 0x3250 => dfltAeso (col % 256) el
  | 0x4000 => dfltDec (col % 256) el
  | 0x4100 => dfltEnc (col % 256) el
  | 0x4200 => dfltOutp (col % 256) el
  | 0x4210 => dfltLay (col % 256) el
  | 0x4300 => dfltRos (col % 256) el
  | 0x4310 => dfltRosOut (col % 256) el
  | 0x4320 => dfltStore (col % 256) el
  | 0x5010 => dfltClu (col % 256) el
  | 0x5110 => dfltTrc (col % 256) el
  | 0x5200 => dfltHbm (col % 256) el
  | 0x5230 => dfltMar (col % 256) el
  | 0x5300 => dfltArb (col % 256) el
  | 0x5310 => dfltRqr (col % 256) el
  | 0x5400 => dfltDma (col % 256) el
  | _ => 0

end Sys2Proof.Machine
end

