-- ==== Sys2Proof/Machine/Flags.lean ====
section
/-! DEFINITION. The event catalogue (R454, Table 20.6): the code and severity of every event. -/

namespace Sys2Proof.Machine

/-- Event DEVICE_RESET (INFO or ERROR by Table 19.8); unit: 0; arguments: [0] RESET_CAUSE. -/
abbrev Ev.DEVICE_RESET : Nat := 0x0101
/-- Event SUPPLY_WARN (WARN); unit: 0; arguments: [0] supply, in the row order of Table 19.7 from 0. -/
abbrev Ev.SUPPLY_WARN : Nat := 0x0102
/-- Event SUPPLY_RECOVERED (INFO); unit: 0; arguments: [0] supply; [4] duration µs U32; [8] minimum mV U16. -/
abbrev Ev.SUPPLY_RECOVERED : Nat := 0x0103
/-- Event STANDBY_WAKE (INFO); unit: 0; arguments: [0] 0 time, 1 TIN0, 2 MG0, 3 SAFETY_N. -/
abbrev Ev.STANDBY_WAKE : Nat := 0x0104
/-- Event BOOT_FALLBACK (ERROR); unit: 0; arguments: [0] slot marked bad, 0 A, 1 B. -/
abbrev Ev.BOOT_FALLBACK : Nat := 0x0105
/-- Event LC_TRANSITION (INFO); unit: 0; arguments: [0] from; [1] to. -/
abbrev Ev.LC_TRANSITION : Nat := 0x0106
/-- Event FACT_CAL_BAD (ERROR); unit: 0; arguments: —. -/
abbrev Ev.FACT_CAL_BAD : Nat := 0x0107
/-- Event THERM_WARN (WARN); unit: sensor; arguments: [0] Tj I8. -/
abbrev Ev.THERM_WARN : Nat := 0x0108
/-- Event THERM_LIMIT (ERROR); unit: sensor; arguments: [0] Tj I8. -/
abbrev Ev.THERM_LIMIT : Nat := 0x0109
/-- Event MRAM_WEAR_WARN (WARN); unit: 0; arguments: [0] MRAM_WEAR U16. -/
abbrev Ev.MRAM_WEAR_WARN : Nat := 0x010A
/-- Event MRAM_BUDGET (WARN); unit: slot; arguments: —. -/
abbrev Ev.MRAM_BUDGET : Nat := 0x010B
/-- Event PARITY_ERROR (ERROR); unit: R446; arguments: [0] memory 1–8. -/
abbrev Ev.PARITY_ERROR : Nat := 0x010C
/-- Event MRAM_UE (ERROR); unit: 0; arguments: [0] region, in the row order of Table 19.13 from 0; [4] word offset U32. -/
abbrev Ev.MRAM_UE : Nat := 0x010D
/-- Event XARAS_SESSION_OPEN (INFO); unit: slot; arguments: [0] port 0–1. -/
abbrev Ev.XARAS_SESSION_OPEN : Nat := 0x0201
/-- Event XARAS_TXN_APPLIED (INFO); unit: slot; arguments: [0] REQ_ID; [4] status; [6] failed operation index U16; time is the actual time. -/
abbrev Ev.XARAS_TXN_APPLIED : Nat := 0x0202
/-- Event SESSION_REKEY_WARN (WARN); unit: slot; arguments: —. -/
abbrev Ev.SESSION_REKEY_WARN : Nat := 0x0203
/-- Event LOCKED (INFO); unit: port p; arguments: —. -/
abbrev Ev.LOCKED : Nat := 0x0301
/-- Event ACQUIRED (WARN); unit: port p; arguments: [0] offset I64 in 2^-16 ns, saturated at the I64 limits; [8] offset I32 in whole seconds, rounded toward zero and saturated (R62). -/
abbrev Ev.ACQUIRED : Nat := 0x0302
/-- Event HOLDOVER (WARN); unit: port p; arguments: —. -/
abbrev Ev.HOLDOVER : Nat := 0x0303
/-- Event STEP (WARN); unit: 0; arguments: [0] step I64 in 2^-16 ns, saturated at the I64 limits; [8] step I32 in whole seconds, rounded toward zero and saturated (R62). -/
abbrev Ev.STEP : Nat := 0x0304
/-- Event LINK_UP (INFO); unit: port p; arguments: —. -/
abbrev Ev.LINK_UP : Nat := 0x0401
/-- Event LINK_DOWN (WARN); unit: port p; arguments: —. -/
abbrev Ev.LINK_DOWN : Nat := 0x0402
/-- Event FIFO_UE (ERROR); unit: port p; arguments: —. -/
abbrev Ev.FIFO_UE : Nat := 0x0403
/-- Event FIFO_CE_RATE (WARN); unit: port p; arguments: [0] words in the second U32. -/
abbrev Ev.FIFO_CE_RATE : Nat := 0x0404
/-- Event PUNT_OVERFLOW (WARN); unit: slot; arguments: —. -/
abbrev Ev.PUNT_OVERFLOW : Nat := 0x0405
/-- Event LEG_CLOSED (INFO); unit: 0; arguments: [0] leg U32. -/
abbrev Ev.LEG_CLOSED : Nat := 0x0501
/-- Event SOURCE_BYE (INFO); unit: 0; arguments: [0] source U32. -/
abbrev Ev.SOURCE_BYE : Nat := 0x0502
/-- Event FRET_PEER_UP (INFO); unit: f; arguments: —. -/
abbrev Ev.FRET_PEER_UP : Nat := 0x0601
/-- Event FRET_PEER_LOST (WARN); unit: f; arguments: —. -/
abbrev Ev.FRET_PEER_LOST : Nat := 0x0602
/-- Event FRET_SLOT_MISMATCH (WARN); unit: f; arguments: [0] difference I32 ns. -/
abbrev Ev.FRET_SLOT_MISMATCH : Nat := 0x0603
/-- Event FRET_REMAP (INFO); unit: f; arguments: [0] leg U32; [4] new port. -/
abbrev Ev.FRET_REMAP : Nat := 0x0604
/-- Event FRET_RELEASED (INFO); unit: f; arguments: [0] leg U32. -/
abbrev Ev.FRET_RELEASED : Nat := 0x0605
/-- Event SEC_ALARM (ERROR); unit: 0; arguments: [0] CAUSE. -/
abbrev Ev.SEC_ALARM : Nat := 0x0701
/-- Event CTX_INTEGRITY (ERROR); unit: 0; arguments: [0] context U32. -/
abbrev Ev.CTX_INTEGRITY : Nat := 0x0702
/-- Event SRTP_REKEY_WARN (WARN); unit: 0; arguments: [0] context U32; [4] SSRC; [8] 0 SRTP, 1 SRTCP. -/
abbrev Ev.SRTP_REKEY_WARN : Nat := 0x0703
/-- Event SRTP_EXHAUSTED (ERROR); unit: 0; arguments: as SRTP_REKEY_WARN; [9] E_EXHAUSTED. -/
abbrev Ev.SRTP_EXHAUSTED : Nat := 0x0704
/-- Event GRAPH_COMPILED (INFO); unit: graph g; arguments: [0] CYCLES U32. -/
abbrev Ev.GRAPH_COMPILED : Nat := 0x0801
/-- Event GRAPH_FAILED (WARN); unit: graph g; arguments: [0] ERROR U16; [2] ERR_NODE U16. -/
abbrev Ev.GRAPH_FAILED : Nat := 0x0802
/-- Event CUSTOM_FAULT (WARN); unit: graph g; arguments: [0] node index; [1] fault, coded as for DSP_FAULT. -/
abbrev Ev.CUSTOM_FAULT : Nat := 0x0803
/-- Event AUD_CLOCK_LOST (WARN); unit: port q; arguments: —. -/
abbrev Ev.AUD_CLOCK_LOST : Nat := 0x0901
/-- Event AUD_CLOCK_RESTORED (INFO); unit: port q; arguments: [0] duration ms U32. -/
abbrev Ev.AUD_CLOCK_RESTORED : Nat := 0x0902
/-- Event AUD_FS_ERR (WARN); unit: port q; arguments: —. -/
abbrev Ev.AUD_FS_ERR : Nat := 0x0903
/-- Event AUD_ASRC_LOCKED (INFO); unit: port q; arguments: [0] RATIO U32. -/
abbrev Ev.AUD_ASRC_LOCKED : Nat := 0x0904
/-- Event AUD_ASRC_RELOCK (WARN); unit: port q; arguments: [0] new RATIO U32; [4] 1 muted. -/
abbrev Ev.AUD_ASRC_RELOCK : Nat := 0x0905
/-- Event AUD_RATE_RANGE (WARN); unit: port q; arguments: [0] measured RATIO U32. -/
abbrev Ev.AUD_RATE_RANGE : Nat := 0x0906
/-- Event AES_CS_CHANGED (INFO); unit: input a; arguments: [0] channel 0 A, 1 B. -/
abbrev Ev.AES_CS_CHANGED : Nat := 0x0907
/-- Event DSP_FAULT (WARN); unit: core; arguments: [0] fault: 0 illegal bundle, 1 X or Y limit, 2 code range, 3 window, 4 run beyond twice the budget, 5 I parity, 6 X or Y parity, 7 shared-memory parity; [4] SSN U32. -/
abbrev Ev.DSP_FAULT : Nat := 0x0A01
/-- Event DSP_OVERRUN (WARN); unit: core; arguments: [0] SSN U32. -/
abbrev Ev.DSP_OVERRUN : Nat := 0x0A02
/-- Event SCHED_REJECT (ERROR); unit: 0; arguments: [0] check of R273. -/
abbrev Ev.SCHED_REJECT : Nat := 0x0A03
/-- Event SCHED_ABANDON (WARN); unit: 0; arguments: [0] cause; [4] SSN U32. -/
abbrev Ev.SCHED_ABANDON : Nat := 0x0A04
/-- Event VD_UNSUPPORTED (WARN); unit: session d; arguments: —. -/
abbrev Ev.VD_UNSUPPORTED : Nat := 0x0B01
/-- Event VD_OVERSIZE (WARN); unit: session d; arguments: —. -/
abbrev Ev.VD_OVERSIZE : Nat := 0x0B02
/-- Event VD_ABANDON (WARN); unit: session d; arguments: —. -/
abbrev Ev.VD_ABANDON : Nat := 0x0B03
/-- Event VD_WINDOW_FAULT (ERROR); unit: session d; arguments: [0] core v. -/
abbrev Ev.VD_WINDOW_FAULT : Nat := 0x0B04
/-- Event VD_NO_CORE (ERROR); unit: session d; arguments: —. -/
abbrev Ev.VD_NO_CORE : Nat := 0x0B05
/-- Event VD_SOURCE_GONE (WARN); unit: session d; arguments: —. -/
abbrev Ev.VD_SOURCE_GONE : Nat := 0x0B06
/-- Event VE_INPUT_LOST (WARN); unit: session e; arguments: —. -/
abbrev Ev.VE_INPUT_LOST : Nat := 0x0C01
/-- Event VE_LATE (WARN); unit: session e; arguments: —. -/
abbrev Ev.VE_LATE : Nat := 0x0C02
/-- Event VE_NO_CORE (ERROR); unit: session e; arguments: —. -/
abbrev Ev.VE_NO_CORE : Nat := 0x0C03
/-- Event CMP_LINE_SHORT (WARN); unit: output k; arguments: [0] layer j; [2] width W U16. -/
abbrev Ev.CMP_LINE_SHORT : Nat := 0x0D01
/-- Event CMP_MOVED (WARN); unit: output k; arguments: [0] new compositor. -/
abbrev Ev.CMP_MOVED : Nat := 0x0D02
/-- Event CMP_FROZEN (ERROR); unit: output k; arguments: —. -/
abbrev Ev.CMP_FROZEN : Nat := 0x0D03
/-- Event ROS_ENGAGED (WARN); unit: 0; arguments: [0] 1 host, 2 SAFETY_N. -/
abbrev Ev.ROS_ENGAGED : Nat := 0x0D04
/-- Event ROS_RELEASED (INFO); unit: 0; arguments: —. -/
abbrev Ev.ROS_RELEASED : Nat := 0x0D05
/-- Event ROS_NO_CONTENT (ERROR); unit: 0; arguments: [0] 1 image, 2 announcement. -/
abbrev Ev.ROS_NO_CONTENT : Nat := 0x0D06
/-- Event HBM_TRAINED (INFO); unit: 0; arguments: [0] IN_SERVICE; [4] TRAIN_MS U16. -/
abbrev Ev.HBM_TRAINED : Nat := 0x0E01
/-- Event HBM_CE_RATE (WARN); unit: pseudo-channel; arguments: —. -/
abbrev Ev.HBM_CE_RATE : Nat := 0x0E02
/-- Event HBM_UE (ERROR); unit: pseudo-channel; arguments: [0] offset o U32. -/
abbrev Ev.HBM_UE : Nat := 0x0E03
/-- Event HBM_PC_DEGRADED (WARN); unit: pseudo-channel; arguments: [0] cause. -/
abbrev Ev.HBM_PC_DEGRADED : Nat := 0x0E04
/-- Event HBM_PC_FENCED (ERROR); unit: pseudo-channel; arguments: [0] cause. -/
abbrev Ev.HBM_PC_FENCED : Nat := 0x0E05
/-- Event HBM_STACK_FENCED (ERROR); unit: stack; arguments: —. -/
abbrev Ev.HBM_STACK_FENCED : Nat := 0x0E06
/-- Event HBM_FATAL (FATAL); unit: 0; arguments: —. -/
abbrev Ev.HBM_FATAL : Nat := 0x0E07
/-- Event DMA_DONE (INFO); unit: channel; arguments: [0] SEQ U32. -/
abbrev Ev.DMA_DONE : Nat := 0x0F01
/-- Event DMA_FAULT (WARN); unit: channel; arguments: [0] STATUS; [4] TAG. -/
abbrev Ev.DMA_FAULT : Nat := 0x0F02
/-- Event DRAINED (INFO); unit: port i; arguments: —. -/
abbrev Ev.DRAINED : Nat := 0x0F03
/-- Event ARB_CAPO_TIMEOUT (WARN); unit: port i; arguments: —. -/
abbrev Ev.ARB_CAPO_TIMEOUT : Nat := 0x0F04
/-- Event UNIT_RETIRED (ERROR); unit: R448; arguments: Table 20.3. -/
abbrev Ev.UNIT_RETIRED : Nat := 0x1001

/-- The severity of an event (Table 20.6): 0 INFO, 1 WARN, 2 ERROR, 3 FATAL. DEVICE_RESET's severity depends on its
cause (Table 19.8) and is given where it is raised. -/
def evSeverity (code : Nat) : Nat :=
  match code with
  | 0x0102 => 1
  | 0x0105 => 2
  | 0x0107 => 2
  | 0x0108 => 1
  | 0x0109 => 2
  | 0x010A => 1
  | 0x010B => 1
  | 0x010C => 2
  | 0x010D => 2
  | 0x0203 => 1
  | 0x0302 => 1
  | 0x0303 => 1
  | 0x0304 => 1
  | 0x0402 => 1
  | 0x0403 => 2
  | 0x0404 => 1
  | 0x0405 => 1
  | 0x0602 => 1
  | 0x0603 => 1
  | 0x0701 => 2
  | 0x0702 => 2
  | 0x0703 => 1
  | 0x0704 => 2
  | 0x0802 => 1
  | 0x0803 => 1
  | 0x0901 => 1
  | 0x0903 => 1
  | 0x0905 => 1
  | 0x0906 => 1
  | 0x0A01 => 1
  | 0x0A02 => 1
  | 0x0A03 => 2
  | 0x0A04 => 1
  | 0x0B01 => 1
  | 0x0B02 => 1
  | 0x0B03 => 1
  | 0x0B04 => 2
  | 0x0B05 => 2
  | 0x0B06 => 1
  | 0x0C01 => 1
  | 0x0C02 => 1
  | 0x0C03 => 2
  | 0x0D01 => 1
  | 0x0D02 => 1
  | 0x0D03 => 2
  | 0x0D04 => 1
  | 0x0D06 => 2
  | 0x0E02 => 1
  | 0x0E03 => 2
  | 0x0E04 => 1
  | 0x0E05 => 2
  | 0x0E06 => 2
  | 0x0E07 => 3
  | 0x0F02 => 1
  | 0x0F04 => 1
  | 0x1001 => 2
  | _ => 0

/-- The multi-byte argument fields of an event code (Table 20.6): offset and size. -/
def evFields (code : Nat) : List (Nat × Nat) :=
  match code with
  | 0x0103 => [(4, 4), (8, 2)] | 0x010A => [(0, 2)] | 0x010D => [(4, 4)] | 0x0202 => [(0, 4), (6, 2)]
  | 0x0302 => [(0, 8), (8, 4)] | 0x0304 => [(0, 8), (8, 4)] | 0x0404 => [(0, 4)] | 0x0501 => [(0, 4)] | 0x0502 => [(0, 4)]
  | 0x0603 => [(0, 4)] | 0x0604 => [(0, 4)] | 0x0605 => [(0, 4)] | 0x0702 => [(0, 4)] | 0x0703 => [(0, 4), (4, 4)]
  | 0x0704 => [(0, 4), (4, 4)] | 0x0801 => [(0, 4)] | 0x0802 => [(0, 2), (2, 2)] | 0x0902 => [(0, 4)] | 0x0904 => [(0, 4)]
  | 0x0905 => [(0, 4)] | 0x0906 => [(0, 4)] | 0x0A01 => [(4, 4)] | 0x0A02 => [(0, 4)] | 0x0A04 => [(4, 4)]
  | 0x0D01 => [(2, 2)] | 0x0E01 => [(4, 2)] | 0x0E03 => [(0, 4)] | 0x0F01 => [(0, 4)] | 0x0F02 => [(4, 4)]
  | 0x1001 => [(2, 2), (4, 4)] | _ => []

end Sys2Proof.Machine
end

