-- ==== Sys2Proof/Machine/Tables.lean ====
section
/-! DEFINITION. Sparse tables: the one shape in which the model keeps state indexed by number (object values by
element, meters by source, memory by address). A table is a list of (key, value) rows in canonical form: keys strictly
rising, and no row whose value is what an unlisted key reads as. Equal tables are then equal lists. -/

namespace Sys2Proof.Machine

/-- A sparse table from numbers to α. -/
abbrev Tbl (α : Type) := List (Nat × α)

/-- The value of key k; an unlisted key reads as d. -/
def Tbl.get {α : Type} (d : α) : Tbl α → Nat → α
  | [], _ => d
  | (j, a) :: t, k => if j < k then Tbl.get d t k else if j = k then a else d

/-- Put a row in front of a tail, dropping the tail's rows at or below its key; a default value is not listed. -/
def Tbl.put {α : Type} [DecidableEq α] (d : α) (k : Nat) (v : α) (t : Tbl α) : Tbl α :=
  if v = d then t.dropWhile (fun r => r.1 ≤ k) else (k, v) :: t.dropWhile (fun r => r.1 ≤ k)

/-- Write key k. Writing the default removes the row. -/
def Tbl.set {α : Type} [DecidableEq α] (d : α) : Tbl α → Nat → α → Tbl α
  | [], k, v => Tbl.put d k v []
  | (j, a) :: t, k, v => if j < k then (j, a) :: Tbl.set d t k v else Tbl.put d k v ((j, a) :: t)

/-- Apply f to the value of key k. -/
def Tbl.upd {α : Type} [DecidableEq α] (d : α) (t : Tbl α) (k : Nat) (f : α → α) : Tbl α :=
  Tbl.set d t k (f (Tbl.get d t k))

/-- The canonical form, from key `lo` on. -/
def Tbl.wfFrom {α : Type} [DecidableEq α] (d : α) : Nat → Tbl α → Bool
  | _, [] => true
  | lo, (j, a) :: t => decide (lo ≤ j) && decide (a ≠ d) && Tbl.wfFrom d (j + 1) t

/-- The canonical form of a table. -/
def Tbl.wf {α : Type} [DecidableEq α] (d : α) (t : Tbl α) : Bool := Tbl.wfFrom d 0 t

/-- The keys whose rows satisfy p. -/
def Tbl.keysWhere {α : Type} (t : Tbl α) (p : Nat → α → Bool) : List Nat :=
  (t.filter (fun r => p r.1 r.2)).map (·.1)

end Sys2Proof.Machine
end

