-- ==== Sys2Proof/Machine/State.lean ====
section
/-! DEFINITION. The state of the block: every object of the dictionary in one sparse store, the local and free-running
clocks, and the state the chapters describe that no object shows. All of it is plain data. -/

namespace Sys2Proof.Machine

/-- Why the block stops. No rule of the spec stops it: R453 leaves only an environment outside Table 20.5 undefined, and
no command describes one. The one reason is never raised; raising it would be safe. -/
inductive Fault where
  /-- Nothing raises it. -/
  | outsideEnvironment
  deriving DecidableEq, Repr

/-- Why a command has no meaning. -/
inductive Refusal where
  /-- Raised by an arm of exec whose command has not been given its meaning. Safe. -/
  | notModelled (mnemonic : String)
  deriving DecidableEq, Repr

/-- An event record (Table 0.5). `args` holds the 12 argument bytes in little-endian order. -/
structure EvRec where
  time : Nat
  code : Nat
  unit : Nat
  hosts : Nat
  severity : Nat
  seq : Nat
  args : Nat
  deriving DecidableEq, Repr

/-- Event records held (R16, R411, R442, R452). -/
structure EvX where
  seq : Nat := 0                  -- records written since reset
  ring : List EvRec := []         -- HBM ring, newest first, at most 65,536
  log : List EvRec := []          -- MRAM log, newest first, at most 4,096
  logAt : List Nat := []          -- cycle of the latest rate-counted MRAM log writes, newest first
  logHeld : List EvRec := []      -- MRAM log writes held by a supply warning, oldest first (R424)
  waiting : Tbl (List (EvRec × Nat)) := []   -- per slot: records to deliver, oldest first, with the cycle written
  hseq : Tbl Nat := []            -- per slot: records delivered since reset
  udpAt : Tbl (List Nat) := []    -- per slot: cycles of the EVENT frames sent within the last second, newest first
  parityAt : Tbl Nat := []        -- per memory of Table 20.1: 1 + cycle of its latest PARITY_ERROR record (R446)
  deriving DecidableEq, Repr

/-- A PTP master heard on a port: its Announce data set and when the latest Announce came. -/
structure PtpMaster where
  source : Nat
  priority1 : Nat
  clockClass : Nat
  accuracy : Nat
  variance : Nat
  priority2 : Nat
  grandmaster : Nat
  steps : Nat
  utcOffset : Int
  utcValid : Bool
  leap61 : Bool
  leap59 : Bool
  heardAt : Nat                    -- cycle of its latest Announce
  deriving DecidableEq, Repr

/-- What the time unit keeps per PTP port (R63, R65). Cycles count from the model's origin. -/
structure PtpX where
  masters : List PtpMaster := []
  annLog : Tbl (Option Int) := []  -- by master: latest stated or granted Announce interval, log2 s
  syncLog : Tbl (Option Int) := []
  syncAt : Nat := 0                -- cycle of the latest Sync of the parent (or of choosing it)
  half : Option (Nat × Int × Int) := none   -- two-step Sync awaiting Follow_Up: seqId, arrival t2, correction
  pair : Option Int := none        -- t2 − t1 of a complete Sync awaiting its Delay_Resp
  reqSeq : Nat := 0
  req : Option (Nat × Int) := none -- Delay_Req outstanding: seqId, egress time t3
  nextReq : Nat := 0               -- cycle from which the next Delay_Req is due
  deriving DecidableEq, Repr

/-- A TOUT output: the programme read when ARM was accepted, and the next edge in 2^-16 ns (R70, R71). -/
structure ToutX where
  armed : Bool := false
  oneShot : Bool := false
  start : Nat := 0
  period : Nat := 0
  width : Nat := 0
  next : Nat := 0
  follow : Nat := 0                -- periodic: the grid point after the latest edge produced
  jumps : List (Nat × Nat) := []   -- edges passed over by steps: the first of them, the edge that follows; oldest first
  activeUntil : Nat := 0           -- end of the latest pulse, 2^-16 ns
  deriving DecidableEq, Repr

/-- A capture record (Table 3.11). -/
structure CapRec where
  time : Nat
  fraction : Nat
  flags : Nat
  atC : Nat := 0                   -- cycle of the edge (the model's own)
  deriving DecidableEq, Repr

/-- A TIN input (R73). -/
structure TinX where
  fifo : List CapRec := []         -- oldest first, at most 16
  lost : Bool := false             -- edges lost since the latest record stored
  stepped : Bool := false          -- clock stepped since the latest record
  deriving DecidableEq, Repr

/-- A tick stream: the grid index of the latest tick posted, and ticks passed over by steps and not yet reported: the
first of them and the tick that follows, oldest first. -/
structure TickX where
  active : Bool := false
  last : Nat := 0
  jumps : List (Nat × Nat) := []
  deriving DecidableEq, Repr

/-- The time unit (chapter 3). -/
structure TimeX where
  good : Nat := 0                  -- consecutive measurements below LOCK_THRESH
  adjHist : List (Nat × Int) := [] -- LOCKED: (cycle, FREQ_ADJ from then on), newest first
  holdoverAt : Nat := 0            -- cycle the present holdover began
  parent : Option Nat := none      -- PTP port whose master is the parent
  ptp : Tbl PtpX := []
  ppsTod : Option (Nat × Nat) := none   -- PPS_TOD written and not used: seconds, cycle of the write
  ppsRef : Option (Nat × Nat) := none   -- TAI second and cycle of the latest PPS_IN edge of a good period, or dated by PPS_TOD
  ppsAt : Option Nat := none       -- cycle of the latest PPS_IN edge
  freqTerm : Int := 0              -- REF_SEL 1: frequency adjustment taken from FREQ_IN, 10^-12
  rtc : Nat := 0                   -- real-time clock at rtcAt, in 1/32,768 s
  rtcAt : Nat := 0
  rtcValid : Bool := false
  rtcSec : Nat := 0                -- local second of the latest reload
  tout : Tbl ToutX := []
  tin : Tbl TinX := []
  block : TickX := { active := true }
  frame : Tbl TickX := []          -- per composition output
  slot : Tbl TickX := []           -- per Fret port
  enc : Tbl TickX := []            -- per encode session fed by a decode session
  deriving DecidableEq, Repr

/-- The session keys of SRTP, or of SRTCP, that a master key yields (R175). -/
structure SrtpKeys where
  enc : Bytes
  auth : Bytes                     -- HMAC-SHA1 suites: 20 bytes
  salt : Bytes
  deriving DecidableEq, Repr

/-- The keys of one generation of a crypto context (R184, R186, Table 8.6): session keys alone, the master key is gone. -/
structure KeySet where
  suite : Nat
  rtp : SrtpKeys
  rtcp : SrtpKeys
  srtcpEnc : Bool
  deriving DecidableEq, Repr

/-- A stream of a context: one SSRC's index state (R179, R188, R97). Generation 0 stands for none. -/
structure StreamX where
  ssrc : Nat
  exhGen : Nat := 0                -- generation under which SRTP is exhausted
  warnGen : Nat := 0
  fullGen : Nat := 0               -- generation under which a radio leg's queue left no index free (R189)
  exhGenC : Nat := 0               -- exhGen for SRTCP
  fullGenC : Nat := 0              -- fullGen for SRTCP
  warnGenC : Nat := 0
  evGen : Nat := 0                 -- generation whose first refusal has been reported
  evGenC : Nat := 0
  top : Option Nat := none         -- receive: highest SRTP index verified
  seen : Nat := 0                  -- receive: bit j set, index top − j verified
  topC : Option Nat := none
  seenC : Nat := 0
  nextC : Nat := 0                 -- send: next SRTCP index
  sentI : Option Nat := none       -- send: highest SRTP index protected
  deriving DecidableEq, Repr

/-- A crypto context as an operation finds it that is dispatched in the cycle of a commit to it (R190): that cycle, and STATE,
GEN, keys and erasures before the commit. -/
structure CtxThen where
  atC : Nat
  st : Nat
  gen : Nat
  keys : Option KeySet
  epoch : Nat
  deriving DecidableEq, Repr

/-- A crypto context (R176 to R193). -/
structure CtxX where
  keys : Option KeySet := none
  prev : Option (KeySet × Nat) := none   -- previous generation and the cycle at which PREV_HOLD ends
  streams : List StreamX := []     -- oldest first
  epoch : Nat := 0                 -- erasures so far: an operation dispatched under an older epoch is discarded
  was : Option CtxThen := none     -- before the latest commit
  nonce : Nat := 0                 -- nonce of its record in HBM (R177)
  deriving DecidableEq, Repr

/-- The cipher engine's secrets and contexts (chapter 8). -/
structure CipX where
  ctx : Tbl CtxX := []
  kek : Tbl Nat := []              -- KEK values, OCTETS(32) numbers
  sealKey : Nat := 0
  ick : Nat := 0                   -- internal context key
  ickWrites : Nat := 0             -- write counter of context records, restarted with the key
  cache : List Nat := []           -- contexts whose record is in the context cache, at most 16,384 (R178)
  damaged : List Nat := []         -- contexts whose record in HBM fails its tag on the next read
  deriving DecidableEq, Repr

/-- A layer frame's tag (R104): layer, frame number, start and end, references, and switch points. -/
structure TagX where
  s : Nat
  t : Nat
  fn : Nat
  sof : Bool
  eof : Bool
  refs : List (Nat × Nat)          -- explicit references: spatial layer, frame number
  cumulative : Bool                -- HEVC, AVC: every earlier frame with temporal id at most t since the last IRAP
  previous : Bool                  -- other video: the previous frame
  irap : Bool
  tsa : Bool
  switchFor : List Nat             -- layer ids for which the frame is a switch point
  first : Bool                     -- other video: a switch point where it is the subscription's first frame
  sp : Bool                        -- splice point picture (LD)
  ia : Bool                        -- intra alternative (LD)
  di : Bool := false               -- no frame references this one (LD)
  dti : List Nat := []             -- decode targets for which the DD of a device-produced frame shows Switch (R312)
  nal : Nat := 0                   -- NAL unit type of a device-produced HEVC frame
  group : Nat := 0xFF              -- splice group (LD)
  deriving DecidableEq, Repr

/-- A packet in the packet store (R19). -/
structure PktX where
  src : Nat
  ssrc : Nat
  seq : Nat                        -- extended sequence number
  ts : Nat
  pt : Nat
  marker : Bool
  csrcs : Nat
  csrc : Bytes := []               -- the CSRC list
  pad : Bool := false              -- the header announces padding
  payLen : Nat
  exts : List (Nat × Bytes)        -- kind (0 audio level, 1 DD, 2 LD) and data of the elements that may be kept
  level : Option Nat
  tag : Option TagX
  colour : Nat                     -- 0 green, 1 yellow
  atNs : Nat                         -- local time of its commit, ns
  cn : Bool
  payload : Bytes := []
  deriving DecidableEq, Repr

/-- A tile as a mosaic picture holds it: a source's tile or intra alternative of a tick, or the group's fill or skip tile. -/
inductive TileRef where
  | tile (src n : Nat)
  | intra (src n : Nat)
  | fill (g : Nat)
  | skip (g : Nat)
  deriving DecidableEq, Repr

/-- A unit of a mosaic picture (R127, R128): the sequence header or parameter sets that describe the mosaic, the group frame
header rewritten to its tile grid (AV1), a tile group of one tile, tg_start and tg_end being its position (AV1), or a slice
segment of one tile with its first_slice_segment_in_pic_flag and slice_segment_address (HEVC); each with its bytes. -/
inductive SpliceUnit where
  | params (codec width height cols rows bytes : Nat)
  | header (tick cols rows bytes : Nat)
  | tileGroup (k : Nat) (t : TileRef) (bytes : Nat)
  | slice (k : Nat) (first : Bool) (address : Nat) (t : TileRef) (bytes : Nat)
  deriving DecidableEq, Repr

/-- What a copy carries. -/
inductive Body where
  | media (pkt : Nat)
  | rtx (ssrc osn : Nat)            -- the original packet's SSRC and sequence number
  | rtcp (parts : List Rtcp)
  | mix (conf cfg block : Nat) (isPrivate : Bool)
  | silence (cfg block level : Nat)   -- a DTX, SID, comfort noise or stored silence frame (R220); the noise level, -dBFS
  | mosaic (m tick : Nat) (units : List SpliceUnit)   -- the units that the packet holds, whole or in part
  | override (entry record : Nat)
  deriving DecidableEq, Repr

/-- A copy for one leg, rewritten (R112) and ready for its queue. -/
structure CopyX where
  leg : Nat
  cls : Nat                        -- 0 audio, 1 retransmission, 2 video base, 3 video enhancement
  colour : Nat := 0
  video : Bool := false
  src : Nat := 0
  frame : Nat × Nat := (0, 0)      -- layer frame: spatial layer, frame number
  layer : Nat := 0xFF
  ipLen : Nat
  octets : Nat := 0                -- payload octets, for the SR
  charged : Nat := 0               -- bytes it was queued for
  ssrc : Nat
  pt : Nat
  seq : Nat := 0                   -- SRTP or SRTCP index
  e : Bool := false                -- SRTCP: the E flag (R176)
  ts : Nat := 0
  marker : Bool := false
  exts : List (Nat × Bytes) := []  -- header extension elements: ID toward the leg, data
  holds : List Nat := []           -- packets of the packet store that the copy refers to (R19)
  payload : Bytes := []            -- of a packet that the device makes; a media copy's is that of its packet
  sealed : Bytes := []             -- the SRTP or SRTCP packet, once it has been protected
  body : Body
  deriving DecidableEq, Repr

/-- A packet of a leg's NACK history (R116). -/
structure HistX where
  sub : Nat
  seq : Nat                        -- output sequence number
  pkt : Nat
  colour : Nat
  atC : Nat                         -- cycle at which it was forwarded
  sent : Bool                      -- handed to the MAC
  lastSent : Nat                   -- cycle of its latest sending
  copy : CopyX
  deriving DecidableEq, Repr

/-- A token shaper (R162, R163): tokens in 1/8,000,000 byte, the tick of its latest refill, the values in force and the
values waiting for their tick. -/
structure ShX where
  tok : Int := 0
  tick : Nat := 0
  rate : Nat := 0
  burst : Nat := 0
  pend : Bool := false
  pendTick : Nat := 0
  newRate : Nat := 0
  newBurst : Nat := 0
  newReset : Bool := false
  deriving DecidableEq, Repr

/-- A sequence number sent to a wired leg, kept 1 s for RFC 8888 (R170). -/
structure SentX where
  ssrc : Nat
  seq : Nat
  bytes : Nat
  atC : Nat
  deriving DecidableEq, Repr

/-- A wired leg's line state (R170, R171). -/
structure LineX where
  sent : List SentX := []
  rxBytes : Nat := 0               -- this window's counts
  rcvd : Nat := 0
  lost : Nat := 0
  ce : Nat := 0
  reports : Nat := 0
  from_ : Nat := 0                 -- cycle from which FB_TIMEOUT runs
  up : Nat := 0
  deriving DecidableEq, Repr

/-- A leg's egress (chapter 7). -/
structure LegEg where
  q0 : List CopyX := []
  q1 : List CopyX := []
  q2 : List CopyX := []
  q3 : List CopyX := []
  sh : ShX := {}
  dropped : List (Nat × Nat × Nat) := []   -- layer frames with a dropped copy: source, spatial layer, frame number
  line : LineX := {}
  deriving DecidableEq, Repr

structure EgrX where
  legs : Tbl LegEg := []
  groups : Tbl ShX := []
  lastG : Tbl Nat := []            -- round-robin pointers: 4 * port + class
  lastL : Tbl Nat := []            -- 4 * group + class; group 4,096 + p is the implicit group of port p
  deriving DecidableEq, Repr

/-- An item of the audio or retransmission class. -/
structure RItem where
  copy : CopyX
  size : Nat                       -- airborne size
  dl : Nat                         -- deadline, 125 us units mod 65,536
  deriving DecidableEq, Repr

/-- A layer frame of the video class. -/
structure VItem where
  sub : Nat
  src : Nat
  s : Nat
  t : Nat
  fn : Nat
  layer : Nat
  base : Bool
  refs : List (Nat × Nat)          -- referenced frames of its subscription still queued: spatial layer, frame number
  bad : Bool                       -- a frame it references left the queue undelivered
  copies : List CopyX
  size : Nat
  complete : Bool
  dl : Nat
  deriving DecidableEq, Repr

/-- A radio leg's state beside its objects (chapter 6). -/
structure FLegX where
  audio : List RItem := []
  rtx : List RItem := []
  video : List VItem := []
  win : Nat × Nat × Nat := (0, 0, 0)   -- items of each class now in the summary's window
  stale : Bool := false            -- summary lost to a parity error and being rebuilt
  up : Nat := 0
  rates : List Nat := []           -- LINK rates of this window
  outage : Bool := false
  linkAt : Option Nat := none      -- cycle of the latest LINK entry
  deriving DecidableEq, Repr

/-- A DATA frame committed and not yet sent (R146). -/
structure DataX where
  slot : Nat
  queryId : Nat
  entry : Nat
  dflags : Nat
  ue : Nat
  bearer : Nat
  layer : Nat
  index : Nat
  leg : Nat
  copy : CopyX
  deriving DecidableEq, Repr

/-- A Fret port's state beside its objects (chapter 6). -/
structure FPortX where
  answers : List (Nat × Nat × Bytes) := []   -- the last 16 answered: QUERY_ID, SLOT, message; newest first
  data : List DataX := []          -- committed packets in ANSWER order
  txSeq : Nat := 0
  rxSeq : Option Nat := none
  heardAt : Nat := 0               -- cycle of the latest valid frame
  errorAt : Option Nat := none     -- cycle of the latest ERROR
  mismatchAt : Option Nat := none
  hintSet : List (Nat × Nat) := [] -- last talker set sent: leg, rank
  hintSent : Bool := false
  hintAt : Nat := 0
  deriving DecidableEq, Repr

structure FretX where
  ports : Tbl FPortX := []
  legs : Tbl FLegX := []
  window : Nat := 0                -- 100 ms window of local time now running
  deriving DecidableEq, Repr

/-- A spliceable source's tile of one tick (R30, R122): its coded bytes, those of its intra alternative, the packets of
both, and the cycle at which it was stored. -/
structure TileX where
  n : Nat
  bytes : Nat
  alt : Option Nat
  pkts : List Nat
  atC : Nat
  deriving DecidableEq, Repr

/-- A source as the forwarding engine and the ingress path see it (chapters 4 and 5). -/
structure SrcX where
  stamps : List (Nat × Nat) := []  -- the 16 most recent RTP time-stamps with their frame numbers, newest first
  fn : Nat := 0                    -- latest frame number, unwrapped
  structs : List Nat := []         -- AV1 template structures received
  seen : Tbl Nat := []             -- layer id: 1 + cycle at which it was last seen
  bytes : List (Nat × Nat × Nat) := []   -- cycle, layer id, IP length of each packet of the last 1 s
  top : Option Nat := none         -- highest extended sequence number committed
  missing : List (Nat × Nat × Bool) := []   -- extended sequence number, cycle at which its NACK is due, NACKed
  frames : List (Nat × Nat) := []  -- the layer frames tagged last: frame number, spatial layer; newest first, at most 64
  tiles : List TileX := []         -- spliceable: tiles stored and not yet emitted, newest first
  refreshAt : Option Nat := none   -- cycle at which a request was last sent upstream
  refreshPend : Bool := false
  refreshFir : Bool := false
  firSeq : Nat := 0
  sr : Option (Nat × Nat × Nat) := none   -- NTP, RTP, local ns of the latest SR
  cname : Nat := 0
  rtpOffset : Nat := 0             -- device-produced: offset of its RTP grid (R74)
  outSeq : Nat := 0                -- device-produced: next sequence number
  rcvd : Nat := 0                  -- RFC 3550 receive statistics: packets, first and latest interval's figures, jitter
  firstExt : Nat := 0
  expPrior : Nat := 0
  rcvPrior : Nat := 0
  jitter16 : Nat := 0
  transit : Option Nat := none
  deriving DecidableEq, Repr

/-- A decision of R110 on one layer frame: spatial layer, frame number, forwarded, spatial layer of the operating
point, base frame. -/
structure Decided where
  s : Nat
  fn : Nat
  fwd : Bool
  opS : Nat
  base : Bool
  deriving DecidableEq, Repr

/-- A subscription as the forwarding engine sees it. -/
structure SubX where
  decided : List Decided := []
  deliv : List (Nat × Nat) := []   -- layer frames delivered: spatial layer, frame number
  lostT : List Nat := [0, 1, 2, 3] -- cumulative references: temporal ids of frames not delivered since the last IRAP; at the
                                   -- start every id, as nothing has been delivered
  clearAt : Tbl Nat := []          -- temporal id: 1 + frame number of its latest switch point
  prevBad : Bool := false          -- previous-frame references: the previous frame was not delivered
  started : Bool := false          -- a layer frame has been decided
  withheld : List Nat := []        -- extended input sequence numbers of withheld frames
  sent : List Nat := []            -- output numbers sent, extended
  base : Option Int := none        -- SRTP index less extended output number
  lastTs : Option (Nat × Nat) := none   -- rewritten time-stamp and local ns of the latest packet sent
  sentPkts : Nat := 0
  sentBytes : Nat := 0
  mediaSince : Bool := false       -- media sent in this RTCP interval
  rr : Option RrBlock := none
  rtt : Option Nat := none         -- round-trip time of the latest report block, 1/65,536 s
  have_ : Tbl Nat := []            -- mosaic: 1 + source shown at each position
  mosStarted : Bool := false
  mosRefresh : Bool := false
  rebase : Bool := false           -- released from an override: numbering follows the last override packet (R348)
  keep : Option Nat := none        -- operating point kept until the new spatial layer can be started on (R314)
  deriving DecidableEq, Repr

/-- What an enqueue brings to a radio leg's queue: an audio, SRTCP or retransmission packet with its deadline; a packet of a
layer frame with its subscription, temporal id, deadline, whether it starts and ends the frame, whether the frame is a base
frame, and the frames that it references; or that an incomplete layer frame is abandoned. -/
inductive EnqX where
  | item (copy : CopyX) (dl : Nat)
  | video (copy : CopyX) (sub t dl : Nat) (first eof base : Bool) (refs : List (Nat × Nat))
  | abandon (sub sl fn : Nat)
  deriving DecidableEq, Repr

/-- A radio leg's queue as it stood before the enqueues of one cycle (R24): that cycle, the queue, QBYTES, EXPIRED, TRIMMED,
Q_DROP and GEN, the enqueues since, and the subscriptions they changed, before and after, newest first. -/
structure UndoX where
  atC : Nat
  leg : FLegX
  qbytes : Nat
  expired : Nat
  trimmed : Nat
  dropped : Nat
  gen : Nat
  ops : List EnqX := []
  subs : List (Nat × SubX × SubX) := []
  deriving DecidableEq, Repr

/-- A leg as the forwarding engine sees it. -/
structure LegX where
  hist : List HistX := []          -- newest first
  rtcpAt : Nat := 0                -- index of the latest RTCP interval served
  rtcpLeft : List Nat := []        -- SSRCs whose report was put off to the next interval
  mixSent : Bool := false          -- the mix sent media in this RTCP interval
  mixPkts : Nat := 0
  mixBytes : Nat := 0
  mixTs : Option (Nat × Nat) := none   -- RTP value and local ns of the latest mix packet
  deriving DecidableEq, Repr

/-- A mosaic being assembled (R126, R129): the tick of its picture, when its first tile arrived, the position table read
then. -/
structure MosX where
  tick : Nat := 0
  since : Option Nat := none
  pos : List Nat := []
  emitted : Nat := 0               -- pictures emitted
  past : List Nat := []            -- ticks of the latest pictures, newest first, at most 16
  deriving DecidableEq, Repr

/-- The two tiles coded when a splice group opens (R122): their bytes, and the fill tile's Y′, Cb and Cr at 10 bits. -/
structure GrpX where
  fill : Nat := 0
  skip : Nat := 0
  colour : Nat × Nat × Nat := (0, 0, 0)
  deriving DecidableEq, Repr

structure FwdX where
  store : Tbl PktX := []           -- the packet store, by packet number; an absent number is empty
  nextPkt : Nat := 1
  srcs : Tbl SrcX := []
  subs : Tbl SubX := []
  legs : Tbl LegX := []
  undo : Tbl (Option UndoX) := []  -- per radio leg: its queue before the latest cycle's enqueues
  mos : Tbl MosX := []
  groups : Tbl GrpX := []          -- per splice group
  encReq : List (Nat × Bool) := [] -- refresh requests passed to encoders: source, FIR
  deriving DecidableEq, Repr

/-- A meter (R98): tokens in 1/8,000,000 byte, and local time in ns of the latest mark. -/
structure MeterX where
  tc : Nat := 0
  tp : Nat := 0
  last : Nat := 0
  deriving DecidableEq, Repr

/-- A packet between its arrival and its commit: the frame, its arrival time and what the stages of R95 decided. -/
structure InX where
  frame : Frame
  arrived : Nat                    -- local time of the first byte, ns
  leg : Nat
  src : Nat := 0
  kind : Nat                       -- 0 SRTP, 1 SRTP retransmission, 2 SRTCP
  index : Nat := 0
  colour : Nat := 0
  gen : Nat := 0                   -- generation of the context at dispatch
  epoch : Nat := 0                 -- erasures of the context at dispatch
  keys : Option KeySet := none     -- that generation's keys (R190)
  kept : List (Nat × Bytes) := []  -- SRTP: kind (0 audio level, 1 DD, 2 LD) and data of the elements extracted
  deriving DecidableEq, Repr

/-- A frame in a host's punt queue, with its header's fields (Table 4.10). -/
structure PuntX where
  reason : Nat
  port : Nat
  vid : Nat
  v6 : Bool
  leg : Nat
  time : Nat
  raw : Bytes
  deriving DecidableEq, Repr

/-- A host's punt queue (R101). Tokens are in 10^-9 frame. -/
structure PuntQ where
  queue : List PuntX := []
  tok : Option Nat := none         -- none stands for a full bucket
  at_ : Nat := 0                   -- local ns of the latest accrual
  dropAt : Option Nat := none      -- cycle of the latest drop for rate or space
  seq : Nat := 0
  deriving DecidableEq, Repr

/-- The settings of a trained lane whose OVERRIDE is 1 (Table 18.14). -/
structure LaneX where
  pre : Int
  main : Nat
  post : Int
  ctle : Nat
  deriving DecidableEq, Repr

/-- The ingress path (chapter 4). -/
structure IngX where
  flight : Tbl (List InX) := []    -- per port: packets not yet committed, oldest first
  meters : Tbl MeterX := []
  punts : Tbl PuntQ := []
  ce : Tbl (Nat × Nat) := []       -- per port: the second now counted and its corrected words
  up : Tbl Bool := []              -- link partner present
  lanes : Tbl (Option LaneX) := [] -- per SerDes lane: its settings since its latest link training; none for factory presets
  deriving DecidableEq, Repr

/-- An audio source as the level check sees it (R205). -/
structure ASrcX where
  energy : Nat := 0
  loud : Nat := 0                  -- loudness of the latest packet
  level : Nat := 127               -- its RFC 6464 level
  at_ : Option Nat := none         -- cycle of the latest packet committed
  byLevel : Bool := true           -- the latest packet carried a level element
  dec : Option Int := none         -- decoded level of the previous block, dBFS, if it was decoded
  jb : List Nat := []              -- packets in the jitter buffer, oldest first
  play : Option (Nat × Nat) := none  -- an RTP time-stamp and the block that plays it
  hist : List Int := []            -- past samples of the bridge to its conference's domain
  deriving DecidableEq, Repr

/-- A decoder: of a source, into a rate domain (R203, R207). -/
structure ADecX where
  st : Nat := 0                    -- its codec's state; 0 the reset state
  from_ : Option Int := none       -- block from which the frame taken latest plays
  left : List Int := []            -- 16-bit samples of that frame still to be put out
  at_ : Option Nat := none         -- block put out latest
  up : Nat := 64                   -- its output's ramp, in 64ths
  now : List Int := []             -- 24-bit samples of that block
  deriving DecidableEq, Repr

/-- A mix output while it runs (R208 to R212): the contributions with their ramps in 64ths, the limiter's gain (65,536 is
1), the latest block that was not concealed, the block put out latest, the past samples of the bridge to its codec's domain, and
the samples of the codec frame under way. -/
structure AOutX where
  parts : List (Nat × Nat) := []
  gain : Nat := 65536
  last : List Int := []
  now : List Int := []
  hist : List Int := []
  frame : List Int := []
  deriving DecidableEq, Repr

/-- A conference's audio state (chapter 9). -/
structure ConfX where
  cand : List Nat := []            -- candidate set of the block now running
  talkers : List Nat := []         -- talkers chosen last, in rank order
  since : Tbl Nat := []            -- source: block from which it has been a talker
  quiet : Nat := 0                 -- blocks for which the silence condition has held
  silentAt : Nat := 0              -- block of the latest entry to SILENT
  repeats : Tbl Nat := []          -- consecutive concealed blocks: encode group, or 256 + leg for a mix-minus
  outs : Tbl AOutX := []           -- mix outputs, named as in repeats
  encs : Tbl Nat := []             -- their encoders' states (0 reset)
  quietLvl : Tbl Nat := []         -- their background level at the latest entry to SILENT, -dBFS
  wokeAt : Option Nat := none      -- block at which SILENT was last left
  deriving DecidableEq, Repr

/-- The audio side of a member leg: the conference and configuration its mix runs under, and its RTP offset. -/
structure ALegX where
  conf : Nat := 0xFFFF
  cfg : Nat := 0xFFFF
  rtpOff : Option Nat := none
  deriving DecidableEq, Repr

/-- A node of a route graph (Table 9.7). -/
structure GNode where
  ty : Nat
  dom : Nat
  p0 : Nat
  p1 : Nat
  p2 : Nat
  deriving DecidableEq, Repr

/-- An edge of a route graph (Table 9.9). -/
structure GEdge where
  src : Nat
  srcOut : Nat
  dst : Nat
  dstIn : Nat
  gain : Nat
  deriving DecidableEq, Repr

/-- A compiled program: the blob's nodes and then the bridges that Kerady inserted, its edges, the order in which the nodes
run, whether a DELAY closes a loop, its custom code, and what Kerady reports of it. -/
structure Prog where
  ramp : Bool
  nodes : List GNode
  edges : List GEdge
  order : List Nat
  loops : Bool
  code : List Nat
  cycles : Nat
  pairs : List (Nat × Nat × Nat × Nat × Nat)   -- node, sink, least and greatest latency, domain
  deriving DecidableEq, Repr

/-- The state of a node of a running program (R214, R217): past input samples, oldest first, and for a BIQUAD its past
outputs; a limiter's gain; a custom node's X and Y words; a sink's ramp after a program switch in 64ths, its latest block
(SRC_OUT: the samples of its frame under way) and its encoder's state. -/
structure NodeX where
  hist : List Int := []
  past : List Int := []
  gain : Nat := 65536
  xm : List Nat := []
  ym : List Nat := []
  up : Nat := 64
  out : List Int := []
  enc : Nat := 0
  deriving DecidableEq, Repr

/-- A route graph's two sides (R214 to R217). -/
structure GraphX where
  blob : Bytes := []               -- the staged blob
  compiled : Option Prog := none
  running : Option Prog := none    -- in force
  next : Option (Option Prog) := none   -- from the next block: a program, or none after STOP
  charge : Nat := 0                -- charge of the program that runs, or that RUN has chosen
  kept : List Nat := []            -- nodes that kept their state at the latest program switch
  nodes : Tbl NodeX := []          -- states of the running program's nodes
  ends : List (Nat × Nat) := []    -- charges of programs chosen to end, released when they stop: owner, units
  deriving DecidableEq, Repr

/-- One write of a transaction: column, element, value (a BLOB's bytes beside it). -/
structure WriteOp where
  col : Nat
  el : Nat
  val : Nat
  blob : Bytes := []
  keys : Option KeySet := none     -- INSTALL: the keys derived at acceptance (R186)
  deriving DecidableEq, Repr

/-- One operation of a request: READ or WRITE, the failure of its record if it has one (code; 0 none), its stated TYPE and
value length, and the write. -/
structure OpX where
  reads : Bool
  pre : Nat := 0
  ty : Nat := 0
  len : Nat := 0
  w : WriteOp
  deriving DecidableEq, Repr

/-- One result (Table 18.7). -/
structure OpRes where
  status : Nat
  ty : Nat
  val : Bytes := []
  deriving DecidableEq, Repr

/-- Where a RESPONSE goes: nowhere (a command with a row of its own), the RSP ring of a physical function, the session with
that device nonce, or in clear to an address (R401). -/
inductive RouteX where
  | row
  | pcie (h : Nat)
  | udp (slot dnonce : Nat)
  | clear (mg addr udp : Nat)
  deriving DecidableEq, Repr

/-- What follows the RESPONSE of the request that asked for it. -/
inductive AfterX where
  | closeSlot (h : Nat)
  | closePort (mg : Nat)
  | standby
  | reset
  | restore
  | transition (target slot : Nat) (ws : List WriteOp)
  deriving DecidableEq, Repr

/-- A request taken and not yet answered: its operations, the next of them to run, and the results so far (none: held). -/
structure ReqX where
  slot : Nat
  route : RouteX
  reqId : Nat := 0
  txn : Bool := false
  late : Bool := false             -- FIRE_LATE
  commit : Nat := 0
  output : Nat := 0
  time : Nat := 0
  ops : List OpX
  next : Nat := 0
  results : List (Option OpRes) := []
  at_ : Nat := 0                   -- cycle at which it began to wait
  after : List AfterX := []        -- what its operations leave to follow its RESPONSE
  deriving DecidableEq, Repr

/-- An immediate transaction accepted and held by a supply warning (R409): the request it belongs to (none: the device's
own write) and which of its operations it is (none: all). -/
structure HeldX where
  slot : Nat
  req : Option Nat := none
  idx : Option Nat := none
  ops : List OpX
  reserved : Tbl Nat := []         -- charges reserved (R57): 4 * partition + resource
  deriving DecidableEq, Repr

/-- A pending deferred transaction (R407). -/
structure PTxn where
  slot : Nat
  reqId : Nat
  commit : Nat                     -- 1 to 3 (Table 18.8)
  output : Nat                     -- COMMIT 2
  due : Nat                        -- COMMIT 1 and 2: grid index of the tick; COMMIT 3: local time T, 2^-16 ns
  writes : List WriteOp
  reserved : Tbl Nat := []         -- charges reserved (R57): 4 * partition + resource
  deriving DecidableEq, Repr

/-- Audio (chapter 9). -/
structure AudX where
  srcs : Tbl ASrcX := []
  decs : Tbl ADecX := []           -- 4 * source + domain
  confs : Tbl ConfX := []
  legs : Tbl ALegX := []
  graphs : Tbl GraphX := []
  deriving DecidableEq, Repr

/-- A ring of a physical function (R396, Table 18.9). -/
structure RingX where
  base : Nat := 0
  size : Nat := 65536
  head : Nat := 0
  tail : Nat := 0
  vector : Nat := 0
  enable : Bool := false
  shadow : Nat := 0
  deriving DecidableEq, Repr

/-- A UDP session of a slot, PENDING or OPEN (R398, R399). -/
structure SessX where
  port : Nat
  addr : Nat
  udp : Nat
  devUdp : Nat                     -- the UDP_PORT it was set up on
  hnonce : Nat
  dnonce : Nat
  rxKey : Bytes                    -- host to device
  txKey : Bytes                    -- device to host
  tx : Nat                         -- next device-to-host counter
  rx : Option Nat                  -- last host counter accepted
  fails : Nat                      -- tag failures while PENDING
  atC : Nat                        -- cycle of its HELLO, or of the latest valid frame once OPEN
  warnedTx : Bool := false         -- SESSION_REKEY_WARN raised for the sending counter
  warnedRx : Bool := false         -- and for the receiving one
  replies : List (Nat × Bytes)     -- the last 16 REQ_IDs with their RESPONSE bodies, newest first
  deriving DecidableEq, Repr

/-- A host slot's routes (chapter 18). -/
structure HostX where
  open_ : Option SessX := none
  pend : Option SessX := none
  rings : Tbl RingX := []          -- rings 0 to 3 of its physical function
  unread : Bytes := []             -- REQUEST frames announced and not yet taken
  held : List Bytes := []          -- RESPONSE frames that wait for room in the RSP ring
  evSel : Nat := 0
  errAt : List Nat := []           -- cycles of the E_AUTH answers of the last second, newest first
  deriving DecidableEq, Repr

/-- The control processor (chapter 18). -/
structure CtlX where
  hosts : Tbl HostX := []
  helloAt : Tbl (List Nat) := []   -- per MG port: cycles of the refused HELLOs answered within the last second
  deferred : List PTxn := []       -- acceptance order
  bootHalt : Bool := false         -- the boot ROM found no bootable image and waits to retry (R430)
  mramHold : Bool := false         -- a supply warning holds MRAM writes (R409, R424)
  reqs : Tbl (Option ReqX) := []   -- requests taken and not answered
  nextReq : Nat := 0
  held : List HeldX := []          -- accepted, waiting for the end of a supply warning (R409), oldest first
  waiting : List Nat := []         -- requests waiting for a lock of one of those (R405), oldest first
  after : List AfterX := []        -- due once the RESPONSE in hand is sent
  trial : Bool := false            -- a deferred transaction is being admitted: releases free nothing yet (R57)
  credit : Tbl Nat := []           -- reserved charges of the transaction now being applied
  deriving DecidableEq, Repr

/-- What is in force at an audio port from an instant on: its STATE, masks, and for an AES3 output the channel status of A and
B and the user bits. For a clock output: MCLK_MODE, RATE and WCLK_ON in st, rx and tx. -/
structure SegX where
  at_ : Nat                        -- local clock, 2^-16 ns
  st : Nat
  rx : Nat
  tx : Nat
  csA : Nat := 0
  csB : Nat := 0
  user : Nat := 0
  deriving DecidableEq, Repr

/-- An audio port beside its objects (R227 to R244): 0-15 SAPn, 16-23 AESIa, 24-31 AESOa. -/
structure PortX where
  m0 : Nat := 0                    -- master: grid index of frame 0
  postAt : Nat := 0                -- FRAME at which post-roll began
  rx : Nat := 0                    -- masks in force
  tx : Nat := 0
  maskPend : Bool := false         -- a mask committed and not yet applied
  maskAt : Nat := 0                -- frame of its commit
  fromOff : Bool := true           -- ACQUIRE was entered from OFF
  acqAt : Nat := 0                 -- cycle at which acquisition began
  lostAt : Nat := 0                -- cycle at which the clock was lost, or the rate moved
  lossMs : Nat := 0                -- duration of the loss
  fsAt : Option Nat := none        -- cycle of the latest AUD_FS_ERR
  rangeHeld : Bool := false        -- AUD_RATE_RANGE raised in this episode
  csAt : Option Nat := none        -- cycle of the latest AES_CS_CHANGED
  segs : List SegX := []           -- what has been in force, newest first, back to the latest block tick
  lastTx : Nat := 0                -- output mask of the latest frame
  ups : Tbl Nat := []              -- output slots: frames since each was enabled, at most 64
  runUp : Nat := 64                -- ramp after a lost clock or a rate change, in 64ths
  fade : Option (Nat × Option Nat) := none   -- 48 kHz index at which inputs began to fade, and at which they return
  prevIn : List Int := []          -- slots of the latest frame received
  inHist : Tbl (List Int) := []    -- input of the rate converter by slot, the latest 320 samples, newest first
  histAt : List Nat := []          -- their times, 2^-16 ns
  inRing : List (Nat × Bytes) := []    -- the rings (R230): block and its packed frames, newest first
  outRing : List (Nat × Bytes) := []
  lateRep : Nat := 0               -- consecutive output blocks concealed
  lastOut : Bytes := []            -- the latest output block that was not
  cs : Option (Nat × Nat × Nat) := none    -- AES3 output: channel status A, B and user bits of the block under way
  frames : Nat := 0                -- frames since ENABLE = 1
  preAt : Nat := 0                 -- FRAME at which pre-roll began
  was : Nat := 0                   -- STATE up to the frame at which post-roll begins
  pins : List PinBit := []         -- slave SAP: bit clocks since the latest frame start
  fsWas : Option Bool := none      -- slave SAP: FS at the latest bit clock
  inFrame : Bool := false          -- slave SAP: `pins` begins with a frame start
  starts : List Nat := []          -- tracked: the latest frame starts, newest first, at most 9, 2^-16 ns
  ests : List Nat := []            -- tracked: the ratio measured in each of the latest blocks, newest first, at most 10
  spaced : Nat := 0                -- AES3 input: consecutive frames with correct preamble spacing, at most 3
  inBlock : Option Nat := none     -- AES3 input: frames since the latest Z preamble
  csNow : Nat × Nat × Nat × Nat := (0, 0, 0, 0)   -- AES3 input: channel status A, B and user bits A, B of the block under way
  blocks : List (Option (Nat × Nat × Nat × Nat)) := []   -- AES3 input: blocks ended and not yet latched, none broken, oldest first
  asrc : Nat := 0                  -- STATE, RATIO and DELAY of its ASRC
  ratio : Nat := 0
  delay : Nat := 0
  deriving DecidableEq, Repr

/-- A playing override stream (R347): the byte offset of the record to play next, loops completed, pictures started,
and the time of the record played last. -/
structure PlayX where
  next : Nat
  loops : Nat
  pics : Nat
  last : Option Nat
  deriving DecidableEq, Repr

/-- The override (R345 to R348). -/
structure RosX where
  at_ : Option Nat := none         -- local ns of E while engaged
  ended : Option Nat := none       -- local ns of D of the latest release
  spans : List (Nat × Option Nat) := []   -- engagements whose announcement has not ended: local ns of E and of D
  annOn : Bool := false            -- the announcement is in the mixes
  annFrom : Nat := 0               -- block from which it is
  duckEnd : Option Nat := none     -- block from which the duck is released
  playing : Bool := false
  play : Tbl (Option PlayX) := []  -- entries playing
  subs : Tbl (Option Nat) := []    -- subscriptions on an override stream: its entry
  data : Tbl Bytes := []           -- the bytes of the store's entries
  pinHigh : Bool := false          -- SAFETY_N has been high for 10 ms
  deriving DecidableEq, Repr

/-- A work item in flight (R272 to R283). -/
structure ItemX where
  ssn : Nat
  desc : Bytes                     -- its descriptor, 192 bytes
  wait : List Nat                  -- handles not yet satisfied, each once; the counter is their number
  missing : Nat := 0               -- MISSING mask
  phase : Nat := 0                 -- 0 waiting, 1 ready, 2 running
  core : Nat := 0xFF
  excluded : List Nat := []
  at_ : Nat := 0                   -- cycle of its latest dispatch
  doomed : Bool := false           -- its core is retired in this cycle
  overBy : Option Nat := none      -- core on which it overran its first time
  shmErr : List Nat := []          -- shared words whose parity errors have re-dispatched it
  graph : Nat := 0                 -- of a custom node's item: its graph and node
  node : Nat := 0
  pkts : List Nat := []            -- packets of the store that its input windows name (R280)
  egress : Nat := 0                -- bytes of the store for outputs that become packets
  deriving DecidableEq, Repr

/-- A core's registers and private memories (Tables 11.1 and 11.2), its write buffer and what it has stored. -/
structure CoreR where
  d : List Nat := List.replicate 16 0   -- 16 of 32 bits
  x : List Nat := List.replicate 8 0
  y : List Nat := List.replicate 8 0
  m : List Nat := List.replicate 8 0
  lc : Nat := 0
  acc : List Int := List.replicate 4 0
  cacc : List (Int × Int) := List.replicate 2 (0, 0)
  sat : Bool := false
  ovf : Bool := false
  pc : Nat := 0
  xm : Tbl Nat := []               -- X and Y memories, by word
  ym : Tbl Nat := []
  rep : Option Nat := none         -- executions of the repeated bundle still due
  buf : List (Nat × Nat) := []     -- write buffer, oldest first: shared word and value
  drained : List (Nat × Nat) := [] -- while an item runs: stores that have left the buffer, in issue order
  cycles : Nat := 0
  ready : List (Nat × Nat) := []   -- destinations of lds and the cycle at which their data arrives
  deriving DecidableEq, Repr

/-- A core's rolling counts (R267) and what is loaded in it. -/
structure CoreX where
  iAt : List Nat := []             -- cycles of the errors of the last 24 h, newest first
  xyAt : List Nat := []
  overAt : List Nat := []
  faultAt : List Nat := []
  resident : Nat := 0              -- custom code image in the custom region, HBM address in 64-byte units; 0 none
  im : Tbl Nat := []               -- bundles of the custom region, from bundle 6,144
  regs : CoreR := {}
  deriving DecidableEq, Repr

/-- A cluster: shared-memory error counts and the cycle of its latest work. -/
structure CluX where
  shmAt : List Nat := []
  workAt : Nat := 0
  deriving DecidableEq, Repr

/-- The task scheduler (chapter 12) and the cores (chapter 11). -/
structure SchX where
  items : List ItemX := []         -- in submission order
  held : List ItemX := []          -- submission queue of the control processor
  outcome : Tbl Nat := []          -- of the last 2^20 SSNs: 1 committed, 2 abandoned
  given : Nat := 0                 -- descriptors accepted since reset
  ticks : Tbl Nat := []            -- per stream: 1 + number of the latest tick posted
  skips : Tbl (List (Nat × Nat)) := []   -- per stream: ticks posted as SKIPPED, as (number after the last, how many)
  abandonAt : Option Nat := none   -- cycle of the latest SCHED_ABANDON
  trcLost : Nat := 0               -- records lost since the latest one written
  cores : Tbl CoreX := []
  clus : Tbl CluX := []
  deriving DecidableEq, Repr

/-- How a layer is drawn into an output (R334 to R340): its crop and its destination as x, y, width, height, the filter (R336;
3 the Rosette layer's scaler, 4 bypassed), ALPHA, how its input is read and how it is mapped (Config.converted). -/
structure Draw where
  crop : Nat × Nat × Nat × Nat
  dst : Nat × Nat × Nat × Nat
  filter : Nat
  alpha : Nat
  read : List Nat
  tone : List Nat
  deriving DecidableEq, Repr

/-- What a picture shows, as a recipe: the n-th picture decoded (its depth; whether written at 10 bits; 4:0:0); mid-grey; one
colour laid out as BG; a Rosette image; the background of an output; a layer over what lies below it; the frame of an output,
with its OUT_PRIM and DEPTH; a picture brought to the size and depth that an encode session codes; a decoded picture whose
concealed areas show the previous one, of a size and depth, at the same place (R299). -/
inductive Pix where
  | decoded (n depth : Nat) (up mono : Bool)
  | grey (depth : Nat)
  | flat (c : Nat)
  | image (w h : Nat) (bytes : Bytes)
  | ground (c : Nat) (tone : List Nat)
  | over (below src : Pix) (l : Draw)
  | frame (src : Pix) (prim depth : Nat)
  | coded (src : Pix) (sw sh din w h dout : Nat)
  | patched (below prev : Pix) (pw ph din dout : Nat) (areas : List (Nat × Nat × Nat × Nat))
  deriving DecidableEq, Repr

/-- A complete output picture in a buffer: which of its session's (or output's) it is, its descriptor (Table 13.4), and
the static metadata passed with it (R304): mastering display colour volume and content light level. -/
structure PicX where
  id : Nat
  desc : Bytes
  mdcv : List Nat := []
  cll : List Nat := []
  pix : Pix := .grey 8             -- its samples
  deriving DecidableEq, Repr

/-- A ready picture (R294): its time-stamp, layer, packets, what its headers say, how far below the top layer those lie that are missing, packets lost,
and whether its descriptors mark a splice point picture or refresh start after a sweep (SP). -/
structure ReadyX where
  ts : Nat
  layer : Nat
  pkts : List Nat
  info : PicInfo
  lower : List Nat
  lost : Nat
  sp : Bool := false
  deriving DecidableEq, Repr

/-- A picture in decode: its start, the cores used, whether a reference was substituted, whether it is tainted, whether it holds
its output buffer and where that lies (luma, chroma, stride), for each split unit the core that decodes it, for each unit that
begins another core's part the core that filters across the boundary (R296), and substitutes for lower layers. -/
structure CurX where
  pic : ReadyX
  at_ : Nat
  cores : List Nat
  missing : Bool
  taint : Bool
  held : Bool := true
  luma : Nat := 0
  chroma : Nat := 0
  stride : Nat := 0
  split : List Nat := []
  edges : List (Nat × Nat) := []
  subs : List PicX := []
  deriving DecidableEq, Repr

/-- A decode session beside its objects (chapter 13). -/
structure DecX where
  buf : List Nat := []             -- reorder buffer: packet numbers
  lastTs : Option Nat := none      -- time-stamp of the latest picture that became ready
  lastSeq : Option Nat := none     -- its last packet
  ready : List ReadyX := []
  cur : Option CurX := none
  slots : Tbl (Option PicX) := []  -- reference slots held
  latest : Option PicX := none
  outAt : Option Nat := none       -- cycle of its output, and what was the latest before that cycle
  before : Option PicX := none
  read : List PicX := []           -- earlier output pictures that a DMA channel reads
  count : Nat := 0                 -- pictures output
  params : Bool := false           -- parameter sets or a sequence header are known
  started : Bool := false          -- past WAIT_RAP
  recoverAt : Option Nat := none   -- end of the recovery period under way
  spLeft : Nat := 0                -- SP frames until the taint of a device-produced source ends (R316)
  late : Bool := false             -- START_MS has passed without a random access point
  gone : Bool := false             -- its source was deleted
  openAt : Nat := 0
  reqAt : Option Nat := none       -- cycle of its latest refresh request
  unsupAt : Option Nat := none
  abanAt : Option Nat := none
  deriving DecidableEq, Repr

/-- A layer picture being coded (R312, R323): layer, budget, repayment, first QP, descriptor fields, and its fate:
0 in progress, 1 complete, 2 dropped. -/
structure LPic where
  s : Nat
  budget : Nat
  repay : Int
  qp0 : Nat
  tref : Nat
  sref : Bool
  start : Bool                     -- refresh start
  sp : Bool
  skip : Bool := false             -- dropped in a spliceable session: coded as skip (R324)
  fate : Nat := 0
  excess : Nat := 0
  cols : Nat × Nat := (0, 0)       -- CTU columns coded as intra by the sweep, from the first up to the second (R316)
  split : List Nat := []           -- core of each CTU column, or in wavefront mode of each CTU row (R320); empty on one core
  lag : Nat := 0                   -- CTUs that a wavefront row stays behind the row above
  edges : List (Nat × Nat) := []   -- tile boundaries, each with the core that filters across it
  pix : Option Pix := none         -- the samples coded (R321); none in an all-skip picture
  deriving DecidableEq, Repr

/-- A picture being coded: its tick, temporal id, what kind it is, and the values it started with (R326). -/
structure EPic where
  n : Nat
  at_ : Nat
  t : Nat
  key : Bool
  splice : Bool
  repeat_ : Bool
  flat : Bool
  qpMin : Nat
  qpMax : Nat
  cores : List Nat
  layers : List LPic
  alone : Bool                     -- its cores held no other picture at its tick
  stored : Bool := false
  waiting : Bool := false          -- reads the HBM copy of an output, and starts at its last line (R321)
  colour : List Nat := []          -- copied from the input (R321): primaries, transfer, matrix, range
  mdcv : List Nat := []            -- and its static metadata
  cll : List Nat := []
  deriving DecidableEq, Repr

/-- The latest coded picture of a layer (s, t), for qp0 (R323). -/
structure QpX where
  qp : Nat
  excess : Bool
  low : Bool
  deriving DecidableEq, Repr

/-- A spatial layer of an encode session: the latest coded picture of each temporal id, what qp0 comes from, and its
sweep (R316): position, or none while the next sweep waits for a temporal-id-0 picture. -/
structure LEnc where
  coded : Tbl Nat := []            -- temporal id: 1 + n
  qp : Tbl (Option QpX) := []
  pos : Option Nat := none
  swept : Bool := false            -- a sweep has completed and no refresh start has shown it
  deriving DecidableEq, Repr

/-- What the headers of the latest coded layer picture say (R310, R312, R318, R323): level, NAL unit type (HEVC), base QP and the
delta of every row by tile, with its mode, on the codec's own scale; columns coded as intra. -/
structure HeadX where
  n : Nat
  level : Nat
  nal : Nat
  base : Nat
  rows : List (List (Nat × Int))
  cols : Nat × Nat
  deriving DecidableEq, Repr

/-- An encode session beside its objects (chapter 14). -/
structure EncX where
  pics : List EPic := []           -- in progress, in tick order
  lays : Tbl LEnc := []
  window : Nat := 0
  keyNext : Bool := true           -- the next picture, or after a loss the next temporal-id-0 picture, is a key picture
  keyT0 : Bool := false
  input : Option (Nat × PicX) := none   -- latched picture: session or 32,768 + output
  coded : Option Nat := none       -- input picture coded last: its id, or the tick of the output's frame
  lost : Bool := false             -- VE_INPUT_LOST raised
  inline : Bool := false           -- the session that takes its output inline (R321)
  heads : Tbl (Option HeadX) := [] -- spatial layer: its latest coded picture's headers
  lateAt : Option Nat := none
  deriving DecidableEq, Repr

/-- A layer of a composition output (R334, R338, R340). -/
structure LayX where
  src : Nat × Nat := (0, 0)        -- KIND and SRC at the latest tick
  pic : Option PicX := none        -- latched
  good : Option PicX := none       -- the last it showed from its source
  p : Option Nat := none           -- layer.p, cd/m²
  peak : Nat := 0                  -- peak of R340 at the latest tick
  shortAt : Option Nat := none
  deriving DecidableEq, Repr

/-- A composition output beside its objects (chapter 15). -/
structure OutX where
  layers : Tbl LayX := []
  busy : Option (Nat × Nat) := none     -- frame in progress: its tick and the cycle of it
  counted : Bool := false          -- counted in LATE
  latest : Option PicX := none
  count : Nat := 0
  rosette : Option Nat := none     -- store entry that the Rosette layer shows; 256 DEFAULT_FILL
  draft : Pix := .grey 8           -- what the frame in progress will show
  colours : Nat × Nat × Nat := (0, 0, 0)   -- OUT_TF, OUT_PRIM and OUT_PEAK of that frame
  resumeAt : Nat := 0              -- cycle from which it runs after a move
  deriving DecidableEq, Repr

/-- Errors of a codec core or compositor within 24 h: cycles, newest first. -/
structure UnitX where
  memAt : List Nat := []           -- uncorrectable internal memory errors
  faultAt : List Nat := []         -- window faults; pictures or frames past their time
  deriving DecidableEq, Repr

/-- Video (chapters 13 to 15). -/
structure VidX where
  dec : Tbl DecX := []
  queue : List Nat := []           -- sessions in the order in which their waiting pictures became ready
  enc : Tbl EncX := []
  out : Tbl OutX := []
  vds : Tbl UnitX := []
  ves : Tbl UnitX := []
  cmps : Tbl UnitX := []
  retired : List (Nat × Nat) := [] -- units retired in this cycle: 1 decode core, 2 encode core, 3 compositor
  deriving DecidableEq, Repr

/-- An entry parked in a port arbiter (R377). -/
structure ParkX where
  req : Nat
  mover : Option Nat               -- the DMA mover that made it
  since : Nat
  write : Bool
  bank : Nat
  row : Nat
  deriving DecidableEq, Repr

/-- A request in a controller's queues (R356). -/
structure CtlReq where
  write : Bool
  bank : Nat
  row : Nat
  deriving DecidableEq, Repr

/-- A pseudo-channel's bank: its open row and its row table of at most 16 entries, lowest index first (R359). -/
structure BankX where
  row : Option Nat := none
  raa : Nat := 0                   -- rolling activate count (R358)
  rows : List (Nat × Nat) := []    -- row, count
  hits : Nat := 0                  -- requests issued in a row to the open row past older ones (R356)
  before : Nat := 0                -- in-order mode (R357): writes queued before it began and not yet issued; 0 not in it
  deriving DecidableEq, Repr

/-- A pseudo-channel and its port (chapters 16 and 17). -/
structure PcX where
  parked : List ParkX := []        -- arrival order
  last : Nat := 23                 -- requester granted last
  waits : List ParkX := []         -- requests held at their requesters, which have four parked (R377)
  grantAt : Option Nat := none     -- cycle of the latest grant
  queue : List CtlReq := []          -- the controller's reads and writes, arrival order (R356)
  drain : Bool := false
  capoAt : Nat := 0                -- cycle of the commit of CAPO = 1
  capoBy : Option Nat := none      -- host that wrote it
  banks : Tbl BankX := []
  ueAt : List Nat := []            -- cycles of the UE counts of the last 24 h, newest first
  ceHour : Nat × Nat := (0, 0)     -- hour now counted and its corrected words
  rdTh : Nat := 4096               -- RD_TH of the refresh window now running
  winAt : Nat := 0                 -- cycle at which the refresh window now running began
  trackAt : Option Nat := none     -- cycle of its latest tracking pass since self-refresh
  deriving DecidableEq, Repr

/-- The memory subsystem beside its objects. HBM bytes by logical address; an unlisted byte reads 0, as a wipe leaves it
(R373). Shared memory of cluster c at c * 2^20. -/
structure MemX where
  hbm : Tbl Byte := []
  shm : Tbl Byte := []
  poison : List Nat := []          -- poisoned 8-byte words, by address / 8
  repair : List Nat := []          -- granules queued for repair, oldest first
  pcs : Tbl PcX := []
  selfRefresh : Bool := false
  hbmAt : Nat := 0                 -- cycle of the latest HBM access made in IDLE
  scrubPass : Nat := 24            -- SCRUB_HOURS of the patrol pass now running
  scrubPos : Nat := 0              -- granule that the patrol reads next
  pool : Tbl Nat := []             -- pool bytes allocated (R354): 2^20 * kind + entry; 0 leg, 1 decode, 2 encode, 3 output
  deriving DecidableEq, Repr

/-- A DMA channel beside its objects (R380 to R386). -/
structure DmaX where
  desc : Bytes := []               -- the descriptor it is on; empty without one
  seq : Nat := 0
  mover : Option Nat := none
  part : Option Nat := none        -- part whose power-down waits for its boundary, or for which it is paused
  stopping : Bool := false
  next : Option Nat := none        -- address of the descriptor it has still to fetch
  undef : Bool := false            -- DISABLE left its counts undefined until the next START
  deriving DecidableEq, Repr

/-- Power, reset and life-cycle state beside the objects (chapter 19). -/
structure PwrX where
  part : Tbl Nat := []             -- state of a domain (its bit of DOMAINS) or gated part (16 + cluster, 32 + decode core,
                                   -- 48 + encode core, 64 + compositor): 0 OFF, 1 WAKING, 2 ON, 3 DRAINING, 4 CLOCK_GATED
  usedAt : Nat := 0                -- cycle at which a DSP, VDEC, VENC or COMP unit was last taken or given back
  dips : Tbl (Nat × Nat) := []     -- supplies below warning: 1 + cycle of the first sample, least mV
  sampleAt : Nat := 0              -- cycle of the latest life sample and of the latest life write
  lifeAt : Nat := 0
  minutes : Nat := 0               -- minutes not yet written: powered, stacks hot, and per bin of TJ_HIST
  hotMin : Nat := 0
  binMin : Tbl Nat := []
  lo : Option Int := none          -- lo of R441
  warned : Bool := false           -- THERM_WARN and THERM_LIMIT raised and not yet 5 °C below
  limited : Bool := false
  floor : Nat := 0                 -- anti-rollback floor (R429)
  words : List (Nat × Nat) := []   -- MRAM words written in the last hour: cycle, words; newest first
  budgetAt : Option Nat := none    -- cycle of the latest MRAM_BUDGET
  retryAt : Nat := 0               -- cycle of the boot ROM's latest try
  resetAt : Nat := 0               -- cycle of the latest reset
  provEn : Bool := false           -- PROV_EN at the latest release of PORST_N
  toIdle : Bool := false           -- IDLE or STANDBY entered once every part has drained
  toStandby : Bool := false
  waking : Option Nat := none      -- STANDBY left with no bootable image: the wake source, else none
  journal : List WriteOp := []     -- writes of a life-cycle transition, due at step 9 of its reset (R435)
  bootCause : Nat := 0             -- cause of the reset that the boot ROM retries
  deriving DecidableEq, Repr

/-- What the block emits or answers, in the model's own record of it (newest first in State.out). -/
inductive Emission where
  /-- The status answered to a host's operation. -/
  | status (slot : Nat) (st : Nat)
  /-- A value read by a host's operation. -/
  | value (slot : Nat) (bytes : Bytes)
  /-- A pulse on TOUTn: leading edge and end in 2^-16 ns. -/
  | pulse (n : Nat) (edge fall : Int)
  /-- A Delay_Req on PTP port p. -/
  | delayReq (p seqId : Nat)
  /-- Unicast negotiation requests to a grantor (G.8275.2): Announce, Sync at the log2 interval asked for, Delay_Resp. -/
  | unicastRequest (p grantor : Nat) (sync : Int)
  /-- A copy handed to the MAC of a logical port, with its DSCP and ECN, and the IP header that carries them. -/
  | wire (port dscp ecn : Nat) (ip : Bytes) (copy : CopyX)
  /-- A Fret frame sent on port f: the Ethernet frame that carries the message, without its FCS. -/
  | fret (f : Nat) (frame : Bytes)
  /-- A posted write to the memory of PFh's host. -/
  | hostWrite (h addr : Nat) (bytes : Bytes)
  /-- A mix output of audio block `block`: of a conference's encode group, of a private leg (256 + leg), or of its CONF_MIX
  nodes (255 + 1 + 2^17 + 1): the talkers and CONF_IN nodes (256 * graph + node) summed, whether the announcement is added,
  how many consecutive repeats replace it, and its 24-bit samples (R208 to R212, R221). -/
  | mixOut (conf who block : Nat) (talkers beds : List Nat) (announce : Bool) (repeats : Nat) (samples : List Int)
  /-- A frame of serial audio port n: the levels of FS per bit clock (a master's), the bit clocks between its edge and the first
  data bit, whether the lines are driven on the falling edge of BCLK, and DOUT per bit, none where high-impedance. -/
  | sapFrame (n : Nat) (fs : List Bool) (delay : Nat) (falling : Bool) (dout : List (Option Bool))
  /-- A frame of AES3 output a: whether it begins a block with preamble Z, and time slots 4 to 31 of subframes A and B. -/
  | aesFrame (a : Nat) (z : Bool) (subA subB : Nat)
  /-- The levels that SAPn takes where it sends no frames: BCLK and FS of a master, and DOUT (none high-impedance). -/
  | sapLevels (n : Nat) (clocks : Option (Bool × Bool)) (dout : Option Bool)
  /-- A DATA frame on port f: the Ethernet and DATA headers before the packet, and the packet in it. -/
  | fretData (f : Nat) (header : Bytes) (copy : CopyX)
  /-- A Xaras frame sent on MG port mg: VLAN tag and next hop, and the datagram's destination. -/
  | xaras (mg : Nat) (path : Nat × Nat) (addr udp : Nat) (frame : Bytes)
  /-- A punted frame sent by UDP on MG port mg: header and frame. -/
  | punted (mg : Nat) (path : Nat × Nat) (addr udp : Nat) (bytes : Bytes)
  /-- An MSI-X message of PFh. -/
  | msix (h vector : Nat)
  /-- XSPI_RST_N driven low for `ns`, before the first command of a reset (R469). -/
  | xspiReset (ns : Nat)
  /-- The boot flash's SFDP read in 1S-1S-1S mode at up to `mhz` (R428, R469). -/
  | xspiSfdp (mhz : Nat)
  /-- n bytes of the boot flash read in 8D-8D-8D mode at up to `mhz`, from an address. -/
  | xspiRead (mhz addr n : Nat)
  /-- What a read of the bulk window returns to PFh. -/
  | window (h : Nat) (bytes : Bytes)
  deriving DecidableEq, Repr

/-- The state. -/
structure State where
  od : Tbl (Tbl Nat) := []         -- object store: column (index * 256 + subindex), element, value
  clk : Nat := 0                   -- local clock (R61), 2^-16 ns since the TAI epoch
  clkRem : Nat := 0                -- remainder of the frequency adjustment, 10^-12 of 2^-16 ns
  phys : Nat := 0                  -- free-running count of 1.6 GHz cycles (the model's own)
  draws : Nat := 0                 -- free values drawn (the model's own)
  pending : List Instr := []       -- commands waiting, first in first out
  out : List Emission := []        -- what the block emitted, newest first (the model's own record)
  ev : EvX := {}
  ctl : CtlX := {}
  tim : TimeX := {}
  cip : CipX := {}
  egr : EgrX := {}
  fret : FretX := {}
  fwd : FwdX := {}
  ing : IngX := {}
  aud : AudX := {}
  ports : Tbl PortX := []
  vid : VidX := {}
  ros : RosX := {}
  sch : SchX := {}
  mem : MemX := {}
  dma : Tbl DmaX := []
  pwr : PwrX := {}
  deriving DecidableEq, Repr

/-- The block after a power-on reset (R426, R427, Table 19.10) with every unit passing self-test and every pseudo-channel
trained: IDLE, the HBM stacks in self-refresh, and the records that the reset wrote. Objects not listed hold their
Default. -/
def State.reset : State :=
  let trained : EvRec := { time := 0, code := Ev.HBM_TRAINED, unit := 0, hosts := 1, severity := 0, seq := 1, args := 64 }
  let reset : EvRec := { time := 0, code := Ev.DEVICE_RESET, unit := 0, hosts := 1, severity := 0, seq := 2, args := 0 }
  { od := [(Pwr.PSTATE, [(0, 1)]), (Pwr.DOMAINS, [(0, 0x300)]), (Pc.SOURCE, (List.range 64).map (fun i => (i, 2)))]
    draws := 1
    ev :=
      { seq := 2
        ring := [reset, trained]
        waiting := [(0, [(trained, 0), (reset, 0)])] }
    cip := { ick := (Config.freeWord 256 0).toNat }
    mem := { selfRefresh := true }
    pwr := { part := [(8, 2), (9, 2)] } }

end Sys2Proof.Machine
end

