-- ==== Sys2Proof/Machine/Ops.lean ====
section
/-! DEFINITION. The operations every chapter shares: reading and writing objects, time, free values, event records,
and the checks and answer of one host operation. -/

namespace Sys2Proof.Machine

/-- What a command answers in this model. -/
abbrev Out := Host.Outcome State Fault Refusal

/-! Objects. -/

/-- The stored rows of a column. -/
def State.column (s : State) (col : Nat) : Tbl Nat := Tbl.get [] s.od col

/-- The stored value of an object: column (index * 256 + subindex) and element. -/
def State.rd (s : State) (col el : Nat) : Nat := Tbl.get (dflt col el) (s.column col) el

/-- Store a value. -/
def State.wr (s : State) (col el v : Nat) : State :=
  { s with od := Tbl.set [] s.od col (Tbl.set (dflt col el) (s.column col) el v) }

/-- The row of a column. -/
def colRow (col : Nat) : Option ObjRow := objRow (col / 256) (col % 256)

/-- The width in bits of a column's values. -/
def colBits (col : Nat) : Nat := match colRow col with | some r => 8 * r.ty.size | none => 0

/-- The stored value of a signed object. -/
def State.rdI (s : State) (col el : Nat) : Int := toInt (colBits col) (s.rd col el)

/-- Store a signed value, saturated at the limits of the object's width. -/
def State.wrI (s : State) (col el : Nat) (i : Int) : State := s.wr col el (ofInt (colBits col) (satInt (colBits col) i))

/-- Is a flag or BOOL object set? -/
def State.on (s : State) (col el : Nat) : Bool := s.rd col el != 0

/-- Add to a counter, which wraps at its width (R413). -/
def State.bump (s : State) (col el : Nat) (n : Nat := 1) : State := s.wr col el ((s.rd col el + n) % 2 ^ colBits col)

/-- Take from a count, stopping at 0. -/
def State.drop (s : State) (col el n : Nat) : State := s.wr col el (s.rd col el - n)

/-- Return every object of an index's element to its Default. -/
def State.clearEl (s : State) (ix el : Nat) : State :=
  ((s.od.map (·.1)).filter (fun c => c / 256 = ix)).foldl (fun s c => s.wr c el (dflt c el)) s

/-- The object store with the columns that satisfy p alone. -/
def State.keepCols (s : State) (p : Nat → Bool) : Tbl (Tbl Nat) :=
  ((s.od.map (·.1)).filter p).foldl (fun o c => Tbl.set [] o c (s.column c)) []

/-- The elements whose stored value of a column is v (v not the Default). -/
def State.elemsWith (s : State) (col v : Nat) : List Nat := Tbl.keysWhere (s.column col) (fun _ x => x == v)

/-! Free values and what the block emits. -/

/-- The next free value, w bits wide. -/
def State.draw (s : State) (w : Nat) : Nat × State :=
  ((Config.freeWord w s.draws).toNat, { s with draws := s.draws + 1 })

/-- Record an emission. -/
def State.emit (s : State) (e : Emission) : State := { s with out := e :: s.out }

/-! Time. The local clock counts 2^-16 ns (R61); durations inside the block count 1.6 GHz cycles. -/

/-- One nanosecond, microsecond and second of the local clock. -/
abbrev nsU : Nat := 65536
abbrev usU : Nat := 65536000
abbrev secU : Nat := 65536000000000
/-- The local clock's seconds wrap at 2^48 (R61). -/
abbrev clockWrap : Nat := 2 ^ 48 * secU
/-- Cycles of 0.625 ns in a microsecond, a millisecond and a second. -/
abbrev cycUs : Nat := 1600
abbrev cycMs : Nat := 1600000
abbrev cycS : Nat := 1600000000

/-- TIME80 of a local time (R7): [79:32] seconds, [29:0] nanoseconds; the fraction is not carried. -/
def time80 (t : Nat) : Nat := (t / secU % 2 ^ 48) * 2 ^ 32 + t / nsU % 1000000000

/-- The local time that a TIME80 value names. -/
def ofTime80 (v : Nat) : Nat := v / 2 ^ 32 * secU + (v % 2 ^ 30) * nsU

/-- Local time in whole nanoseconds since the TAI epoch (R74). -/
def State.ns (s : State) : Nat := s.clk / nsU

/-- Local time in TIME80. -/
def State.now80 (s : State) : Nat := time80 s.clk

/-- The frequency adjustment in force, 10^-12 (R62). -/
def State.freqAdj (s : State) : Int := s.rdI Clk.FREQ_ADJ 0

/-- In STANDBY the local clock stands still (R79). -/
def State.standby (s : State) : Bool := s.rd Pwr.PSTATE 0 == 2

/-- One 1.6 GHz cycle passes (R61): 0.625 ns, stretched by the frequency adjustment; the remainder is carried. -/
def idle (s : State) : State :=
  if s.standby then { s with phys := s.phys + 1 }
  else
    let a := (40960 * (10 ^ 12 + s.freqAdj)).toNat + s.clkRem
    { s with phys := s.phys + 1, clk := (s.clk + a / 10 ^ 12) % clockWrap, clkRem := a % 10 ^ 12 }

/-- Cycles that have passed since a cycle. -/
def State.since (s : State) (c : Nat) : Nat := s.phys - c

/-- Is the control processor running: not in STANDBY (R415) and not waiting in the boot ROM (R430)? -/
def State.running (s : State) : Bool := !s.standby && !s.ctl.bootHalt

/-- A command whose effect needs the control domain; while that is off or still booting, nothing happens. -/
def live (f : State → State) (s : State) : Out := .next (if s.running then f s else s)

/-! Events (R16, R452, R454). -/

/-- The hosts byte of an event told to the PLATFORM host, and to every host. -/
abbrev toPlatform : Nat := 1
abbrev toAll : Nat := 0xFF
/-- The hosts byte of an event told to one slot. -/
def toSlot (h : Nat) : Nat := 2 ^ h % 256
/-- The hosts byte of an event told to one slot and the PLATFORM host. -/
def toSlotAnd0 (h : Nat) : Nat := if h = 0 then 1 else (1 + 2 ^ h) % 256

/-- Append a record to the HBM ring of 65,536 records, overwriting the oldest. -/
def EvX.toRing (e : EvX) (r : EvRec) : EvX := { e with ring := (r :: e.ring).take 65536 }

/-- Is a record of this code always written to the MRAM log, outside the rate limit (R16)? -/
def alwaysLogged (code : Nat) : Bool := code == Ev.HBM_FATAL || code == Ev.LC_TRANSITION

/-- May one more rate-counted record go to the MRAM log: at most 10 in any interval of 1 s (R442)? -/
def EvX.logRoom (e : EvX) (now : Nat) : Bool := (e.logAt.filter (fun c => now - c < cycS)).length < 10

/-- Is a record delivered to slot h: its hosts bit set and its severity at least EV_MIN_SEV (R411)? -/
def State.toldTo (s : State) (r : EvRec) (h : Nat) : Bool := bitOf r.hosts h && s.rd Slot.EV_MIN_SEV h ≤ r.severity

/-- Queue a record for delivery to every slot it is told to. -/
def State.queueRec (s : State) (r : EvRec) : State :=
  { s with ev := { s.ev with waiting := (List.range 8).foldl (fun w h =>
      if s.toldTo r h then Tbl.upd [] w h (fun q => q ++ [(r, s.phys)]) else w) s.ev.waiting } }

/-- The 32 bytes of a record as a number, little-endian (Table 0.5). -/
def EvRec.toNat (r : EvRec) : Nat :=
  r.time % 2 ^ 80 + 2 ^ 80 * (r.code % 2 ^ 16) + 2 ^ 96 * (r.unit % 2 ^ 16) + 2 ^ 112 * (r.hosts % 2 ^ 8) +
    2 ^ 120 * (r.severity % 2 ^ 8) + 2 ^ 128 * (r.seq % 2 ^ 32) + 2 ^ 160 * (r.args % 2 ^ 96)

/-- The 32 bytes of a record (Table 0.5, R5). -/
def EvRec.bytes (r : EvRec) : Bytes := natLE 32 r.toNat

/-- Write a record to the MRAM log of 4,096 records; LOG_COUNT counts every record written (R452). A supply warning holds
the write (R424). -/
def State.logRec (s : State) (r : EvRec) : State :=
  if s.ctl.mramHold then { s with ev := { s.ev with logHeld := s.ev.logHeld ++ [r] } }
  else ({ s with ev := { s.ev with log := (r :: s.ev.log).take 4096 } } : State).bump Life.LOG_COUNT 0

/-- Is an HBM in service (R372, R452)? -/
def State.hbmUp (s : State) : Bool := s.rd Hbm.IN_SERVICE 0 != 0

/-- The HBM ring takes a record while HBM is in service; it takes no HBM_FATAL (R452). -/
def State.ringRec (s : State) (r : EvRec) : State :=
  if r.code == Ev.HBM_FATAL || !s.hbmUp then s else { s with ev := s.ev.toRing r }

/-- The MRAM log takes a record of severity ERROR or FATAL within its rate, and some records always (R16, R442). -/
def State.logByRate (s : State) (r : EvRec) : State :=
  if alwaysLogged r.code then s.logRec r
  else if 2 ≤ r.severity && s.ev.logRoom s.phys then
    ({ s with ev := { s.ev with logAt := (s.phys :: s.ev.logAt).take 10 } } : State).logRec r
  else s

/-- The counts of Table 18.16. -/
def State.countRec (s : State) (r : EvRec) : State :=
  let s := if r.severity = 2 then s.bump Svc.ERRORS 0 else if r.severity = 3 then s.bump Svc.FATALS 0 else s
  if 2 ≤ r.severity then s.wr Svc.LAST_ERROR 0 r.toNat else s

/-- The next sequence number is taken (R16). -/
def State.nextSeq (s : State) : State := { s with ev := { s.ev with seq := (s.ev.seq + 1) % 2 ^ 32 } }

/-- Write an event record of a given severity and time: sequence number, HBM ring, MRAM log where severity and rate
place it, the counts of Table 18.16, and the queues of the slots told. -/
def State.raiseAt (s : State) (code severity unit hosts args time : Nat) : State :=
  let r : EvRec := ⟨time, code, unit, hosts, severity, (s.ev.seq + 1) % 2 ^ 32, args⟩
  ((((s.nextSeq.ringRec r).logByRate r).countRec r).queueRec r)

/-- Raise an event now (R454). -/
def State.raise (s : State) (code unit hosts args : Nat) : State :=
  s.raiseAt code (evSeverity code) unit hosts args s.now80

/-! Partitions (R41, R42). -/

/-- The partition ranges of Table 2.8. -/
inductive Kind where
  | leg | conf | src | sub
  deriving DecidableEq, Repr

def Kind.base : Kind → Nat
  | .leg => Part.LEG_BASE | .conf => Part.CONF_BASE | .src => Part.SRC_BASE | .sub => Part.SUB_BASE

def Kind.count : Kind → Nat
  | .leg => Part.LEG_COUNT | .conf => Part.CONF_COUNT | .src => Part.SRC_COUNT | .sub => Part.SUB_COUNT

/-- Does entry e lie in tenant h's range? -/
def State.inPart (s : State) (k : Kind) (h e : Nat) : Bool :=
  s.rd k.base h ≤ e && e < s.rd k.base h + s.rd k.count h

/-- The partition that holds an entry: the tenant whose range it lies in, else PLATFORM (0). -/
def State.ownerOf (s : State) (k : Kind) (e : Nat) : Nat :=
  ([2, 3, 4, 5, 6, 7].find? (fun h => s.inPart k h e)).getD 0

/-- May host h operate on entry e: PLATFORM on every entry, a TENANT inside its own ranges (R41)? -/
def State.reaches (s : State) (k : Kind) (h e : Nat) : Bool := h < 2 || s.inPart k h e

/-- The partition range that an index's elements follow, and the entry an element belongs to. -/
def partOf (ix el : Nat) : Option (Kind × Nat) :=
  match ix with
  | 0x2200 => some (.leg, el) | 0x2020 => some (.leg, el) | 0x2230 => some (.leg, el) | 0x2620 => some (.leg, el)
  | 0x2630 => some (.leg, el) | 0x2710 => some (.leg, el) | 0x3150 => some (.leg, el) | 0x2800 => some (.leg, el / 2)
  | 0x2300 => some (.conf, el) | 0x3110 => some (.conf, el)
  | 0x2400 => some (.src, el) | 0x2420 => some (.src, el) | 0x2100 => some (.src, el) | 0x2410 => some (.src, el / 16)
  | 0x2500 => some (.sub, el) | 0x2520 => some (.sub, el)
  | _ => none

/-- Elements that lie inside an index's range and still do not exist: layers 12 to 15 and layers of a source that is
not a DEFINED video source (R50); AES3 slots above channel B (Table 10.9); partition elements below 2 (Table 2.8). -/
def State.absent (s : State) (ix el : Nat) : Bool :=
  if ix = Layer.index then 12 ≤ el % 16 || s.rd Src.STATE (el / 16) != 1 || s.rd Src.MEDIA (el / 16) != 1
  else if ix = SlotOwn.index then 16 ≤ el / 32 && 2 ≤ el % 32
  else if ix = Part.index then el < 2
  else false

/-- Entries that belong to the host that opened them: the columns of STATE and OWNER, and the entry that an element lies
in (R123, R168, R307, R330, R333). -/
def openedBy (ix el : Nat) : Option (Nat × Nat × Nat) :=
  match ix with
  | 0x2570 => some (Splice.STATE, Splice.OWNER, el) | 0x2580 => some (Mos.STATE, Mos.OWNER, el)
  | 0x2590 => some (Mos.STATE, Mos.OWNER, el / 64) | 0x2610 => some (LegGrp.STATE, LegGrp.OWNER, el)
  | 0x4000 => some (Dec.STATE, Dec.OWNER, el) | 0x4100 => some (Enc.STATE, Enc.OWNER, el)
  | 0x4200 => some (Outp.STATE, Outp.OWNER, el) | 0x4210 => some (Outp.STATE, Outp.OWNER, el / 32)
  | _ => none

/-- Is an element open to host h by who opened its entry, or by the slot it belongs to (R217, R383, R413)? -/
def State.shownTo (s : State) (h ix el : Nat) : Bool :=
  match ix with
  | 0x1120 => h == 0 || el == h
  | 0x2040 => h == 0 || el == h
  | 0x2280 => h < 2 || el == h
  | 0x5400 => h == 0 || el < 48 || (el - 48) / 2 == h
  | 0x3120 => h < 2 || (s.rd Graph.STATE el == 0 && !s.on Graph.RUNNING el) || s.rd Graph.OWNER el == h
  | 0x3130 =>
    let g := el / 256
    h < 2 || (s.rd Graph.STATE g == 0 && !s.on Graph.RUNNING g) || s.rd Graph.OWNER g == h
  | _ => match openedBy ix el with
    | some (st, ow, e) => h < 2 || s.rd st e == 0 || s.rd ow e == h
    | none => true

/-- Does the element exist for this host (R11, R390, R413)? -/
def State.exists? (s : State) (h ix el : Nat) : Bool :=
  el < elementCount ix && !s.absent ix el && s.shownTo h ix el &&
  (match partOf ix el with | some (k, e) => s.reaches k h e | none => true)

/-- The right of host h in an object (R11, Tables 8.3 and 8.4). -/
def rightOf (a : Acc) (h el : Nat) : Right :=
  match a with
  | .roles p sf t => if h = 0 then p else if h = 1 then sf else t
  | .kekWo => if (if el ≤ 11 then h = 0 else h = 1) then .wo else .none
  | .kekRw => if (if el ≤ 11 then h = 0 else h = 1) then .rw else .none
  | .skek => if (if el = 1 then h = 1 else h = 0) then .rw else .none

/-- Is a value inside the intervals its row allows? -/
def inAllowed (r : ObjRow) (v : Nat) : Bool :=
  let i : Int := if r.ty.signed then toInt (8 * r.ty.size) v else v
  r.allowed.isEmpty || r.allowed.any (fun p => p.1 ≤ i && i ≤ p.2)

/-- Does a value have the form of its type (R391)? -/
def formOk (t : Ty) (v : Nat) : Bool :=
  match t with
  | .bool => v ≤ 1
  | .time80 => v < 2 ^ 80 && bitsOf v 30 2 == 0 && bitsOf v 0 30 < 1000000000
  | .string n => v < 2 ^ (8 * n) && ((natLE n v).reverse.dropWhile (· == 0)).all (fun b => 0x20 ≤ b.toNat && b.toNat ≤ 0x7E)
  | .blob => true
  | t => v < 2 ^ (8 * t.size)

/-- The checks of one write that come before its chapter's own: existence, access, and range, in the order of their
codes (R15). A READ-only object fails with E_ACCESS. -/
def State.checkWrite (s : State) (h col el v : Nat) : Except Status Unit :=
  match colRow col with
  | none => .error .eNoObj
  | some r =>
    if !s.exists? h (col / 256) el then .error .eNoObj
    else if !(rightOf r.acc h el).canWrite then .error .eAccess
    else if !(formOk r.ty v && inAllowed r v) then .error .eRange
    else .ok ()

/-- Does the slot have the right to read the object, and does the object exist for it? -/
def State.checkRead (s : State) (h col el : Nat) : Except Status Unit :=
  match colRow col with
  | none => .error .eNoObj
  | some r =>
    if !s.exists? h (col / 256) el then .error .eNoObj
    else if !(rightOf r.acc h el).canRead then .error .eAccess
    else .ok ()

/-- Do two slots reach one object by one address? EV_SEL is held once per slot (R413). -/
def sameObject (col a b : Nat) : Bool := col != Life.EV_SEL || a == b

/-- The objects that pending deferred transactions lock (R405). -/
def State.lockedByTxn (s : State) (h col el : Nat) : Bool :=
  s.ctl.deferred.any (fun t => sameObject col h t.slot && t.writes.any (fun w => w.col == col && w.el == el))

/-- Does the life-cycle state refuse a write: in SCRAPPED every one but RESET; in MANUFACTURED and RETURNED those of KEK
slots and of SESSION_KEK (R433)? -/
def State.lcBars (s : State) (col : Nat) : Bool :=
  let l := s.rd Ident.LC_STATE 0
  (l == 5 && col != Pwr.RESET) || ((l == 1 || l == 4) && (col / 256 == Kek.index || col / 256 == SKek.index))

/-- The lower-numbered of two codes. -/
def Status.least (a b : Status) : Status := if b.code < a.code then b else a

/-- One operation's checks and effect: the checks of R11 and R391, the life-cycle state, the lock of R405, and the chapter's
own operation f. Where several conditions apply the lowest code is the status (R15). -/
def State.tryWrite (s : State) (h col el v : Nat) (f : State → Except Status State) : Except Status State :=
  match s.checkWrite h col el v with
  | .error e => .error e
  | .ok () =>
    let bars : List Status := (if s.lcBars col then [.eState] else []) ++ (if s.lockedByTxn h col el then [.eBusy] else [])
    match f s, bars with
    | .error e, bs => .error (bs.foldl Status.least e)
    | .ok _, b :: bs => .error (bs.foldl Status.least b)
    | .ok t, [] => .ok t

/-- The lowest-numbered status among the conditions that hold (R15); OK where none does. -/
def lowest (l : List (Bool × Status)) : Except Status Unit :=
  match (l.filter (·.1)).foldl (fun (best : Option Status) p =>
      match best with
      | none => some p.2
      | some b => if p.2.code < b.code then some p.2 else some b) none with
  | none => .ok ()
  | some e => .error e

/-- Continue with f where the checks pass. -/
def guarded (l : List (Bool × Status)) (f : Except Status State) : Except Status State :=
  match lowest l with
  | .ok () => f
  | .error e => .error e

/-- A host's operation answered at once: its effect and OK, or nothing but its status. -/
def hostDo (h : Nat) (s : State) (r : Except Status State) : State :=
  match r with
  | .ok t => t.emit (.status h 0)
  | .error e => s.emit (.status h e.code)

/-- Is an object locked by an immediate transaction accepted and not yet applied (R405)? -/
def State.lockedByHeld (s : State) (h col el : Nat) : Bool :=
  s.ctl.held.any (fun r => sameObject col h r.slot && r.ops.any (fun o => !o.reads && o.w.col == col && o.w.el == el))

/-- A request is kept until it is answered: its key, and the state that holds it. -/
def State.keepReq (s : State) (r : ReqX) : Nat × State :=
  (s.ctl.nextReq, { s with ctl := { s.ctl with
    reqs := Tbl.set none s.ctl.reqs s.ctl.nextReq (some r), nextReq := s.ctl.nextReq + 1 } })

/-- A request waits for a lock. -/
def State.waitReq (s : State) (r : ReqX) : State :=
  let (k, s) := s.keepReq { r with at_ := s.phys }
  { s with ctl := { s.ctl with waiting := s.ctl.waiting ++ [k] } }

/-- A transaction is held. -/
def State.hold (s : State) (x : HeldX) : State := { s with ctl := { s.ctl with held := s.ctl.held ++ [x] } }

/-! The MRAM write budget (R443). -/

/-- MRAM words that a journal record takes: a free value, at least one. The state with them counted, and whether they pass
the limit of 360,000,000 in 3,600 s. -/
def State.mramTake (s : State) : State × Bool :=
  let (d, s) := s.draw 16
  let l := s.pwr.words.filter (fun r => s.since r.1 < 3600 * cycS)
  let sum := (l.map (·.2)).foldl (· + ·) 0
  ({ s with pwr := { s.pwr with words := (s.phys, d + 1) :: l } }, decide (360000000 < sum + d + 1))

/-- The limit is met: MRAM_BUDGET, at most once per hour. -/
def State.mramOver (s : State) (h : Nat) : State :=
  let held : Bool := match s.pwr.budgetAt with | some c => decide (s.since c < 3600 * cycS) | none => false
  if held then s
  else ({ s with pwr := { s.pwr with budgetAt := some s.phys } } : State).raise Ev.MRAM_BUDGET h toPlatform 0

/-- Is an object persistent (R12)? -/
def persists (col : Nat) : Bool := match colRow col with | some r => r.persist == .m | none => false

/-- Does a write make a journal record: of an M object, and of a restore or a life-cycle transition (R408, R435, R439)? -/
def journals (col : Nat) : Bool := persists col || col == Cal.RESTORE || col == Ident.LC_CMD

/-- A write as an operation. -/
def writeOp (w : WriteOp) : OpX := { reads := false, w := w }

/-- The request of one write, as the rows that stand for it send it. -/
def rowReq (h : Nat) (w : WriteOp) : ReqX := { slot := h, route := .row, ops := [writeOp w] }

/-- A write that has a row of its own, sent by host h as an immediate transaction of its own. It waits for a lock that a
held transaction has on its object; it is held itself where MRAM writes are held and its object is persistent (R405, R409).
There are eight slots (R14). -/
def hostWriteOp (h : Nat) (w : WriteOp) (f : State → Except Status State) (s : State) : State :=
  if 8 ≤ h then s
  else if s.lockedByHeld h w.col w.el then
    match s.checkWrite h w.col w.el w.val with
    | .error e => s.emit (.status h e.code)
    | .ok () => s.waitReq (rowReq h w)
  else if journals w.col then
    let m := s.mramTake
    match s.tryWrite h w.col w.el w.val f with
    | .error e =>
      if m.2 && Status.eBusy.code < e.code then (s.mramOver h).emit (.status h Status.eBusy.code) else s.emit (.status h e.code)
    | .ok _ =>
      if m.2 then (s.mramOver h).emit (.status h Status.eBusy.code)
      else if s.ctl.mramHold && persists w.col then
        let (k, s) := m.1.keepReq { rowReq h w with next := 1, results := [none] }
        s.hold { slot := h, req := some k, idx := some 0, ops := [writeOp w] }
      else hostDo h s (m.1.tryWrite h w.col w.el w.val f)
  else hostDo h s (s.tryWrite h w.col w.el w.val f)

/-- The same of a write that carries a number. -/
def hostWrite (h col el v : Nat) (f : State → Except Status State) (s : State) : State :=
  hostWriteOp h { col := col, el := el, val := v } f s

/-- An M object that the device itself writes: counted, and held with the others under a supply warning (R424, R443). -/
def State.ownWrite (s : State) (col el v : Nat) : State :=
  let s := s.mramTake.1
  if s.ctl.mramHold then s.hold { slot := 0x100, ops := [writeOp { col := col, el := el, val := v }] } else s.wr col el v

end Sys2Proof.Machine
end

