-- ==== Sys2Proof/Machine/Capacity.lean ====
section
/-! DEFINITION. Capacity and its charges (R54 to R57): codec costs, conference charges, and admission. -/

namespace Sys2Proof.Machine

/-! Codec costs (Table 9.1), in M cycles/s × 10. -/

/-- d of a codec. -/
def dCost (codec : Nat) : Nat :=
  match codec with | 0 => 60 | 1 => 90 | 2 => 40 | 3 => 20 | 4 => 14 | 5 => 14 | _ => 0

/-- e of a codec configuration. -/
def eCost (codec domain complexity : Nat) : Nat :=
  match codec with
  | 0 =>
    let c := if complexity ≤ 3 then 0 else if complexity ≤ 6 then 1 else 2
    ([[20, 40, 60], [40, 70, 110], [90, 150, 240]].getD domain []).getD c 0
  | 1 => [120, 200, 300].getD domain 0
  | 2 => 100 | 3 => 20 | 4 => 13 | 5 => 13 | _ => 0

/-- ECOST of configuration i. -/
def State.cfgCost (s : State) (i : Nat) : Nat := eCost (s.rd ACfg.CODEC i) (s.rd ACfg.DOMAIN i) (s.rd ACfg.COMPLEXITY i)

/-! The tables of chapter 2 as sets. -/

/-- The legs whose CONF is c. -/
def State.members (s : State) (c : Nat) : List Nat := s.elemsWith Leg.CONF c

/-- The DEFINED sources of a leg, in ascending order. -/
def State.sourcesOf (s : State) (l : Nat) : List Nat := (s.elemsWith Src.STATE 1).filter (fun x => s.rd Src.LEG x == l)

/-- The ACTIVE subscriptions of a leg, and to a source, in ascending order. -/
def State.subsOfLeg (s : State) (l : Nat) : List Nat := (s.elemsWith Sub.STATE 1).filter (fun x => s.rd Sub.LEG x == l)
def State.subsOfSource (s : State) (src : Nat) : List Nat :=
  (s.elemsWith Sub.STATE 1).filter (fun x => s.rd Sub.SOURCE x == src)

/-- Distinct values of a list. -/
def distinct (l : List Nat) : List Nat := l.foldl (fun a x => if a.contains x then a else a ++ [x]) []

/-- The encode groups of a conference: distinct AUDIO_CFG values other than 0xFFFF among its members. -/
def State.groupsOf (s : State) (c : Nat) : List Nat :=
  distinct (((s.members c).map (fun l => s.rd Leg.AUDIO_CFG l)).filter (fun a => a != 0xFFFF))

def maxOf (l : List Nat) : Nat := l.foldl max 0
def sumOf (l : List Nat) : Nat := l.foldl (· + ·) 0

/-- d_max of a conference: the highest decode cost among its members' audio sources; 0 without one. -/
def State.dMax (s : State) (c : Nat) : Nat :=
  let ms := s.members c
  maxOf (((s.elemsWith Src.STATE 1).filter (fun x => s.rd Src.MEDIA x == 0 && ms.contains (s.rd Src.LEG x))).map
    (fun x => dCost (s.rd Src.CODEC x)))

/-- e_max of a conference: the highest encode cost among its encode groups; 0 without one. -/
def State.eMax (s : State) (c : Nat) : Nat := maxOf ((s.groupsOf c).map s.cfgCost)

/-- The DSP charge of a conference and its encode groups (Table 2.10), M cycles/s × 10. -/
def State.confCharge (s : State) (c : Nat) : Nat :=
  if s.rd Conf.STATE c ≠ 1 then 0
  else s.rd Conf.CAND_MAX c * (s.dMax c + 2) + s.rd Conf.TOPK c * (s.eMax c + 20) +
    sumOf ((s.groupsOf c).map (fun g => s.cfgCost g + 20))

/-! Resources. -/

/-- The charged resources: DSP, VDEC, VENC, CMP. -/
inductive Res where
  | dsp | vdec | venc | cmp
  deriving DecidableEq, Repr

def Res.index : Res → Nat
  | .dsp => 0 | .vdec => 1 | .venc => 2 | .cmp => 3
def Res.quota : Res → Nat
  | .dsp => Part.DSP_QUOTA | .vdec => Part.VDEC_QUOTA | .venc => Part.VENC_QUOTA | .cmp => Part.CMP_QUOTA
def Res.partUsed : Res → Nat
  | .dsp => Part.DSP_USED | .vdec => Part.VDEC_USED | .venc => Part.VENC_USED | .cmp => Part.CMP_USED
def Res.devUsed : Res → Nat
  | .dsp => Cap.DSP_USED | .vdec => Cap.VDEC_USED | .venc => Cap.VENC_USED | .cmp => Cap.CMP_USED

/-- Units in service of each kind: the elements whose STATE is 0. -/
def State.coresIn (s : State) : Nat := 128 - (s.column Core.STATE).length
def State.vdIn (s : State) : Nat := 16 - (s.column Vd.STATE).length
def State.veIn (s : State) : Nat := 16 - (s.column Ve.STATE).length
def State.cmpIn (s : State) : Nat := 8 - (s.column Cmp.STATE).length

/-- BW_FACTOR of R371. -/
def bwFactor (n : Nat) : Nat := min 100 (100 * n / 40)

/-- The capacity of a resource (Table 2.9). -/
def State.cap (s : State) (r : Res) : Nat :=
  let f := s.rd Hbm.BW_FACTOR 0
  match r with
  | .dsp => 16090 * s.coresIn * f / 100
  | .vdec => 497664 * s.vdIn * f / 100
  | .venc => 497664 * s.veIn * f / 100
  | .cmp => 2 * s.cmpIn * f / 100

/-- Change a partition's and the device's USED by a signed amount. -/
def State.chargeBy (s : State) (h : Nat) (r : Res) (d : Int) : State :=
  let s := s.wr r.devUsed 0 (((s.rd r.devUsed 0 : Nat) : Int) + d).toNat
  if 2 ≤ h then s.wr r.partUsed h (((s.rd r.partUsed h : Nat) : Int) + d).toNat else s

/-- Admission of one charge against partition h and the device (R56). A charge that lowers always succeeds; while a
deferred transaction is being accepted it frees nothing yet, and while one is applied its own reservation is used first
(R57). -/
def State.admission (s : State) (h : Nat) (r : Res) (d : Int) : Except Status State :=
  if d ≤ 0 then .ok (if s.ctl.trial then s else s.chargeBy h r d)
  else
    let k := 4 * (if 2 ≤ h then h else 0) + r.index
    let have_ := Tbl.get 0 s.ctl.credit k
    let use := min have_ d.toNat
    let rest := d - (use : Nat)
    let s := { s with ctl := { s.ctl with credit := Tbl.set 0 s.ctl.credit k (have_ - use) } }
    if rest ≤ 0 then .ok s
    else if 2 ≤ h && (s.rd r.quota h : Int) < (s.rd r.partUsed h : Nat) + rest then .error .eCapacity
    else if (s.cap r : Int) < (s.rd r.devUsed 0 : Nat) + rest then .error .eCapacity
    else .ok (s.chargeBy h r rest)

/-! The media pool of HBM (R354): bytes allocated by kind and entry. -/

def poolKey (kind e : Nat) : Nat := kind * 2 ^ 20 + e

/-- Pool bytes not allocated. -/
def State.poolFree (s : State) : Nat := s.rd Hbm.POOL_MIB 0 * 2 ^ 20 - sumOf (s.mem.pool.map (·.2))

/-- Allocate at least n bytes for an entity; what the allocation takes beyond n is w bits of a free value. -/
def State.poolTake (s : State) (kind e n w : Nat) : Option State :=
  let (x, s) := s.draw w
  if s.poolFree < n + x then none
  else some { s with mem := { s.mem with pool := Tbl.set 0 s.mem.pool (poolKey kind e) (n + x) } }

/-- Release what an entity holds. -/
def State.poolGive (s : State) (kind e : Nat) : State :=
  { s with mem := { s.mem with pool := Tbl.set 0 s.mem.pool (poolKey kind e) 0 } }

/-- Charge or release the difference that a change makes to the charges of the conferences cs. -/
def State.recharge (old new : State) (cs : List Nat) : Except Status State :=
  cs.foldl (fun r c => match r with
    | .error e => .error e
    | .ok t => t.admission (t.ownerOf .conf c) .dsp (((t.confCharge c : Nat) : Int) - (old.confCharge c : Nat))) (.ok new)

end Sys2Proof.Machine
end

