-- ==== Sys2Proof/Machine/Crypto.lean ====
section
/-! DEFINITION. The cryptographic functions that the spec names by their standards (R181, R184, R198, R199): AES-128 and
AES-256 (FIPS 197), AES key unwrap with padding (RFC 5649), AES-CMAC (RFC 4493), the session key derivation of
SP 800-108, AES-GCM (SP 800-38D), SHA-1 (FIPS 180-4) and HMAC (RFC 2104). The standards are outside the spec; the functions follow them (PRESUMED). -/

namespace Sys2Proof.Machine

/-- The AES S-box and its inverse, byte i at bits [8i + 7 : 8i]. -/
def sboxTable : Nat := 0x16BB54B00F2D99416842E6BF0D89A18CDF2855CEE9871E9B948ED9691198F8E19E1DC186B95735610EF6034866B53E708A8BBD4B1F74DDE8C6B4A61C2E2578BA08AE7A65EAF4566CA94ED58D6D37C8E779E4959162ACD3C25C2406490A3A32E0DB0B5EDE14B8EE4688902A22DC4F816073195D643D7EA7C41744975FEC130CCDD2F3FF1021DAB6BCF5389D928F40A351A89F3C507F02F94585334D43FBAAEFD0CF584C4A39BECB6A5BB1FC20ED00D153842FE329B3D63B52A05A6E1B1A2C830975B227EBE28012079A059618C323C7041531D871F1E5A534CCF73F362693FDB7C072A49CAFA2D4ADF04759FA7DC982CA76ABD7FE2B670130C56F6BF27B777C63
def invSboxTable : Nat := 0x7D0C2155631469E126D677BA7E042B17619953833CBBEBC8B0F52AAE4D3BE0A0EF9CC9939F7AE52D0D4AB519A97F51605FEC8027591012B131C7078833A8DD1FF45ACD78FEC0DB9A2079D2C64B3E56FC1BBE18AA0E62B76F89C5291D711AF1476EDF751CE837F9E28535ADE72274AC9673E6B4F0CECFF297EADC674F4111913A6B8A130103BDAFC1020F3FCA8F1E2CD00645B3B80558E4F70AD3BC8C00ABD890849D8DA75746155EDAB9EDFD5048706C92B6655DCC5CA4D41698688664F6F87225D18B6D49A25B76B224D92866A12E084EC3FA420B954CEE3D23C2A632947B54CBE9DEC444438E3487FF2F9B8239E37CFBD7F3819EA340BF38A53630D56A0952

def subByte (b : Byte) : Byte := BitVec.ofNat 8 (sboxTable / 256 ^ b.toNat)
def invSubByte (b : Byte) : Byte := BitVec.ofNat 8 (invSboxTable / 256 ^ b.toNat)

/-- Multiply by x in GF(2^8). -/
def xtime (b : Byte) : Byte := (b <<< 1) ^^^ (if b.getLsbD 7 then 0x1B else 0)

/-- Byte-wise exclusive or, as long as the shorter. -/
def xorBytes (a b : Bytes) : Bytes := List.zipWith (· ^^^ ·) a b

/-- Key expansion: n more words, newest first; nk words of key, i the index of the next word. -/
def expandKey (nk : Nat) : Nat → Nat → Byte → List Bytes → List Bytes
  | 0, _, _, ws => ws
  | n + 1, i, rc, ws =>
    let prev := ws.headD []
    let t :=
      if i % nk = 0 then
        xorBytes ((prev.drop 1 ++ prev.take 1).map subByte) [rc, 0, 0, 0]
      else if 6 < nk && i % nk = 4 then prev.map subByte
      else prev
    let w := xorBytes (ws.getD (nk - 1) []) t
    expandKey nk n (i + 1) (if i % nk = 0 then xtime rc else rc) (w :: ws)

/-- Split bytes into n words of 4, first word last (the order expandKey takes). -/
def keyWords (n : Nat) (k : Bytes) : List Bytes := ((List.range n).map (fun i => slice k (4 * i) 4)).reverse

/-- The round keys of a 16- or 32-byte key, first round first, 16 bytes each. -/
def roundKeys (key : Bytes) : List Bytes :=
  let nk := key.length / 4
  let ws := (expandKey nk (4 * (nk + 7) - nk) nk 1 (keyWords nk key)).reverse
  (List.range (nk + 7)).map (fun r => (slice4 ws (4 * r)).flatten)
where
  slice4 (ws : List Bytes) (i : Nat) : List Bytes := (ws.drop i).take 4

def shiftRows (s : Bytes) : Bytes := (List.range 16).map (fun i => s.getD (i % 4 + 4 * ((i / 4 + i % 4) % 4)) 0)
def invShiftRows (s : Bytes) : Bytes := (List.range 16).map (fun i => s.getD (i % 4 + 4 * ((i / 4 + 4 - i % 4) % 4)) 0)

/-- Sixteen bytes as one number, byte i at bits [8i + 7 : 8i], each multiplied by x in GF(2^8). -/
def xtimes (v : Nat) : Nat :=
  (v &&& 0x7F7F7F7F7F7F7F7F7F7F7F7F7F7F7F7F) * 2 ^^^ (v / 128 &&& 0x01010101010101010101010101010101) * 0x1B

/-- Each of sixteen bytes multiplied by a coefficient below 16. -/
def gscale (k v : Nat) : Nat :=
  let v2 := xtimes v
  let v4 := xtimes v2
  (if bitOf k 0 then v else 0) ^^^ (if bitOf k 1 then v2 else 0) ^^^ (if bitOf k 2 then v4 else 0) ^^^
    (if bitOf k 3 then xtimes v4 else 0)

/-- Each column of four bytes rotated: its byte i becomes byte i + d. -/
def rotCols (d v : Nat) : Nat :=
  let low := (2 ^ (32 - 8 * d) - 1) * 0x00000001000000010000000100000001
  (v / 2 ^ (8 * d) &&& low) + (v * 2 ^ (32 - 8 * d) &&& (2 ^ 128 - 1 - low))

/-- Multiply each column by a circulant of four coefficients. -/
def mixWith (k : List Nat) (s : Bytes) : Bytes :=
  let v := leNat s
  natLE 16 (((List.range 4).map (fun d => gscale (k.getD d 0) (rotCols d v))).foldl (· ^^^ ·) 0)

/-- One block encrypted under the round keys. -/
def aesRounds : Bytes → List Bytes → Bytes
  | s, [] => s
  | s, [k] => xorBytes (shiftRows (s.map subByte)) k
  | s, k :: ks => aesRounds (xorBytes (mixWith [2, 3, 1, 1] (shiftRows (s.map subByte))) k) ks

/-- AES encryption of one 16-byte block. -/
def aesEnc (key blk : Bytes) : Bytes :=
  match roundKeys key with
  | [] => []
  | k :: ks => aesRounds (xorBytes blk k) ks

/-- One block decrypted under the round keys, last round first. -/
def aesInvRounds : Bytes → List Bytes → Bytes
  | s, [] => s
  | s, [k] => xorBytes ((invShiftRows s).map invSubByte) k
  | s, k :: ks => aesInvRounds (mixWith [0x0E, 0x0B, 0x0D, 0x09] (xorBytes ((invShiftRows s).map invSubByte) k)) ks

/-- AES decryption of one 16-byte block. -/
def aesDec (key blk : Bytes) : Bytes :=
  match (roundKeys key).reverse with
  | [] => []
  | k :: ks => aesInvRounds (xorBytes blk k) ks

/-- Key stream of AES in counter mode (RFC 3711, section 4.1.1): n blocks from counter i. -/
def aesCm (key : Bytes) (iv : Nat) : Nat → Nat → Bytes
  | 0, _ => []
  | n + 1, i => aesEnc key (natBE 16 ((iv + i) % 2 ^ 128)) ++ aesCm key iv n (i + 1)

/-- One session key of n bytes (RFC 3711 and RFC 6188, section 4.3, at key derivation rate 0); a salt of 12 bytes is followed
by two zero bytes (RFC 7714). -/
def srtpKdf (key salt : Bytes) (label n : Nat) : Bytes :=
  let x := beNat (padTo 14 salt) ^^^ label * 2 ^ 48
  (aesCm key (x * 65536) (ceilDiv n 16) 0).take n

/-- CHECK of a KEK: the first 3 bytes of the encryption of a zero block (Table 8.3). -/
def kekCheck (key : Bytes) : Nat := leNat ((aesEnc key (List.replicate 16 0)).take 3)

/-- One step of RFC 3394 unwrapping: register A and semiblocks R, with t = n * j + i. -/
def unwrapStep (key : Bytes) (n : Nat) (st : Bytes × List Bytes) (t : Nat) : Bytes × List Bytes :=
  let i := (t - 1) % n
  let b := aesDec key (xorBytes st.1 (natBE 8 t) ++ st.2.getD i [])
  (b.take 8, st.2.set i (b.drop 8))

/-- RFC 5649 unwrapping of a 72-byte ciphertext of 64 bytes of plaintext: none where the integrity check fails. -/
def unwrap64 (key wrapped : Bytes) : Option Bytes :=
  let n := 8
  let r := (List.range 8).map (fun i => slice wrapped (8 * (i + 1)) 8)
  let f := ((List.range (6 * n)).reverse.map (· + 1)).foldl (unwrapStep key n) (wrapped.take 8, r)
  if f.1 = [0xA6, 0x59, 0x59, 0xA6] ++ natBE 4 64 then some f.2.flatten else none

/-- Double in GF(2^128) as CMAC does. -/
def cmacDouble (b : Bytes) : Bytes :=
  let v := beNat b
  let d := v * 2 % 2 ^ 128
  natBE 16 (if 2 ^ 127 ≤ v then d ^^^ 0x87 else d)

/-- Chain full blocks. -/
def cbcMac (key : Bytes) : Nat → Bytes → Bytes → Bytes
  | 0, x, _ => x
  | n + 1, x, m => cbcMac key n (aesEnc key (xorBytes x (m.take 16))) (m.drop 16)

/-- AES-CMAC. -/
def aesCmac (key m : Bytes) : Bytes :=
  let k1 := cmacDouble (aesEnc key (List.replicate 16 0))
  let n := if m = [] then 1 else ceilDiv m.length 16
  let head := m.take (16 * (n - 1))
  let last := m.drop (16 * (n - 1))
  let y := if last.length = 16 then xorBytes last k1
    else xorBytes (padTo 16 (last ++ [0x80])) (cmacDouble k1)
  aesEnc key (xorBytes (cbcMac key (n - 1) (List.replicate 16 0) head) y)

/-- The key derivation input of Table 8.12. -/
def kdfInput (i slot : Nat) (dnonce hnonce : Bytes) : Bytes :=
  natBE 4 i ++ [0x58, 0x41, 0x52, 0x41, 0x53, 0x2D, 0x53, 0x45, 0x53, 0x53, 0x49, 0x4F, 0x4E] ++ [0x00] ++ natBE 1 slot ++
    dnonce ++ hnonce ++ natBE 4 512

/-- The session keys of R198: host-to-device, device-to-host. -/
def sessionKeys (kek : Bytes) (slot : Nat) (dnonce hnonce : Bytes) : Bytes × Bytes :=
  let k := fun i => aesCmac kek (kdfInput i slot dnonce hnonce)
  (k 1 ++ k 2, k 3 ++ k 4)

/-- Product in the field of GHASH. -/
def ghMul (x y : Nat) : Nat :=
  ((List.range 128).foldl (fun (r : Nat × Nat) i =>
    (if bitOf x (127 - i) then r.1 ^^^ r.2 else r.1,
     if r.2 % 2 = 1 then (r.2 / 2) ^^^ (0xE1 * 2 ^ 120) else r.2 / 2)) (0, y)).1

/-- GHASH over n blocks. -/
def ghash (h : Nat) : Nat → Nat → Bytes → Nat
  | 0, y, _ => y
  | n + 1, y, m => ghash h n (ghMul (y ^^^ beNat (padTo 16 (m.take 16))) h) (m.drop 16)

/-- Counter mode over n blocks from counter c. -/
def gcmCtr (key nonce : Bytes) : Nat → Nat → Bytes → Bytes
  | 0, _, _ => []
  | n + 1, c, m => xorBytes (m.take 16) (aesEnc key (nonce ++ natBE 4 c)) ++ gcmCtr key nonce n (c + 1) (m.drop 16)

/-- Pad to a whole number of 16-byte blocks. -/
def padBlocks (m : Bytes) : Bytes := padTo (roundUp 16 m.length) m

/-- The GCM tag of a ciphertext. -/
def gcmTag (key nonce aad ct : Bytes) : Bytes :=
  let h := beNat (aesEnc key (List.replicate 16 0))
  let m := padBlocks aad ++ padBlocks ct ++ natBE 8 (8 * aad.length) ++ natBE 8 (8 * ct.length)
  xorBytes (natBE 16 (ghash h (m.length / 16) 0 m)) (aesEnc key (nonce ++ natBE 4 1))

/-- AES-GCM encryption: ciphertext and tag. -/
def gcmSeal (key nonce aad pt : Bytes) : Bytes × Bytes :=
  let ct := gcmCtr key nonce (ceilDiv pt.length 16) 2 pt
  (ct, gcmTag key nonce aad ct)

/-- AES-GCM decryption: none where the tag fails. -/
def gcmOpen (key nonce aad ct tag : Bytes) : Option Bytes :=
  if gcmTag key nonce aad ct = tag then some (gcmCtr key nonce (ceilDiv ct.length 16) 2 ct) else none

/-- A 32-bit word rotated left. -/
def rotl32 (n x : Nat) : Nat := x * 2 ^ n % 2 ^ 32 + x / 2 ^ (32 - n)

/-- n more words of the SHA-1 message schedule, newest first. -/
def sha1Words : Nat → List Nat → List Nat
  | 0, w => w
  | n + 1, w => sha1Words n (rotl32 1 (w.getD 2 0 ^^^ w.getD 7 0 ^^^ w.getD 13 0 ^^^ w.getD 15 0) :: w)

/-- A round's function and constant. -/
def sha1Round (t b c d : Nat) : Nat × Nat :=
  if t < 20 then ((b &&& c) ||| ((2 ^ 32 - 1 - b) &&& d), 0x5A827999)
  else if t < 40 then (b ^^^ c ^^^ d, 0x6ED9EBA1)
  else if t < 60 then ((b &&& c) ||| (b &&& d) ||| (c &&& d), 0x8F1BBCDC)
  else (b ^^^ c ^^^ d, 0xCA62C1D6)

structure Sha1 where
  a : Nat
  b : Nat
  c : Nat
  d : Nat
  e : Nat
  deriving DecidableEq, Repr

/-- The rounds from t on, over the schedule's words. -/
def sha1Rounds : Nat → List Nat → Sha1 → Sha1
  | _, [], x => x
  | t, w :: ws, x =>
    let f := sha1Round t x.b x.c x.d
    sha1Rounds (t + 1) ws ⟨(rotl32 5 x.a + f.1 + x.e + f.2 + w) % 2 ^ 32, x.a, rotl32 30 x.b, x.c, x.d⟩

/-- One 64-byte block. -/
def sha1Block (x : Sha1) (m : Bytes) : Sha1 :=
  let w := (List.range 16).foldl (fun l i => beAt m (4 * i) 4 :: l) []
  let y := sha1Rounds 0 (sha1Words 64 w).reverse x
  ⟨(x.a + y.a) % 2 ^ 32, (x.b + y.b) % 2 ^ 32, (x.c + y.c) % 2 ^ 32, (x.d + y.d) % 2 ^ 32, (x.e + y.e) % 2 ^ 32⟩

def sha1Blocks : Nat → Sha1 → Bytes → Sha1
  | 0, x, _ => x
  | n + 1, x, m => sha1Blocks n (sha1Block x (m.take 64)) (m.drop 64)

/-- SHA-1. -/
def sha1 (m : Bytes) : Bytes :=
  let n := ceilDiv (m.length + 9) 64
  let p := padTo (64 * n - 8) (m ++ [0x80]) ++ natBE 8 (8 * m.length)
  let x := sha1Blocks n ⟨0x67452301, 0xEFCDAB89, 0x98BADCFE, 0x10325476, 0xC3D2E1F0⟩ p
  [x.a, x.b, x.c, x.d, x.e].flatMap (natBE 4)

/-- HMAC-SHA1 under a key of at most 64 bytes. -/
def hmacSha1 (key m : Bytes) : Bytes :=
  let k := padTo 64 key
  sha1 (k.map (· ^^^ 0x5C) ++ sha1 (k.map (· ^^^ 0x36) ++ m))

end Sys2Proof.Machine
end

