-- ==== Sys2Proof/Machine/Rtp.lean ====
section
/-! DEFINITION. The RTP header as the classifier reads it from the packet's bytes (R92): the fixed part, the CSRC list, and
the header extension block in the one-byte and the two-byte form of RFC 8285. -/

namespace Sys2Proof

open Machine (byteAt beAt slice)

def RtpPkt.version (r : RtpPkt) : Nat := byteAt r.bytes 0 / 64
/-- Is there an extension block? -/
def RtpPkt.hasExt (r : RtpPkt) : Bool := byteAt r.bytes 0 / 16 % 2 == 1
def RtpPkt.csrcs (r : RtpPkt) : Nat := byteAt r.bytes 0 % 16
def RtpPkt.marker (r : RtpPkt) : Bool := 128 ≤ byteAt r.bytes 1
def RtpPkt.pt (r : RtpPkt) : Nat := byteAt r.bytes 1 % 128
def RtpPkt.seq (r : RtpPkt) : Nat := beAt r.bytes 2 2
def RtpPkt.ts (r : RtpPkt) : Nat := beAt r.bytes 4 4
def RtpPkt.ssrc (r : RtpPkt) : Nat := beAt r.bytes 8 4

/-- Where the extension block begins, and how many bytes it holds beyond its 4-byte header. -/
def RtpPkt.extAt (r : RtpPkt) : Nat := 12 + 4 * r.csrcs
def RtpPkt.extLen (r : RtpPkt) : Nat := if r.hasExt then 4 * beAt r.bytes (r.extAt + 2) 2 else 0

/-- Bytes of the whole header. -/
def RtpPkt.hdrLen (r : RtpPkt) : Nat := r.extAt + if r.hasExt then 4 + r.extLen else 0

/-- The header, and the ciphered payload with its tag. -/
def RtpPkt.head (r : RtpPkt) : Bytes := r.bytes.take r.hdrLen
def RtpPkt.body (r : RtpPkt) : Bytes := r.bytes.drop r.hdrLen

/-- Does the header announce padding at the payload's end? -/
def RtpPkt.pad (r : RtpPkt) : Bool := byteAt r.bytes 0 / 32 % 2 == 1

/-- Is the header of a packet of n bytes well formed: version 2, and the fixed part, CSRC list and extension block within
the packet? -/
def RtpPkt.ok (r : RtpPkt) (n : Nat) : Bool :=
  r.version == 2 && 12 ≤ n && r.extAt ≤ n && (!r.hasExt || r.extAt + 4 ≤ n) && r.hdrLen ≤ n

/-- Bytes of the payload of a packet of n bytes with a tag of `tag` bytes. -/
def RtpPkt.payLen (r : RtpPkt) (n tag : Nat) : Nat := n - r.hdrLen - tag

/-- The elements of the one-byte form from offset o on: ID 0 pads by one byte, ID 15 ends the block. -/
def oneByteExts : Nat → Nat → Bytes → List Ext
  | 0, _, _ => []
  | fuel + 1, o, bs =>
    match bs with
    | [] => []
    | b :: rest =>
      let id := b.toNat / 16
      let n := b.toNat % 16 + 1
      if b = 0 then oneByteExts fuel (o + 1) rest
      else if id = 15 || rest.length < n then []
      else ⟨id, rest.take n, o + 1 + n⟩ :: oneByteExts fuel (o + 1 + n) (rest.drop n)

/-- The elements of the two-byte form from offset o on: ID 0 pads by one byte. -/
def twoByteExts : Nat → Nat → Bytes → List Ext
  | 0, _, _ => []
  | fuel + 1, o, bs =>
    match bs with
    | [] => []
    | b :: rest =>
      if b = 0 then twoByteExts fuel (o + 1) rest
      else match rest with
        | [] => []
        | l :: rest =>
          if rest.length < l.toNat then []
          else ⟨b.toNat, rest.take l.toNat, o + 2 + l.toNat⟩ :: twoByteExts fuel (o + 2 + l.toNat) (rest.drop l.toNat)

/-- The header extension elements of a packet. -/
def RtpPkt.exts (r : RtpPkt) : List Ext :=
  if !r.hasExt then []
  else
    let o := r.extAt + 4
    let bs := slice r.bytes o r.extLen
    let profile := beAt r.bytes r.extAt 2
    if profile = 0xBEDE then oneByteExts bs.length o bs
    else if profile / 16 = 0x100 then twoByteExts bs.length o bs
    else []

end Sys2Proof
end

