-- ==== Sys2Proof/Machine/Srtp.lean ====
section
/-! DEFINITION. The SRTP and SRTCP transforms of the suites of Table 8.1 (R175, R176), as RFC 3711 and RFC 7714 give them
(PRESUMED, log 216), and the bytes of compound RTCP packets (RFC 3550, 4585, 5104, 8888). -/

namespace Sys2Proof.Machine

/-! RTP (R175). -/

/-- The bytes of a payload under AES in counter mode, or back. -/
def cmCrypt (k : SrtpKeys) (ssrc i : Nat) (m : Bytes) : Bytes :=
  xorBytes m (aesCm k.enc (beNat k.salt * 2 ^ 16 ^^^ ssrc * 2 ^ 64 ^^^ i * 2 ^ 16) (ceilDiv m.length 16) 0)

/-- The nonce of an SRTP packet under GCM, and of an SRTCP packet. -/
def gcmIv (k : SrtpKeys) (ssrc i : Nat) : Bytes := xorBytes ([0, 0] ++ natBE 4 ssrc ++ natBE 6 i) k.salt

/-- The authentication tag of an SRTP packet under HMAC-SHA1: over the packet and the roll-over counter. -/
def rtpMac (k : SrtpKeys) (tag i : Nat) (m : Bytes) : Bytes := (hmacSha1 k.auth (m ++ natBE 4 (i / 65536))).take tag

/-- Tag bytes of a suite. -/
def rtpTag (suite : Nat) : Nat := match suite with | 1 => 10 | 2 => 4 | _ => 16
def rtcpTag (suite : Nat) : Nat := if suite ≤ 2 then 10 else 16

/-- An SRTP packet: header, ciphered payload, tag. -/
def srtpSeal (k : KeySet) (ssrc i : Nat) (head payload : Bytes) : Bytes :=
  if k.suite ≤ 2 then
    let m := head ++ cmCrypt k.rtp ssrc i payload
    m ++ rtpMac k.rtp (rtpTag k.suite) i m
  else
    let r := gcmSeal k.rtp.enc (gcmIv k.rtp ssrc i) head payload
    head ++ r.1 ++ r.2

/-- The payload of an SRTP packet whose header is `head` and whose remaining bytes are `body`: none where the tag fails. -/
def srtpOpen (k : KeySet) (ssrc i : Nat) (head body : Bytes) : Option Bytes :=
  let n := body.length - rtpTag k.suite
  let ct := body.take n
  if k.suite ≤ 2 then
    if rtpMac k.rtp (rtpTag k.suite) i (head ++ ct) = body.drop n then some (cmCrypt k.rtp ssrc i ct) else none
  else gcmOpen k.rtp.enc (gcmIv k.rtp ssrc i) head ct (body.drop n)

/-! RTCP (R176). -/

/-- The word of E flag and index. -/
def rtcpWord (e : Bool) (i : Nat) : Bytes := natBE 4 (e.toNat * 2 ^ 31 + i % 2 ^ 31)

/-- An SRTCP packet: the first 8 bytes in clear, the rest ciphered where E is set, with tag and word in the suite's order. -/
def srtcpSeal (k : KeySet) (ssrc i : Nat) (e : Bool) (m : Bytes) : Bytes :=
  let head := m.take 8
  let rest := m.drop 8
  let w := rtcpWord e i
  if k.suite ≤ 2 then
    let p := head ++ (if e then cmCrypt k.rtcp ssrc i rest else rest) ++ w
    p ++ (hmacSha1 k.rtcp.auth p).take 10
  else
    let iv := gcmIv k.rtcp ssrc i
    let r := if e then gcmSeal k.rtcp.enc iv (head ++ w) rest else (rest, gcmTag k.rtcp.enc iv (m ++ w) [])
    head ++ r.1 ++ r.2 ++ w

/-- Where the word of E flag and index lies in a packet of a suite: before the tag under HMAC-SHA1, at the end under GCM. -/
def rtcpWordAt (suite n : Nat) : Nat := if suite ≤ 2 then n - 14 else n - 4

/-- The compound packet in an SRTCP packet: none where its tag fails. -/
def srtcpOpen (k : KeySet) (b : Bytes) : Option Bytes :=
  let ssrc := beAt b 4 4
  let w := slice b (rtcpWordAt k.suite b.length) 4
  let e : Bool := 128 ≤ byteAt w 0
  let i := beAt w 0 4 % 2 ^ 31
  let head := b.take 8
  if k.suite ≤ 2 then
    let p := b.take (b.length - 10)
    let ct := (b.take (b.length - 14)).drop 8
    if (hmacSha1 k.rtcp.auth p).take 10 = b.drop (b.length - 10) then some (head ++ if e then cmCrypt k.rtcp ssrc i ct else ct) else none
  else
    let ct := (b.take (b.length - 20)).drop 8
    let tag := slice b (b.length - 20) 16
    let iv := gcmIv k.rtcp ssrc i
    if e then (gcmOpen k.rtcp.enc iv (head ++ w) ct tag).map (head ++ ·)
    else if gcmTag k.rtcp.enc iv (head ++ ct ++ w) [] = tag then some (head ++ ct) else none

/-! The bytes of RTCP packets. -/

/-- A report block. -/
def rrBytes (b : RrBlock) : Bytes :=
  natBE 4 b.ssrc ++ natBE 1 b.fraction ++ natBE 3 b.cumulative ++ natBE 4 b.highest ++ natBE 4 b.jitter ++ natBE 4 b.lsr ++
    natBE 4 b.dlsr

/-- A packet with its count or format, type and length. -/
def rtcpPacket (count pt : Nat) (body : Bytes) : Bytes :=
  natBE 1 (128 + count % 32) ++ natBE 1 pt ++ natBE 2 (body.length / 4) ++ body

/-- A bit rate as exponent and mantissa of 17 bits, with its overhead (RFC 5104). -/
def tmmbEntry (e : Nat × Nat × Nat) : Bytes :=
  let x := ((List.range 64).find? (fun k => e.2.1 / 2 ^ k < 2 ^ 17)).getD 0
  natBE 4 e.1 ++ natBE 4 (x * 2 ^ 26 + e.2.1 / 2 ^ x * 2 ^ 9 + e.2.2 % 2 ^ 9)

/-- The bytes of a part of a compound packet that the device sends. -/
def rtcpBytes : Rtcp → Bytes
  | .sr ssrc ntp rtp pkts octets bs =>
    rtcpPacket bs.length 200 (natBE 4 ssrc ++ natBE 8 ntp ++ natBE 4 rtp ++ natBE 4 pkts ++ natBE 4 octets ++ bs.flatMap rrBytes)
  | .rr ssrc bs => rtcpPacket bs.length 201 (natBE 4 ssrc ++ bs.flatMap rrBytes)
  | .sdes ssrc cname =>
    let n := cname.log2 / 8 + 1
    rtcpPacket 1 202 (natBE 4 ssrc ++ padTo (roundUp 4 (n + 7) - 4) ([1] ++ natBE 1 n ++ natLE n cname))
  | .bye ssrc => rtcpPacket 1 203 (natBE 4 ssrc)
  | .nack sender media seqs => rtcpPacket 1 205 (natBE 4 sender ++ natBE 4 media ++ seqs.flatMap (fun q => natBE 2 q ++ natBE 2 0))
  | .pli sender media => rtcpPacket 1 206 (natBE 4 sender ++ natBE 4 media)
  | .fir sender media fseq => rtcpPacket 4 206 (natBE 4 sender ++ natBE 4 0 ++ natBE 4 media ++ natBE 1 fseq ++ natBE 3 0)
  | .tmmbr es => rtcpPacket 3 205 (natBE 8 0 ++ es.flatMap tmmbEntry)
  | .tmmbn es => rtcpPacket 4 205 (natBE 8 0 ++ es.flatMap tmmbEntry)
  | .ccfb _ => rtcpPacket 11 205 (natBE 8 0)
  | .other => rtcpPacket 0 204 (natBE 4 0)

/-- n items of k bytes from offset o on. -/
def items {α : Type} (m : Bytes) (o k n : Nat) (f : Nat → α) : List α :=
  ((List.range n).map (fun i => o + k * i)).filterMap (fun o => if o + k ≤ m.length then some (f o) else none)

def readBlock (m : Bytes) (o : Nat) : RrBlock :=
  ⟨beAt m o 4, beAt m (o + 4) 1, beAt m (o + 5) 3, beAt m (o + 8) 4, beAt m (o + 12) 4, beAt m (o + 16) 4, beAt m (o + 20) 4⟩

/-- The CNAME of an SDES chunk whose items begin at offset o. -/
def readCname (m : Bytes) : Nat → Nat → Option Nat
  | 0, _ => none
  | k + 1, o =>
    if m.length ≤ o || byteAt m o = 0 then none
    else if byteAt m o = 1 then some (leNat (slice m (o + 2) (byteAt m (o + 1))))
    else readCname m k (o + 2 + byteAt m (o + 1))

/-- The numbers that a generic NACK entry asks for: PID, and those of BLP. -/
def nackSeqs (pid blp : Nat) : List Nat :=
  pid :: ((List.range 16).filter (fun i => bitOf blp i)).map (fun i => (pid + i + 1) % 65536)

/-- The reports of an RFC 8888 packet: per SSRC a first number, a count, and two bytes for each number. -/
def readCcfb (m : Bytes) : Nat → Nat → List CcReport
  | 0, _ => []
  | k + 1, o =>
    if m.length < o + 12 then []
    else
      let ssrc := beAt m o 4
      let first := beAt m (o + 4) 2
      let n := beAt m (o + 6) 2
      items m (o + 8) 2 n (fun p => p) |>.zipIdx.map (fun p =>
        ⟨ssrc, (first + p.2) % 65536, 128 ≤ byteAt m p.1, byteAt m p.1 / 32 % 4 == 3⟩) |>.append
        (readCcfb m k (o + 8 + roundUp 4 (2 * n)))

/-- One RTCP packet, header and body. -/
def readPart (m : Bytes) : List Rtcp :=
  let count := byteAt m 0 % 32
  let ssrc := beAt m 4 4
  let media := beAt m 8 4
  let fci := (m.length - 12) / 8
  let rate (o : Nat) : Nat × Nat × Nat := let w := beAt m (o + 4) 4; (beAt m o 4, w / 2 ^ 9 % 2 ^ 17 * 2 ^ (w / 2 ^ 26), w % 2 ^ 9)
  match byteAt m 1 with
  | 200 => [.sr ssrc (beAt m 8 8) (beAt m 16 4) (beAt m 20 4) (beAt m 24 4) (items m 28 24 count (readBlock m))]
  | 201 => [.rr ssrc (items m 8 24 count (readBlock m))]
  | 202 => if count = 0 then [] else [.sdes ssrc ((readCname m m.length 8).getD 0)]
  | 203 => (items m 4 4 count (fun o => beAt m o 4)).map .bye
  | 205 =>
    (match count with
     | 1 => [.nack ssrc media (items m 12 4 ((m.length - 12) / 4) (fun o => nackSeqs (beAt m o 2) (beAt m (o + 2) 2))).flatten]
     | 3 => [.tmmbr (items m 12 8 fci rate)]
     | 4 => [.tmmbn (items m 12 8 fci rate)]
     | 11 => [.ccfb (readCcfb m m.length 8)]
     | _ => [.other])
  | 206 =>
    (match count with
     | 1 => [.pli ssrc media]
     | 4 => items m 12 8 fci (fun o => .fir ssrc (beAt m o 4) (byteAt m (o + 4)))
     | _ => [.other])
  | _ => [.other]

/-- The parts of a compound packet. -/
def readRtcp : Nat → Bytes → List Rtcp
  | 0, _ => []
  | k + 1, m =>
    let n := 4 * (beAt m 2 2 + 1)
    if m.length < 4 then [] else readPart (m.take n) ++ readRtcp k (m.drop n)

end Sys2Proof.Machine

namespace Sys2Proof

open Machine (byteAt beAt slice rtcpWordAt)

/-- An SRTCP packet's length, first SSRC, and word of E flag and index under a suite. -/
def RtcpPkt.len (r : RtcpPkt) : Nat := r.bytes.length
def RtcpPkt.ssrc (r : RtcpPkt) : Nat := beAt r.bytes 4 4
def RtcpPkt.e (r : RtcpPkt) (suite : Nat) : Bool := 128 ≤ byteAt r.bytes (rtcpWordAt suite r.len)
def RtcpPkt.index (r : RtcpPkt) (suite : Nat) : Nat := beAt r.bytes (rtcpWordAt suite r.len) 4 % 2 ^ 31

end Sys2Proof
end

