-- ==== Sys2Proof/Machine/Cipher.lean ====
section
/-! DEFINITION. SRTP and the cipher engine (chapter 8, R175 to R202): suites, crypto contexts and their streams, KEK
slots, key blobs, index exhaustion, rewrite and erase, and security alarms. -/

namespace Sys2Proof.Machine

/-! Suites (Table 8.1). -/

/-- Master key, master salt, SRTP tag and SRTCP tag bytes of a suite. -/
def suiteSizes (suite : Nat) : Option (Nat × Nat × Nat × Nat) :=
  match suite with
  | 1 => some (16, 14, 10, 10)
  | 2 => some (16, 14, 4, 10)
  | 3 => some (16, 12, 16, 16)
  | 4 => some (32, 12, 16, 16)
  | _ => none

/-- SRTP and SRTCP tag lengths of a suite. -/
def srtpTag (suite : Nat) : Nat := match suiteSizes suite with | some (_, _, t, _) => t | none => 0
def srtcpTag (suite : Nat) : Nat := match suiteSizes suite with | some (_, _, _, t) => t | none => 0

/-- The contexts of leg L (R40). -/
abbrev rxCtx (leg : Nat) : Nat := 2 * leg
abbrev txCtx (leg : Nat) : Nat := 2 * leg + 1

def State.ctxX (s : State) (c : Nat) : CtxX := Tbl.get {} s.cip.ctx c
def State.ctxSet (s : State) (c : Nat) (x : CtxX) : State :=
  { s with cip := { s.cip with ctx := Tbl.set {} s.cip.ctx c x } }

/-- The hosts byte of an event to the owner of a context, a leg or a source. -/
def State.ctxOwner (s : State) (c : Nat) : Nat := toSlot (s.ownerOf .leg (c / 2))
def State.legOwner (s : State) (l : Nat) : Nat := toSlot (s.ownerOf .leg l)
def State.srcOwner (s : State) (src : Nat) : Nat := toSlot (s.ownerOf .src src)

/-- A context as an operation dispatched now finds it: before a commit of the same cycle (R190). -/
def State.dispatch (s : State) (c : Nat) : CtxThen :=
  let x := s.ctxX c
  let cur : CtxThen := ⟨s.phys, s.rd Ctx.STATE c, s.rd Ctx.GEN c, x.keys, x.epoch⟩
  match x.was with | some w => if w.atC = s.phys then w else cur | none => cur

/-- A commit to a context is about to change it. -/
def State.beforeCommit (s : State) (c : Nat) : State := s.ctxSet c { s.ctxX c with was := some (s.dispatch c) }

/-- GEN and keys that an operation dispatched now finds. -/
def State.ctxGen (s : State) (c : Nat) : Nat := (s.dispatch c).gen
def State.ctxKeys (s : State) (c : Nat) : Option KeySet := (s.dispatch c).keys

/-- Can a packet be processed on the context: not EMPTY and not FAULT? -/
def State.ctxKeyed (s : State) (c : Nat) : Bool := (s.dispatch c).st == 1 || (s.dispatch c).st == 2

/-- A context record whose integrity tag fails on read (R177). -/
def State.ctxFault (s : State) (c : Nat) : State :=
  (s.wr Ctx.STATE c 3).raise Ev.CTX_INTEGRITY 0 (s.ctxOwner c) c

/-- A record is written to HBM: under a fresh nonce, the device-wide write counter (R177). -/
def State.writeRecord (s : State) (c : Nat) : State :=
  let n := s.cip.ickWrites + 1
  let s := s.ctxSet c { s.ctxX c with nonce := n }
  { s with cip := { s.cip with ickWrites := n, damaged := s.cip.damaged.filter (· != c) } }

/-- A record comes into the cache. Where the cache is full one record is written back to HBM for it; which one, the spec leaves
open: a free value (R178). -/
def State.cacheIn (s : State) (c : Nat) : State :=
  if s.cip.cache.contains c then s
  else
    let s := if s.cip.cache.length < 16384 then s
      else
        let (v, s) := s.draw 14
        let gone := s.cip.cache.getD (v % s.cip.cache.length) 0
        let s := s.writeRecord gone
        { s with cip := { s.cip with cache := s.cip.cache.filter (· != gone) } }
    { s with cip := { s.cip with cache := c :: s.cip.cache } }

/-- An operation takes its context from the cache, which reads a record that it does not hold from HBM: false where the record's
tag fails (R177, R178). -/
def State.fetchCtx (s : State) (c : Nat) : State × Bool :=
  if !s.cip.cache.contains c && s.cip.damaged.contains c then (s.ctxFault c, false) else (s.cacheIn c, true)

/-- Streams a context may hold: 1,024 to send, 16 to receive (R179). -/
def streamMax (c : Nat) : Nat := if c % 2 = 1 then 1024 else 16

def CtxX.stream? (x : CtxX) (ssrc : Nat) : Option StreamX := x.streams.find? (fun t => t.ssrc == ssrc)
def CtxX.setStream (x : CtxX) (t : StreamX) : CtxX :=
  { x with streams := x.streams.map (fun u => if u.ssrc = t.ssrc then t else u) }

/-- Change the stream of an SSRC. -/
def State.streamUpd (s : State) (c ssrc : Nat) (f : StreamX → StreamX) : State :=
  let x := s.ctxX c
  match x.stream? ssrc with
  | some t => s.ctxSet c (x.setStream (f t))
  | none => s

/-- The stream of an SSRC, created at its first packet while the context has room (R179); none where it has not. -/
def State.streamFor (s : State) (c ssrc : Nat) : Option (StreamX × State) :=
  let x := s.ctxX c
  match x.stream? ssrc with
  | some t => some (t, s)
  | none =>
    if streamMax c ≤ x.streams.length then none
    else
      let t : StreamX := { ssrc := ssrc }
      some (t, (s.ctxSet c { x with streams := x.streams ++ [t] }).wr Ctx.STREAMS c (x.streams.length + 1))

/-- Would one more SSRC need a stream that the leg's send context has no room for? -/
def State.streamFull (s : State) (c ssrc : Nat) : Bool :=
  let x := s.ctxX c
  (x.stream? ssrc).isNone && streamMax c ≤ x.streams.length

/-! Exhaustion (R188, R189). -/

/-- The index that is never used, and the index from which a rekey is asked for. -/
def indexLast (rtcp : Bool) : Nat := if rtcp then 2 ^ 31 - 1 else 2 ^ 48 - 1
def indexWarn (rtcp : Bool) : Nat := if rtcp then 2 ^ 30 else 2 ^ 47

/-- Arguments of SRTP_REKEY_WARN; SRTP_EXHAUSTED adds E_EXHAUSTED at [9]. -/
def rekeyArgs (c ssrc : Nat) (rtcp : Bool) : Nat := c + 2 ^ 32 * ssrc + 2 ^ 64 * rtcp.toNat
def exhaustArgs (c ssrc : Nat) (rtcp : Bool) : Nat := rekeyArgs c ssrc rtcp + 2 ^ 72 * Status.eExhausted.code

/-- A packet refused for exhaustion: counted; the first refusal of a generation is reported to the owner. -/
def State.refuse (s : State) (c : Nat) (t : StreamX) (rtcp : Bool) : State :=
  let g := s.ctxGen c
  let s := (s.bump Ctx.EXHAUSTED c).wr Ctx.STATE c 2
  let first := (if rtcp then t.evGenC else t.evGen) != g
  let s := s.streamUpd c t.ssrc (fun u => if rtcp then { u with evGenC := g } else { u with evGen := g })
  if first then s.raise Ev.SRTP_EXHAUSTED 0 (s.ctxOwner c) (exhaustArgs c t.ssrc rtcp) else s

/-- Is the stream exhausted under the current generation? -/
def StreamX.exhausted (t : StreamX) (gen : Nat) (rtcp : Bool) : Bool :=
  gen != 0 && (if rtcp then t.exhGenC else t.exhGen) == gen

/-- The rekey warning of R188: once per stream and generation, from index 2^47 or 2^30 on. -/
def State.streamWarn (s : State) (c : Nat) (t : StreamX) (i : Nat) (rtcp : Bool) : State :=
  let g := s.ctxGen c
  if indexWarn rtcp ≤ i && (if rtcp then t.warnGenC else t.warnGen) != g then
    let s := s.streamUpd c t.ssrc (fun u => if rtcp then { u with warnGenC := g } else { u with warnGen := g })
    let w := s.rd Ctx.WARN c
    let s := s.wr Ctx.WARN c (if rtcp then w % 2 + 2 else w / 2 * 2 + 1)
    s.raise Ev.SRTP_REKEY_WARN 0 (s.ctxOwner c) (rekeyArgs c t.ssrc rtcp)
  else s

/-- protect_check of R188: may index i of the stream be used? The state after, and whether it may. -/
def State.protectCheck (s : State) (c ssrc i : Nat) (rtcp : Bool) : State × Bool :=
  match (s.ctxX c).stream? ssrc with
  | none => (s, false)
  | some t =>
    let g := s.ctxGen c
    if t.exhausted g rtcp then (s.refuse c t rtcp, false)
    else if i = indexLast rtcp then
      let s := s.streamUpd c ssrc (fun u => if rtcp then { u with exhGenC := g } else { u with exhGen := g })
      (s.refuse c t rtcp, false)
    else (s.streamWarn c t i rtcp, true)

/-- Was a stream exhausted under an older generation, so that its numbering goes on at index 0 (R188, R189)? -/
def StreamX.mayWrap (t : StreamX) (gen : Nat) (rtcp : Bool) : Bool :=
  let old (g : Nat) : Bool := g != 0 && g != gen
  if rtcp then old t.exhGenC || old t.fullGenC else old t.exhGen || old t.fullGen

/-- An index is given out under a generation: the highest used, or 0 again after 2^48 - 2, where the exhaustion it follows is
over. -/
def StreamX.give (t : StreamX) (gen i : Nat) : StreamX :=
  if i = 0 && t.sentI == some (indexLast false - 1) && t.mayWrap gen false then { t with sentI := some 0, exhGen := 0, fullGen := 0 }
  else { t with sentI := some (max i (t.sentI.getD 0)) }

/-- An SRTCP index is given out. -/
def StreamX.giveC (t : StreamX) (i : Nat) : StreamX :=
  if i < t.nextC then { t with nextC := i + 1, exhGenC := 0, fullGenC := 0 } else { t with nextC := i + 1 }

/-- A packet takes its send context. False where it is dropped: counted in NOKEY without a key or with a damaged record, in
DISCARDED where the context is erased in the same cycle (R192). -/
def State.takeTx (s : State) (c : Nat) : State × Bool :=
  if !s.ctxKeyed c then (s.bump Ctx.NOKEY c, false)
  else
    let r := s.fetchCtx c
    if !r.2 then (r.1.bump Ctx.NOKEY c, false)
    else if (s.dispatch c).epoch ≠ (s.ctxX c).epoch then (r.1.bump Ctx.DISCARDED c, false)
    else r

/-- Protect one packet on a send context: its stream is found or created, its index checked, and PKTS counted. False
where the packet is dropped, counted in NOKEY (no key or no room for a stream) or EXHAUSTED. -/
def State.protect (s : State) (c ssrc i : Nat) (rtcp : Bool) : State × Bool :=
  let a := s.takeTx c
  if !a.2 then a
  else match a.1.streamFor c ssrc with
    | none => (a.1.bump Ctx.NOKEY c, false)
    | some (_, s) =>
      let r := s.protectCheck c ssrc i rtcp
      if r.2 then
        ((r.1.streamUpd c ssrc (fun u => u.give (s.ctxGen c) i)).bump Ctx.PKTS c, true)
      else (r.1, false)

/-- Protect a packet that a radio leg's commit has given its index: it is never refused for exhaustion (R189). -/
def State.protectCommitted (s : State) (c ssrc i : Nat) (rtcp : Bool) : State × Bool :=
  let a := s.takeTx c
  if !a.2 then a
  else match a.1.streamFor c ssrc with
    | none => (a.1.bump Ctx.NOKEY c, false)
    | some (t, s) => ((s.streamWarn c t i rtcp).bump Ctx.PKTS c, true)

/-- The SRTP index that a send context's stream takes next where the device numbers consecutively: one above the highest
used, and, on a new stream, a first value. After 2^48 - 2 comes 2^48 - 1, which R188 refuses, and 0 under a new generation. -/
def State.nextIndex (s : State) (c ssrc first : Nat) : Nat :=
  match (s.ctxX c).stream? ssrc with
  | some t =>
    (match t.sentI with
     | some i => if i + 1 = indexLast false && t.mayWrap (s.ctxGen c) false then 0 else i + 1
     | none => first)
  | none => first

/-- An index is given out: the stream is found or created, and the index recorded. -/
def State.takeIndex (s : State) (c ssrc i : Nat) : State :=
  match s.streamFor c ssrc with
  | none => s
  | some (_, s) => s.streamUpd c ssrc (fun u => u.give (s.ctxGen c) i)

/-- The SRTCP index that a stream takes next, counting from 0 (R187). Under a new generation an exhausted count starts again
at 0. -/
def State.rtcpNext (s : State) (c ssrc : Nat) : Nat :=
  match (s.ctxX c).stream? ssrc with
  | none => 0
  | some t => if t.nextC = indexLast true && t.mayWrap (s.ctxGen c) true then 0 else t.nextC

/-- An SRTCP index is given out: the stream is found or created. -/
def State.takeRtcp (s : State) (c ssrc i : Nat) : State :=
  match s.streamFor c ssrc with
  | none => s
  | some (_, s) => s.streamUpd c ssrc (fun u => u.giveC i)

/-- SRTCP_ENC of a context's current keys. -/
def State.srtcpEnc (s : State) (c : Nat) : Bool := match s.ctxKeys c with | some k => k.srtcpEnc | none => false

/-- An SRTCP copy as it is protected: its E flag and index (R176, R187). -/
def State.stampRtcp (s : State) (h : CopyX) : CopyX :=
  let c := txCtx h.leg
  { h with seq := s.rtcpNext c h.ssrc, e := s.srtcpEnc c }

/-- Protect one SRTCP packet: its index is assigned per stream. -/
def State.protectRtcp (s : State) (c ssrc : Nat) : State × Bool :=
  let a := s.takeTx c
  if !a.2 then a
  else match a.1.streamFor c ssrc with
    | none => (a.1.bump Ctx.NOKEY c, false)
    | some (_, s) =>
      let i := s.rtcpNext c ssrc
      let r := s.protectCheck c ssrc i true
      if r.2 then ((r.1.streamUpd c ssrc (fun u => u.giveC i)).bump Ctx.PKTS c, true) else (r.1, false)

/-! KEK slots (R181 to R183). -/

/-- The value of a KEK slot as bytes, at its LEN. -/
def State.kekBytes (s : State) (k : Nat) : Bytes := natLE (s.rd Kek.LEN k) (Tbl.get 0 s.cip.kek k)

/-- May host h name KEK slot k: LOADED, with its USERS bit for h set (R183)? -/
def State.kekUsable (s : State) (h k : Nat) : Bool := s.rd Kek.STATE k == 1 && bitOf (s.rd Kek.USERS k) h

/-- A write of KEY with the LEN that stands after the writing transaction (R182). -/
def kekKeyWrite (k len v : Nat) (s : State) : Except Status State :=
  if len = 16 && v / 2 ^ 128 % 2 ^ 128 ≠ 0 then .error .eRange
  else
    let (sk, s) := s.draw 256
    let s := { s with cip := { s.cip with kek := Tbl.set 0 s.cip.kek k v, sealKey := sk } }
    .ok (((s.wr Kek.STATE k 1).wr Kek.CHECK k (kekCheck (natLE len v))).bump Kek.WRITES k)

/-- Empty a KEK slot. -/
def State.kekEmpty (s : State) (k : Nat) : State :=
  ((({ s with cip := { s.cip with kek := Tbl.set 0 s.cip.kek k 0 } } : State).wr Kek.STATE k 0).wr Kek.USERS k 0).wr Kek.CHECK k 0

def kekClear (k : Nat) (s : State) : Except Status State := .ok (s.kekEmpty k)

/-! Key blobs (R184 to R186). -/

/-- The session keys that a master key and salt yield for a suite: labels 0 to 2 for SRTP, 3 to 5 for SRTCP (R175). -/
def deriveKeys (suite : Nat) (key salt : Bytes) (srtcpEnc : Bool) : KeySet :=
  let cm : Bool := suite ≤ 2
  let set (l : Nat) : SrtpKeys :=
    ⟨srtpKdf key salt l key.length, if cm then srtpKdf key salt (l + 1) 20 else [], srtpKdf key salt (l + 2) salt.length⟩
  ⟨suite, set 0, set 3, srtcpEnc⟩

/-- The key set of a well-formed plaintext for context c (Table 8.6); none where any check of it fails. -/
def blobKeys (c : Nat) (p : Bytes) : Option KeySet :=
  let suite := byteAt p 1
  match suiteSizes suite with
  | none => none
  | some (kl, sl, _, _) =>
    if byteAt p 0 = 1 && byteAt p 2 / 2 = 0 && byteAt p 3 = kl && beAt p 4 4 = c && byteAt p 8 = sl
        && allZero (slice p 9 7) && allZero (slice p (16 + kl) (32 - kl)) && allZero (slice p (48 + sl) (14 - sl))
        && allZero (slice p 62 2) then
      some (deriveKeys suite (slice p 16 kl) (slice p 48 sl) (byteAt p 2 % 2 = 1))
    else none

/-- The keys that a blob delivers to context c for host h: none where the KEK may not be named or the blob does not
unwrap to a well-formed plaintext for c. -/
def State.blobUnwrap (s : State) (h c : Nat) (b : Bytes) : Option KeySet :=
  let k := byteAt b 1
  if s.kekUsable h k then (unwrap64 (s.kekBytes k) (slice b 8 72)).bind (blobKeys c) else none

/-- The checks of R185, the lowest code first; the keys derived where all pass. A deferred transaction's repeated checks
use the keys derived at acceptance. -/
def State.installCheck (s : State) (h c : Nat) (b : Bytes) (known : Option KeySet) : Except Status KeySet :=
  let leg := c / 2
  let st := s.rd Leg.STATE leg
  let bad := byteAt b 0 != 1 || 15 < byteAt b 1 || beAt b 2 2 != 72 || !allZero (slice b 4 4)
  let keys := match known with | some k => some k | none => if b.length = 80 && !bad then s.blobUnwrap h c b else none
  match lowest [(b.length == 80 && bad, .eRange), (b.length != 80, .eLength), (b.length = 80 && keys.isNone, .eKey),
      (!(st == 1 || st == 2), .eState),
      (st == 2 && (match keys with | some k => k.suite != s.rd Ctx.SUITE c | none => false), .eState)] with
  | .error e => .error e
  | .ok () => match keys with | some k => .ok k | none => .error .eKey

/-- A send context without streams: the indices of the subscriptions on its leg restart with roll-over counter 0
(R179, R186). -/
def State.freshIndices (s : State) (c : Nat) : State :=
  if c % 2 = 0 then s
  else
    ((s.fwd.subs.map (·.1)).filter (fun h => s.rd Sub.LEG h == c / 2)).foldl (fun s h =>
      { s with fwd := { s.fwd with subs := Tbl.upd {} s.fwd.subs h (fun x => { x with base := none, sent := [] }) } }) s

/-- The new generation comes into force (R186, R191). -/
def State.installKeys (s : State) (c kek : Nat) (k : KeySet) : State :=
  let x := s.ctxX c
  let hold := s.rd Ctx.PREV_HOLD c
  let prev := match x.keys with
    | some o => if c % 2 = 0 && hold ≠ 0 then some (o, s.phys + hold * cycMs) else none
    | none => none
  let s := if x.keys.isNone then s.freshIndices c else s
  let s := ((s.beforeCommit c).ctxSet c { (s.beforeCommit c).ctxX c with keys := some k, prev := prev }).writeRecord c
  let s := (((s.bump Ctx.GEN c).wr Ctx.STATE c 1).wr Ctx.SUITE c k.suite).wr Ctx.KEK c kek
  let s := s.wr Ctx.WARN c 0
  let old := s.rd Leg.KEYS (c / 2)
  s.wr Leg.KEYS (c / 2) (if c % 2 = 0 then old / 2 * 2 + 1 else old % 2 + 2)

/-- A write of INSTALL. -/
def install (h c : Nat) (b : Bytes) (known : Option KeySet) (s : State) : Except Status State :=
  match s.installCheck h c b known with
  | .error e => .error e
  | .ok k => .ok (s.installKeys c (byteAt b 1) k)

/-- Clear one bit of KEYS. -/
def State.keysClear (s : State) (c : Nat) : State :=
  let old := s.rd Leg.KEYS (c / 2)
  s.wr Leg.KEYS (c / 2) (if c % 2 = 0 then old / 2 * 2 else old % 2)

/-- Empty a context, keeping SUITE and GEN; operations dispatched before are discarded when they complete (R192). -/
def State.emptyCtx (s : State) (c : Nat) : State :=
  let x := (s.beforeCommit c).ctxX c
  ((((((s.beforeCommit c).ctxSet c { x with keys := none, prev := none, streams := [], epoch := x.epoch + 1 }).writeRecord c).wr Ctx.STATE c 0).wr Ctx.STREAMS c 0).wr
    Ctx.WARN c 0).wr Ctx.KEK c 0xFF |>.keysClear c |>.freshIndices c

def State.eraseCtx (s : State) (c : Nat) : State := if s.rd Ctx.STATE c = 0 then s else s.emptyCtx c

/-- PREV_HOLD after a rewrite the previous generation's keys are dropped (R191). -/
def prevHoldExpiry (c : Nat) (s : State) : State :=
  let x := s.ctxX c
  match x.prev with
  | some (_, t) => if t ≤ s.phys then s.ctxSet c { x with prev := none } else s
  | none => s

/-- A leg is opened: both contexts return to their defaults (R180); operations of the old leg stay discarded. -/
def State.ctxOpen (s : State) (c : Nat) : State :=
  let x := s.ctxX c
  (s.ctxSet c { epoch := x.epoch + 1 }).clearEl Ctx.index c

/-! The commands of contexts and KEK slots. -/

/-- A write of ERASE. -/
def eraseWrite (c : Nat) (s : State) : Except Status State := .ok (s.eraseCtx c)

def execInstall (h context : Nat) (blob : Bytes) (s : State) : Out :=
  live (hostWriteOp h { col := Ctx.INSTALL, el := context, val := 0, blob := blob } (install h context blob none)) s

def execErase (h context : Nat) (s : State) : Out := live (hostWrite h Ctx.ERASE context 1 (eraseWrite context)) s

def execPrevHoldExpiry (context : Nat) (s : State) : Out := live (prevHoldExpiry context) s

def execKekKeyWrite (h slot key : Nat) (s : State) : Out :=
  live (hostWrite h Kek.KEY slot key (kekKeyWrite slot (s.rd Kek.LEN slot) key)) s

def execKekClear (h slot : Nat) (s : State) : Out := live (hostWrite h Kek.CLEAR slot 1 (kekClear slot)) s

/-! Writes of chapter 8 that have no row of their own. -/

/-- A write to an object of 0x2800 to 0x2830; `ws` are the writes of the transaction it stands in. -/
def cipherWrite (col el v : Nat) (ws : List WriteOp) (s : State) : Except Status State :=
  if col = Ctx.PREV_HOLD then
    if el % 2 = 1 && v ≠ 0 then .error .eRange
    else if s.rd Leg.STATE (el / 2) = 0 || s.rd Leg.STATE (el / 2) = 3 then .error .eState
    else .ok (s.wr col el v)
  else if col = Kek.LEN then
    if s.rd Kek.STATE el = 0 || ws.any (fun w => w.col == Kek.KEY && w.el == el) then .ok (s.wr col el v)
    else .error .eState
  else if col = SKek.SESSION_KEK then
    if v ≠ 0xFF && !bitOf (s.rd Kek.USERS v) el then .error .eKey else .ok (s.wr col el v)
  else .ok (s.wr col el v)

/-- The LEN that stands for slot k after the transaction with writes ws. -/
def State.lenAfter (s : State) (k : Nat) (ws : List WriteOp) : Nat :=
  match (ws.filter (fun w => w.col == Kek.LEN && w.el == k)).getLast? with
  | some w => w.val
  | none => s.rd Kek.LEN k

/-! Security alarms (R194 to R196). -/

/-- Steps 2 to 5 of Table 8.9: sessions' keys, contexts, the seal key and the KEK slots go; a new internal context key is
drawn. Legs, conferences, queues and the power state are kept. -/
def State.zeroise (s : State) : State :=
  let on := (s.column Ctx.STATE).map (·.1)
  let cs := on ++ (s.cip.ctx.map (·.1)).filter (fun c => !on.contains c)
  let s := cs.foldl (fun s c => s.emptyCtx c) s
  let s := ((s.column Leg.KEYS).map (·.1)).foldl (fun s l => s.wr Leg.KEYS l 0) s
  let s := (List.range 16).foldl (fun s k => s.kekEmpty k) s
  let s := (List.range 8).foldl (fun s h => s.wr SKek.SESSION_KEK h 0xFF) s
  let (k, s) := s.draw 256
  let (sk, s) := s.draw 256
  ({ s with cip := { s.cip with ick := k, ickWrites := 0, sealKey := sk, cache := [] } } : State).bump Alarm.ICK_GEN 0

end Sys2Proof.Machine
end

