-- ==== Sys2Proof/Machine/Egress.lean ====
section
/-! DEFINITION. Egress queues and shapers of wired legs (chapter 7, R159 to R169): token shapers, the pick, the drop
order, and leg groups. -/

namespace Sys2Proof.Machine

/-! Token shapers (R162 to R164). -/

/-- Tokens per byte. -/
abbrev tokB : Nat := 8000000

/-- k refill ticks under the values in force. Ticks add RATE × 1,000 and stop at BURST, so k of them in one sum. -/
def ShX.fill (sh : ShX) (k : Nat) : ShX :=
  if k = 0 then sh
  else { sh with tok := min (sh.tok + (k * sh.rate * 1000 : Nat)) (sh.burst * tokB : Nat), tick := sh.tick + k }

/-- The waiting values come into force at the start of their tick. -/
def ShX.apply (sh : ShX) : ShX :=
  { sh with
    rate := sh.newRate, burst := sh.newBurst
    tok := if sh.newReset then 0 else min sh.tok (sh.newBurst * tokB : Nat)
    pend := false, newReset := false }

/-- One tick of R162, as the procedure writes it. -/
def ShX.tickOnce (sh : ShX) : ShX :=
  let sh := { sh with tick := sh.tick + 1 }
  let sh := if sh.pend && sh.pendTick ≤ sh.tick then sh.apply else sh
  { sh with tok := min (sh.tok + (sh.rate * 1000 : Nat)) (sh.burst * tokB : Nat) }

/-- k ticks in turn. -/
def ShX.ticks (sh : ShX) : Nat → ShX
  | 0 => sh
  | k + 1 => (sh.tickOnce).ticks k

/-- Refill up to tick n (R162), in closed form. -/
def ShX.refill (sh : ShX) (n : Nat) : ShX :=
  if n ≤ sh.tick then sh
  else if sh.pend && sh.pendTick ≤ n then
    let a := max sh.pendTick (sh.tick + 1)
    let sh := (sh.fill (a - 1 - sh.tick)).apply
    sh.fill (n - sh.tick)
  else sh.fill (n - sh.tick)

/-- The tick of local time. -/
def State.shTick (s : State) : Nat := s.ns / 1000

/-- A commit of RATE, BURST or RESET at local time c (R163). -/
def ShX.commit (sh : ShX) (n rate burst : Nat) (reset : Bool) : ShX :=
  let sh := sh.refill n
  { sh with pend := true, pendTick := n + 1, newRate := rate, newBurst := burst, newReset := sh.newReset || reset }

/-- A shaper that starts full (R164). -/
def ShX.full (n rate burst : Nat) : ShX := { tok := (burst * tokB : Nat), tick := n, rate := rate, burst := burst }

def ShX.fits (sh : ShX) (c : Nat) : Bool := (min c sh.burst * tokB : Nat) ≤ sh.tok
def ShX.charge (sh : ShX) (c : Nat) : ShX := { sh with tok := sh.tok - (c * tokB : Nat) }

/-! Leg and group state. -/

def State.legEg (s : State) (l : Nat) : LegEg := Tbl.get {} s.egr.legs l
def State.legEgSet (s : State) (l : Nat) (x : LegEg) : State :=
  { s with egr := { s.egr with legs := Tbl.set {} s.egr.legs l x } }
def State.grpSh (s : State) (g : Nat) : ShX := Tbl.get {} s.egr.groups g
def State.grpShSet (s : State) (g : Nat) (x : ShX) : State :=
  { s with egr := { s.egr with groups := Tbl.set {} s.egr.groups g x } }

/-- The queue of a class (Table 7.1). -/
def LegEg.q (x : LegEg) (cls : Nat) : List CopyX :=
  match cls with | 0 => x.q0 | 1 => x.q1 | 2 => x.q2 | _ => x.q3
def LegEg.setQ (x : LegEg) (cls : Nat) (q : List CopyX) : LegEg :=
  match cls with
  | 0 => { x with q0 := q } | 1 => { x with q1 := q } | 2 => { x with q2 := q } | _ => { x with q3 := q }
def LegEg.all (x : LegEg) : List CopyX := x.q0 ++ x.q1 ++ x.q2 ++ x.q3

/-- TOKENS of a leg and of a group. -/
def State.legTokens (s : State) (l : Nat) : Int := ((s.legEg l).sh.refill s.shTick).tok / (tokB : Nat)
def State.grpTokens (s : State) (g : Nat) : Int := ((s.grpSh g).refill s.shTick).tok / (tokB : Nat)

/-- A commit to a leg's shaper, and to a group's. -/
def State.legShCommit (s : State) (l : Nat) (reset : Bool) : State :=
  let x := s.legEg l
  s.legEgSet l { x with sh := x.sh.commit s.shTick (s.rd Shp.RATE l) (s.rd Shp.BURST l) reset }
def State.grpShCommit (s : State) (g : Nat) (reset : Bool) : State :=
  s.grpShSet g ((s.grpSh g).commit s.shTick (s.rd LegGrp.RATE g) (s.rd LegGrp.BURST g) reset)

/-- A leg's shaper starts when the leg becomes ACTIVE. -/
def State.legShStart (s : State) (l : Nat) : State :=
  s.legEgSet l { s.legEg l with sh := ShX.full s.shTick (s.rd Shp.RATE l) (s.rd Shp.BURST l) }

/-! Congestion and drop order (R165). -/

/-- The charge of a copy: its IP length and the port's L2_OVH. -/
def State.charged (s : State) (p : Nat) (h : CopyX) : Nat := h.ipLen + s.rd Egr.L2_OVH p

/-- What becomes of a copy that reaches its class queue. -/
inductive Fate where
  | queued | yellow | green | frame
  deriving DecidableEq, Repr

/-- The layer frame of a video copy: source, spatial layer, frame number. -/
def CopyX.layerFrame (h : CopyX) : Nat × Nat × Nat := (h.src, h.frame.1, h.frame.2)

/-- The decision of R165. -/
def State.fate (s : State) (h : CopyX) (l p : Nat) : Fate :=
  let n := s.charged p h
  let ql := s.rd Egr.QLEVEL p
  let qb := s.rd Shp.QBYTES l
  let qm := s.rd Egr.QMAX p
  let lm := s.rd Shp.QMAX l
  let byColour : Fate := if h.colour = 1 then .yellow else .green
  let lvl := 100 * (ql + n) / qm
  if h.video && (s.legEg l).dropped.contains h.layerFrame then .frame
  else if qm < ql + n || lm < qb + n then byColour
  else if h.cls = 3 && s.rd Egr.TH_GRN p ≤ lvl then byColour
  else if h.colour = 1 && h.cls ≠ 0 && s.rd Egr.TH_YEL p ≤ lvl then .yellow
  else if h.colour = 1 && h.cls = 3 && s.rd Egr.TH_ENH p ≤ lvl then .yellow
  else if h.colour = 1 && h.cls ≠ 0 && lm < 2 * (qb + n) then .yellow
  else .queued

/-- A copy is dropped: its layer frame is not delivered (R166). -/
def State.dropCopy (s : State) (h : CopyX) (l p : Nat) : State :=
  let s := s.bump Egr.DROPS p
  if h.video then
    let x := s.legEg l
    s.legEgSet l { x with dropped := if x.dropped.contains h.layerFrame then x.dropped else h.layerFrame :: x.dropped }
  else s

/-- The end of a class queue. -/
def State.enqueueCopy (s : State) (h : CopyX) (l p : Nat) : State :=
  let n := s.charged p h
  let x := s.legEg l
  let s := s.legEgSet l (x.setQ h.cls (x.q h.cls ++ [{ h with charged := n }]))
  (s.bump Egr.QLEVEL p n).bump Shp.QBYTES l n

/-- A copy reaches its class queue: queued (true), or dropped and counted. A port with ENABLE 0 discards it (R83). -/
def State.egressAdmit (s : State) (h : CopyX) : State × Bool :=
  let l := h.leg
  let p := s.rd Leg.PORT l
  if !s.on Lp.ENABLE p then (s.dropCopy h l p, false)
  else match s.fate h l p with
    | .queued => (s.enqueueCopy h l p, true)
    | .yellow => ((s.bump Shp.DROP_YELLOW l).dropCopy h l p, false)
    | .green => ((s.bump Shp.DROP_GREEN l).dropCopy h l p, false)
    | .frame => ((s.bump Shp.DROP_FRAME l).dropCopy h l p, false)

/-- A leg's queued copies are discarded and counted in DROPS; its bytes return to QLEVEL. -/
def State.discardQueues (s : State) (l : Nat) : State :=
  let x := s.legEg l
  let p := s.rd Leg.PORT l
  let cs := x.all
  if cs = [] then s
  else
    let s := cs.foldl (fun s h => s.dropCopy h l p) s
    let x := s.legEg l
    let s := s.legEgSet l { x with q0 := [], q1 := [], q2 := [], q3 := [] }
    (s.drop Egr.QLEVEL p (s.rd Shp.QBYTES l)).wr Shp.QBYTES l 0

/-- A leg's queued copies that satisfy p leave its queues uncounted; their bytes return to QLEVEL. -/
def State.withdraw (s : State) (l : Nat) (p : CopyX → Bool) : State :=
  let x := s.legEg l
  let n := sumOf ((x.all.filter p).map (·.charged))
  let keep (q : List CopyX) : List CopyX := q.filter (fun c => !p c)
  let s := s.legEgSet l { x with q0 := keep x.q0, q1 := keep x.q1, q2 := keep x.q2, q3 := keep x.q3 }
  (s.drop Egr.QLEVEL (s.rd Leg.PORT l) n).drop Shp.QBYTES l n

/-- Frame numbers of a source start anew: what was dropped of it under the old ones is forgotten. -/
def State.forgetDropped (s : State) (src : Nat) : State :=
  { s with egr := { s.egr with legs := s.egr.legs.map (fun r => (r.1, { r.2 with dropped := r.2.dropped.filter (fun d => d.1 != src) })) } }

/-! The pick (R160). -/

/-- The round-robin group of a leg: its GROUP, or the implicit group 4,096. -/
def State.groupOf (s : State) (l : Nat) : Nat := if s.rd Shp.GROUP l = 0xFFFF then 4096 else s.rd Shp.GROUP l

/-- The key of a group's pointer: the implicit groups of the ports are kept apart. -/
def grpKey (p g : Nat) : Nat := if g = 4096 then 4096 + p else g

/-- Places after the last one served, wrapping. -/
def after (n last k : Nat) : Nat := (k + n - last - 1) % n

/-- The legs with a copy waiting in a class of port p. -/
def State.waitingLegs (s : State) (p cls : Nat) : List Nat :=
  (s.egr.legs.filter (fun r => (r.2.q cls) != [] && s.rd Leg.PORT r.1 == p && s.rd Leg.KIND r.1 == 0)).map (·.1)

/-- The place of leg l in the order in which a class's legs are visited. -/
def State.visit (s : State) (p cls l : Nat) : Nat :=
  let g := s.groupOf l
  after 4097 (Tbl.get 0 s.egr.lastG (4 * p + cls)) g * 131072 +
    after 131072 (Tbl.get 0 s.egr.lastL (4 * grpKey p g + cls)) l

/-- Does the head of a leg's class fit both shapers? -/
def State.headFits (s : State) (p cls l : Nat) : Bool :=
  match ((s.legEg l).q cls).head? with
  | none => false
  | some h =>
    let c := s.charged p h
    let g := s.groupOf l
    ((s.legEg l).sh.refill s.shTick).fits c && (g == 4096 || ((s.grpSh g).refill s.shTick).fits c)

/-- The leg that a class serves next: the first in visiting order whose head fits. -/
def State.pickLeg (s : State) (p cls : Nat) : Option Nat :=
  ((s.waitingLegs p cls).filter (fun l => s.headFits p cls l)).foldl (fun best l =>
    match best with
    | none => some l
    | some b => if s.visit p cls l < s.visit p cls b then some l else some b) none

/-- Take the head of a leg's class: both shapers charged, the pointers moved, the counts of Tables 7.2 and 7.4. -/
def State.take (s : State) (p cls l : Nat) : State × Option CopyX :=
  let x := s.legEg l
  match x.q cls with
  | [] => (s, none)
  | h :: rest =>
    let c := s.charged p h
    let g := s.groupOf l
    let s := s.legEgSet l { x.setQ cls rest with sh := (x.sh.refill s.shTick).charge c }
    let s := if g = 4096 then s else s.grpShSet g (((s.grpSh g).refill s.shTick).charge c)
    let s := { s with egr := { s.egr with
      lastG := Tbl.set 0 s.egr.lastG (4 * p + cls) g
      lastL := Tbl.set 0 s.egr.lastL (4 * grpKey p g + cls) l } }
    let s := (s.drop Egr.QLEVEL p h.charged).drop Shp.QBYTES l h.charged
    let s := ((s.bump Egr.TX_PKTS p).bump Egr.TX_BYTES p c).bump Shp.TX_PKTS l
    (s.bump Shp.TX_BYTES l c, some h)

/-- The next copy of a port, by strict class priority. -/
def State.pick (s : State) (p : Nat) : State × Option CopyX :=
  match ([0, 1, 2, 3].filterMap (fun cls => (s.pickLeg p cls).map (fun l => (cls, l)))).head? with
  | none => (s, none)
  | some (cls, l) => s.take p cls l

/-- The DSCP of a copy (R167). -/
def State.dscpOf (s : State) (h : CopyX) : Nat :=
  let l := h.leg
  if h.colour = 1 && s.rd Shp.DSCP_YEL l ≠ 0xFF then s.rd Shp.DSCP_YEL l
  else match h.cls with
    | 0 => s.rd Shp.DSCP_AUDIO l | 1 => s.rd Shp.DSCP_RTX l | 2 => s.rd Shp.DSCP_BASE l | _ => s.rd Shp.DSCP_ENH l

/-- The ECN bits of a leg: ECT(0) is 10, ECT(1) is 01. -/
def State.ecnOf (s : State) (l : Nat) : Nat := match s.rd Shp.ECN l with | 1 => 2 | 2 => 1 | _ => 0

/-- One's complement sum of 16-bit words (RFC 1071). -/
def onesSum (l : Bytes) : Nat :=
  let t := sumOf ((List.range (ceilDiv l.length 2)).map (fun i => beAt l (2 * i) 2))
  let f := t % 65536 + t / 65536
  f % 65536 + f / 65536

/-- An IPv4 header with its checksum (R167). -/
def ip4Head (tos len id ttl : Nat) (src dst : Bytes) : Bytes :=
  let front := natBE 1 0x45 ++ natBE 1 tos ++ natBE 2 len ++ natBE 2 id ++ natBE 2 0 ++ natBE 1 ttl ++ natBE 1 17
  let back := src ++ dst
  front ++ natBE 2 (65535 - onesSum (front ++ natBE 2 0 ++ back)) ++ back

/-- An IPv6 header. -/
def ip6Head (tc flow len hop : Nat) (src dst : Bytes) : Bytes :=
  natBE 4 (6 * 2 ^ 28 + tc * 2 ^ 20 + flow) ++ natBE 2 len ++ natBE 1 17 ++ natBE 1 hop ++ src ++ dst

/-- IPv4 written as ::ffff:a.b.c.d (R44): 80 zero bits, 16 one bits, the address. -/
def isV4 (ip : Nat) : Bool := ip % 2 ^ 96 == 0xFFFF * 2 ^ 80

/-- The IP header of a copy as it leaves: DSCP and ECN as marked, the leg's addresses, the copy's length; identification, flow
label and lifetime are free values (log 164). -/
def State.ipHead (s : State) (c : CopyX) : Bytes × State :=
  let l := c.leg
  let tos := 4 * s.dscpOf c + s.ecnOf l
  let src := s.rd Leg.LOCAL_IP l
  let dst := s.rd Leg.REMOTE_IP l
  let (id, s) := s.draw 16
  let (ttl, s) := s.draw 8
  if isV4 dst then (ip4Head tos c.ipLen id ttl (natLE 4 (src / 2 ^ 96)) (natLE 4 (dst / 2 ^ 96)), s)
  else (ip6Head tos id (c.ipLen - 40) ttl (natLE 16 src) (natLE 16 dst), s)

/-- The pointers of a port return to the lowest number when it is enabled. -/
def State.pointersReset (s : State) (p : Nat) : State :=
  { s with egr := { s.egr with
      lastG := s.egr.lastG.filter (fun r => r.1 / 4 != p)
      lastL := s.egr.lastL.filter (fun r =>
        let g := r.1 / 4
        if 4096 ≤ g then g != 4096 + p else s.rd LegGrp.PORT g != p) } }

/-! SHAPER_TICK. -/

/-- Every shaper is brought up to the present tick. -/
def shaperTick (s : State) : State :=
  { s with egr := { s.egr with
      legs := s.egr.legs.map (fun r => (r.1, { r.2 with sh := r.2.sh.refill s.shTick }))
      groups := s.egr.groups.map (fun r => (r.1, r.2.refill s.shTick)) } }

/-! Leg groups (R168, R169). -/

/-- Does group g exist for host h: a group that another TENANT opened does not? -/
def State.groupSeen (s : State) (h g : Nat) : Bool :=
  h < 2 || s.rd LegGrp.STATE g == 0 || s.rd LegGrp.OWNER g == h

/-- CMD of a leg group. -/
def legGroupCmd (h g v : Nat) (s : State) : Except Status State :=
  if !s.groupSeen h g then .error .eNoObj
  else if v = 1 then
    if s.rd LegGrp.STATE g = 1 then .error .eState
    else
      let s := (s.wr LegGrp.STATE g 1).wr LegGrp.OWNER g h
      .ok (s.grpShSet g (ShX.full s.shTick (s.rd LegGrp.RATE g) (s.rd LegGrp.BURST g)))
  else if s.rd LegGrp.STATE g = 0 || s.rd LegGrp.LEGS g ≠ 0 then .error .eState
  else .ok ((s.clearEl LegGrp.index g).grpShSet g {})

/-- A write of a leg's GROUP. -/
def groupWrite (h l v : Nat) (s : State) : Except Status State :=
  let st := s.rd Leg.STATE l
  let old := s.rd Shp.GROUP l
  match lowest [(v ≠ 0xFFFF && 4096 ≤ v, .eRange), (v < 4096 && !s.groupSeen h v, .eNoObj),
      (st = 0 || st = 3, .eState), (v < 4096 && (s.rd LegGrp.STATE v ≠ 1 || s.rd LegGrp.PORT v ≠ s.rd Leg.PORT l), .eState)] with
  | .error e => .error e
  | .ok () =>
    let s := if old = 0xFFFF then s else s.drop LegGrp.LEGS old 1
    let s := s.wr Shp.GROUP l v
    .ok (if v = 0xFFFF then s else s.bump LegGrp.LEGS v)

/-- A leg that becomes FREE leaves its group. -/
def State.leaveGroup (s : State) (l : Nat) : State :=
  let old := s.rd Shp.GROUP l
  if old = 0xFFFF then s else (s.drop LegGrp.LEGS old 1).wr Shp.GROUP l 0xFFFF

/-! Writes of chapter 7 that have no row of their own; FB_MODE starts its timeout where bit 0 is set. -/

/-- A write to an object of 0x2600 to 0x2630 other than GROUP and CMD. Where two objects bound each other the check
stands at the end of the transaction. -/
def egressWrite (h col el v : Nat) (s : State) : Except Status State :=
  let ok : Except Status State := .ok (s.wr col el v)
  let ix := col / 256
  if ix = Egr.index then
    if col = Egr.QMAX && 67108864 < sumOf ((List.range 16).map (fun p => if p = el then v else s.rd Egr.QMAX p)) then
      .error .eCapacity
    else ok
  else if ix = LegGrp.index then
    if !s.groupSeen h el then .error .eNoObj
    else if s.rd LegGrp.STATE el = 0 then (if col = LegGrp.RESET then .ok s else ok)
    else if col = LegGrp.PORT then .error .eState
    else if col = LegGrp.RESET then .ok (s.grpShCommit el true)
    else .ok ((s.wr col el v).grpShCommit el false)
  else
    let st := s.rd Leg.STATE el
    let live := st = 2 && s.rd Leg.KIND el = 0
    if st = 0 || st = 3 then .error .eState
    else if col = Shp.RESET then (if live then .ok (s.legShCommit el true) else .ok s)
    else if col = Shp.RATE || col = Shp.BURST then
      (if live then .ok ((s.wr col el v).legShCommit el false) else ok)
    else if col = Line.FB_MODE then
      (if v % 2 = 1 then
        let x := s.legEg el
        .ok ((s.wr col el v).legEgSet el { x with line := { x.line with from_ := s.phys } })
       else ok)
    else ok

/-! The commands. -/

def execShaperTick (s : State) : Out := live shaperTick s

def execLegGroupOpen (h g : Nat) (s : State) : Out := live (hostWrite h LegGrp.CMD g 1 (legGroupCmd h g 1)) s

def execLegGroupClose (h g : Nat) (s : State) : Out := live (hostWrite h LegGrp.CMD g 2 (legGroupCmd h g 2)) s

def execGroupWrite (h l group : Nat) (s : State) : Out := live (hostWrite h Shp.GROUP l group (groupWrite h l group)) s

end Sys2Proof.Machine
end

