-- ==== Sys2Proof/Machine/Stream.lean ====
section
/-! DEFINITION. Sources as streams (R50, R104 to R111): present layers and their rates, the operating point of a
subscription, what has been delivered, and the size of a rewritten packet. -/

namespace Sys2Proof.Machine

def State.srcX (s : State) (src : Nat) : SrcX := Tbl.get {} s.fwd.srcs src
def State.srcUpd (s : State) (src : Nat) (f : SrcX → SrcX) : State :=
  { s with fwd := { s.fwd with srcs := Tbl.upd {} s.fwd.srcs src f } }
def State.subX (s : State) (h : Nat) : SubX := Tbl.get {} s.fwd.subs h
def State.subUpd (s : State) (h : Nat) (f : SubX → SubX) : State :=
  { s with fwd := { s.fwd with subs := Tbl.upd {} s.fwd.subs h f } }
def State.legX (s : State) (l : Nat) : LegX := Tbl.get {} s.fwd.legs l
def State.legUpd (s : State) (l : Nat) (f : LegX → LegX) : State :=
  { s with fwd := { s.fwd with legs := Tbl.upd {} s.fwd.legs l f } }

/-- A packet of the store. -/
def State.pkt? (s : State) (n : Nat) : Option PktX := (s.fwd.store.find? (fun r => r.1 == n)).map (·.2)

/-- Is the leg a radio leg? -/
def State.radio (s : State) (l : Nat) : Bool := s.rd Leg.KIND l == 1

/-! Layers (R50, R109). -/

/-- Was layer l of the source seen within the last 2 s? -/
def State.layerPresent (s : State) (src l : Nat) : Bool :=
  let c := Tbl.get 0 (s.srcX src).seen l
  c != 0 && s.since (c - 1) ≤ 2 * cycS

/-- LAYERS. -/
def State.layersOf (s : State) (src : Nat) : Nat :=
  sumOf ((List.range 12).map (fun l => if s.layerPresent src l then 2 ^ l else 0))

/-- KBPS of a layer: the IP bytes of its packets committed within the last second. -/
def State.kbps (s : State) (src l : Nat) : Nat :=
  8 * sumOf (((s.srcX src).bytes.filter (fun b => b.2.1 == l && s.since b.1 < cycS)).map (·.2.2)) / 1000

/-- Layer x is covered by operating point c (R109). -/
def covered (smode c x : Nat) : Bool := x % 4 ≤ c % 4 && (x / 4 == c / 4 || (x / 4 < c / 4 && smode == 0))

/-- SMODE of a source: a device-produced HEVC or AVC source reads 1 (Table 5.4). -/
def State.smode (s : State) (src : Nat) : Nat :=
  if s.rd Src.STATE src = 1 && s.rd Src.LEG src = 0xFFFFFFFF && (s.rd Src.CODEC src = 17 || s.rd Src.CODEC src = 18) then 1
  else s.rd SrcFwd.SMODE src

/-- CUR_LAYER as it stands: none while no layer of a video source is present (R60). -/
def State.curLayer (s : State) (h : Nat) : Nat :=
  let src := s.rd Sub.SOURCE h
  if s.rd Src.MEDIA src = 1 && s.layersOf src = 0 then 0xFF else s.rd Sub.CUR_LAYER h

/-- The layer ceiling of a subscription: spatial and temporal limits taken apart (R52). -/
def State.limits (s : State) (h : Nat) : Nat × Nat :=
  let m := s.rd Sub.MAX_LAYER h
  let c := s.rd Leg.CEIL_LAYER (s.rd Sub.LEG h)
  (min (m / 4) (c / 4), min (m % 4) (c % 4))

/-- best_layer of R110. -/
def State.bestLayer (s : State) (h : Nat) : Nat :=
  let lim := s.limits h
  let src := s.rd Sub.SOURCE h
  (([11, 10, 9, 8, 7, 6, 5, 4, 3, 2, 1, 0].filter
    (fun l => s.layerPresent src l && l / 4 ≤ lim.1 && l % 4 ≤ lim.2)).head?).getD 0

/-- need of R148: the rate that layer ceiling l asks of a leg. -/
def State.need (s : State) (leg l : Nat) : Nat :=
  sumOf (((s.subsOfLeg leg).filter (fun h => s.rd Src.MEDIA (s.rd Sub.SOURCE h) == 1)).map (fun h =>
    let src := s.rd Sub.SOURCE h
    let m := s.rd Sub.MAX_LAYER h
    let c := 4 * min (l / 4) (m / 4) + min (l % 4) (m % 4)
    sumOf (((List.range 12).filter (fun x => s.layerPresent src x && covered (s.smode src) c x)).map
      (fun x => s.kbps src x))))

/-- The ceiling that a rate r carries, from its headroom and audio reserve (R148). -/
def State.candidate (s : State) (leg r headroom audioRes : Nat) : Nat :=
  let avail : Int := ((r * headroom / 100 : Nat) : Int) - (audioRes : Nat)
  (([11, 10, 9, 8, 7, 6, 5, 4, 3, 2, 1].filter (fun l => (s.need leg l : Int) ≤ avail)).head?).getD 0

/-- The next ceiling and count of windows: down at once, up after up_windows windows. -/
def ceilingStep (cand ceil up upWindows : Nat) : Nat × Nat :=
  if cand < ceil then (cand, 0)
  else if ceil < cand then (if upWindows ≤ up + 1 then (cand, 0) else (ceil, up + 1))
  else (ceil, 0)

/-- The lower of two layer ids, spatial layer first and then temporal layer (R44). -/
def lowerLayer (a b : Nat) : Nat := min a b

/-! Delivery (R107, R166). -/

/-- A layer frame of a subscription was delivered. -/
def State.subDelivered (s : State) (h sl fn : Nat) : State :=
  s.subUpd h (fun x => { x with deliv := (sl, fn) :: x.deliv })

/-- A layer frame of a subscription is not delivered: what follows a frame counted by temporal id, or the previous
frame, is withheld until the next switch point. -/
def State.subLost (s : State) (h sl fn t : Nat) : State :=
  s.subUpd h (fun x =>
    { x with
      deliv := x.deliv.filter (fun d => d != (sl, fn))
      lostT := if Tbl.get 0 x.clearAt t ≤ fn + 1 && !x.lostT.contains t then t :: x.lostT else x.lostT
      prevBad := true })

/-- n bytes from byte `from_` on of a unit of coded video that the device makes. -/
def videoBytes (unit : List Nat) (from_ n : Nat) : Bytes := (List.range n).map (fun i => Config.videoByte unit (from_ + i))

/-- The bytes of a tag's layer descriptor (Table 5.2). -/
def TagX.ld (t : TagX) : Bytes :=
  let tref := match t.refs.find? (fun r => r.1 == t.s) with | some r => min (t.fn - r.2) 255 | none => 0
  let sref : Bool := t.refs.any (fun r => r.1 + 1 == t.s && r.2 == t.fn)
  natLE 1 (64 + 16 * t.s + 4 * t.t + 2 * t.sof.toNat + t.eof.toNat) ++
    natLE 1 (128 * (t.switchFor.contains (4 * t.s + t.t)).toNat + 64 * t.sp.toNat + 32 * t.ia.toNat + 16 * t.di.toNat) ++
    natBE 2 t.fn ++ natLE 1 tref ++ natLE 1 (128 * sref.toNat) ++ natLE 1 t.group ++ [0]

/-- The mandatory fields of a dependency descriptor (AV1 RTP): start and end of frame, template, frame number; then `more`
bytes of the template structure, free values as the template is. -/
def State.ddBytes (s : State) (t : TagX) (more : Nat) : Bytes × State :=
  let (k, s) := s.draw 6
  let (x, s) := if more = 0 then (0, s) else s.draw (8 * more)
  (natLE 1 (128 * t.sof.toNat + 64 * t.eof.toNat + k) ++ natBE 2 t.fn ++ natLE more x, s)

/-! NACK history (R116). -/

/-- A forwarded video packet enters its leg's history of the last HIST_PKTS packets. -/
def State.histAdd (s : State) (c : CopyX) (sub : Nat) : State :=
  let pkt : Option Nat := match c.body with
    | .media n => some n | .mosaic _ _ _ => some 0 | .override _ _ => some 0 | _ => none
  match pkt with
  | some n =>
    if c.video then
      let e : HistX := { sub := sub, seq := c.seq % 65536, pkt := n, colour := c.colour, atC := s.phys, sent := false,
                         lastSent := s.phys, copy := c }
      s.legUpd c.leg (fun x => { x with hist := (e :: x.hist).take (s.rd LegFb.HIST_PKTS c.leg) })
    else s
  | none => s

/-- A copy has left: the history entry it belongs to may be served from now on, and its resend hold restarts. A
retransmission counts in RTX_SENT. -/
def State.histSent (s : State) (c : CopyX) : State :=
  let mark (ssrc seq : Nat) (s : State) : State := s.legUpd c.leg (fun x => { x with hist := x.hist.map (fun e =>
    if e.copy.ssrc = ssrc && e.seq = seq then { e with sent := true, lastSent := s.phys } else e) })
  match c.body with
  | .rtx ssrc osn => mark ssrc osn (s.bump LegFb.RTX_SENT c.leg)
  | _ => if c.video then mark c.ssrc (c.seq % 65536) s else s

/-- The history entries that still count: among the last HIST_PKTS, and forwarded less than HIST_MS ago. -/
def State.histLive (s : State) (l : Nat) : List HistX :=
  ((s.legX l).hist.take (s.rd LegFb.HIST_PKTS l)).filter (fun e => s.since e.atC < s.rd LegFb.HIST_MS l * cycMs)

/-! Sizes (R112, R160). -/

/-- IP and UDP header bytes toward a leg. -/
def State.ipHdr (s : State) (l : Nat) : Nat := if isV4 (s.rd Leg.REMOTE_IP l) then 28 else 48

/-- The extension ID that a kept element takes on a leg. -/
def State.extId (s : State) (l kind : Nat) : Nat :=
  match kind with | 0 => s.rd LegIn.AL_EXT l | 1 => s.rd LegIn.DD_EXT l | _ => s.rd LegIn.LD_EXT l

/-- Bytes of the header extension block of kept elements (RFC 8285): none without elements; one-byte headers where every
element fits them, two-byte headers otherwise. -/
def extBytes (els : List (Nat × Nat)) : Nat :=
  if els = [] then 0
  else if els.all (fun e => 1 ≤ e.1 && e.1 ≤ 14 && 1 ≤ e.2 && e.2 ≤ 16) then 4 + roundUp 4 (sumOf (els.map (fun e => e.2 + 1)))
  else 4 + roundUp 4 (sumOf (els.map (fun e => e.2 + 2)))

/-- The elements that a leg receives of those kept: renumbered, and without those whose ID is 0 (R112). -/
def State.legExts (s : State) (l : Nat) (kept : List (Nat × Bytes)) : List (Nat × Bytes) :=
  (kept.map (fun e => (s.extId l e.1, e.2))).filter (fun e => e.1 != 0)

/-- IP length of a packet's copy as it leaves toward a leg: rewritten, with its tag; `extra` is 2 for a retransmission's
original sequence number. -/
def State.copyLen (s : State) (l : Nat) (p : PktX) (extra : Nat) : Nat :=
  let els := (s.legExts l p.exts).map (fun e => (e.1, e.2.length))
  s.ipHdr l + 12 + 4 * p.csrcs + extBytes els + extra + p.payLen + srtpTag (s.rd Ctx.SUITE (txCtx l))

/-- The header extension block of kept elements, in the form of `extBytes`. -/
def extBlock (els : List (Nat × Bytes)) : Bytes :=
  if els = [] then []
  else
    let one : Bool := els.all (fun e => 1 ≤ e.1 && e.1 ≤ 14 && 1 ≤ e.2.length && e.2.length ≤ 16)
    let b := els.flatMap (fun e =>
      (if one then natBE 1 (16 * e.1 + e.2.length - 1) else natBE 1 e.1 ++ natBE 1 e.2.length) ++ e.2)
    let n := roundUp 4 b.length
    (if one then natBE 2 0xBEDE else natBE 2 0x1000) ++ natBE 2 (n / 4) ++ padTo n b

/-- The packet that a copy of media or a retransmission refers to. -/
def State.pktOf (s : State) (c : CopyX) : Option PktX :=
  match c.body with
  | .media n => s.pkt? n
  | .rtx _ _ => c.holds.head?.bind s.pkt?
  | _ => none

/-- The RTP header of a copy (R112). -/
def State.rtpHead (s : State) (c : CopyX) : Bytes :=
  let csrc := ((s.pktOf c).map (·.csrc)).getD []
  let pad := ((s.pktOf c).map (·.pad)).getD false
  natBE 1 (128 + 32 * pad.toNat + 16 * (c.exts != []).toNat + csrc.length / 4) ++ natBE 1 (128 * c.marker.toNat + c.pt) ++
    natBE 2 c.seq ++ natBE 4 c.ts ++ natBE 4 c.ssrc ++ csrc ++ extBlock c.exts

/-- Its payload: that of its packet, after the original number in a retransmission (RFC 4588). -/
def State.rtpBody (s : State) (c : CopyX) : Bytes :=
  let b := ((s.pktOf c).map (·.payload)).getD c.payload
  match c.body with | .rtx _ osn => natBE 2 osn ++ b | _ => b

/-- A copy as it leaves the cipher engine: its SRTP or SRTCP packet under the send context's keys (R175, R176). -/
def State.sealCopy (s : State) (c : CopyX) : CopyX :=
  match s.ctxKeys (txCtx c.leg), c.body with
  | none, _ => c
  | some k, .rtcp parts => { c with sealed := srtcpSeal k c.ssrc c.seq c.e (parts.flatMap rtcpBytes) }
  | some k, _ => { c with sealed := srtpSeal k c.ssrc c.seq (s.rtpHead c) (s.rtpBody c) }

/-- Would a copy exceed 9,216 bytes after its tag (Table 8.7)? -/
def CopyX.tooLong (c : CopyX) : Bool := 9216 < c.ipLen

/-- RTP bytes of a copy: its IP length less the IP and UDP headers and the SRTP tag. -/
def State.rtpLen (s : State) (c : CopyX) : Nat := c.ipLen - s.ipHdr c.leg - srtpTag (s.rd Ctx.SUITE (txCtx c.leg))

/-- A packet has been forwarded on a subscription: its counts and what its next SR needs. -/
def State.countOut (s : State) (h : Nat) (c : CopyX) (atNs : Nat) : State :=
  ((s.bump SubFwd.PKTS h).bump SubFwd.BYTES h (s.rtpLen c)).subUpd h (fun x => { x with
    mediaSince := true
    sentPkts := x.sentPkts + 1
    sentBytes := x.sentBytes + c.octets
    lastTs := some (c.ts, atNs) })

/-- Bytes of one part of a compound RTCP packet. -/
def rtcpLen : Rtcp → Nat
  | .sr _ _ _ _ _ b => 28 + 24 * b.length
  | .rr _ b => 8 + 24 * b.length
  | .sdes _ cname => 4 + roundUp 4 (4 + 2 + (cname.log2 / 8 + 1) + 1)
  | .bye _ => 8
  | .nack _ _ n => 12 + 4 * n.length
  | .pli _ _ => 12
  | .fir _ _ _ => 20
  | .tmmbr e => 12 + 8 * e.length
  | .tmmbn e => 12 + 8 * e.length
  | .ccfb r => 12 + 2 * r.length
  | .other => 8

/-- IP length of a compound SRTCP packet toward a leg: with the E and index word and the tag. -/
def State.rtcpCopyLen (s : State) (l : Nat) (parts : List Rtcp) : Nat :=
  s.ipHdr l + sumOf (parts.map rtcpLen) + 4 + srtcpTag (s.rd Ctx.SUITE (txCtx l))

end Sys2Proof.Machine
end

