-- ==== Sys2Proof/Machine/Mem.lean ====
section
/-! DEFINITION. HBM as bytes behind its ports (R352 to R364, R376 to R379): the address map, row activation and its tables, the
controller and the arbiter of each pseudo-channel port, poison, and shared memory. -/

namespace Sys2Proof.Machine

/-! The address map (R353). -/

/-- Unit number of the k-th pseudo-channel in the order HS0.PC0, HS1.PC0, HS0.PC1, ... -/
def pcOrder (k : Nat) : Nat := 32 * (k % 2) + k / 2

/-- The pseudo-channels in service, in the order of R353. -/
def State.pcList (s : State) : List Nat :=
  ((List.range 64).map pcOrder).filter (fun i => !bitOf (s.rd Hbm.FENCED 0) i)

/-- Where a logical byte address lies. -/
structure Place where
  pc : Nat
  bank : Nat
  row : Nat
  column : Nat
  deriving DecidableEq, Repr

/-- locate of R353 over a list of pseudo-channels. -/
def locateIn (l : List Nat) (a : Nat) : Place :=
  let g := a / 256
  let o := g / l.length * 256 + a % 256
  ⟨l.getD (g % l.length) 0, o / 1024 % 32, o / 32768, o % 1024⟩

def State.locate (s : State) (a : Nat) : Place := locateIn s.pcList a

/-- CAP in bytes. -/
def State.capBytes (s : State) : Nat := s.rd Hbm.CAP_MIB 0 * 2 ^ 20

/-- Byte offsets of the reserved region's parts (Table 16.2). -/
abbrev mib : Nat := 1048576
abbrev eventRingAt : Nat := 768 * mib
abbrev traceRingAt : Nat := 1024 * mib
abbrev storeBase : Nat := 2048 * mib
abbrev poolAt : Nat := 4096 * mib

/-! Pseudo-channels. -/

def State.pcX (s : State) (i : Nat) : PcX := Tbl.get {} s.mem.pcs i
def State.pcUpd (s : State) (i : Nat) (f : PcX → PcX) : State :=
  { s with mem := { s.mem with pcs := Tbl.upd {} s.mem.pcs i f } }

/-- The index of the smallest count, lowest index first. -/
def minIndex (l : List (Nat × Nat)) : Nat :=
  ((l.zipIdx).foldl (fun (b : Nat × Nat) e => if e.1.2 < b.1 then (e.1.2, e.2) else b) ((l.headD (0, 0)).2, 0)).2

/-- on_activate of R359 on a bank's table: the table after, and whether the row's neighbours are refreshed. -/
def rowActivate (th : Nat) (t : List (Nat × Nat)) (r : Nat) : List (Nat × Nat) × Bool :=
  let t := if t.any (fun e => e.1 == r) then t
    else if t.length < 16 then t ++ [(r, 0)]
    else t.set (minIndex t) (r, (t.getD (minIndex t) (0, 0)).2)
  let c := ((t.find? (fun e => e.1 == r)).map (·.2)).getD 0 + 1
  if th ≤ c then
    let others := (t.filter (fun e => e.1 != r)).map (·.2)
    -- with fewer than 15 other entries a free entry counts as 0
    let least := if others.length < 15 then 0 else others.foldl min (others.headD 0)
    (t.map (fun e => if e.1 = r then (r, least) else e), true)
  else (t.map (fun e => if e.1 = r then (r, c) else e), false)

/-- The neighbours of a row within its bank. -/
def neighbours (r : Nat) : Nat := ([r + 1, r + 2].filter (· ≤ 24575)).length + min r 2

/-- The refresh window (R358), cycles. -/
def State.window (s : State) (i : Nat) : Nat := (if s.on Stk.HOT (i / 32) then 16 else 32) * cycMs

/-- A refresh window that has ended is followed by the next: every row table cleared, RD_TH read (R359). -/
def State.windowStart (s : State) (i : Nat) : State :=
  let x := s.pcX i
  if s.since x.winAt < s.window i then s
  else
    let th := s.rd Hbm.RD_TH 0
    s.pcUpd i (fun x => { x with
      winAt := x.winAt + s.since x.winAt / s.window i * s.window i
      rdTh := th
      banks := x.banks.map (fun r => (r.1, { r.2 with rows := [] })) })

/-- A bank's row is activated where it is not open. A window that starts in the cycle starts first. A rolling activate
count that reaches RAAIMT is answered by a refresh management command, which takes RAAIMT from it (R358). -/
def State.activate (s : State) (p : Place) : State :=
  let s := s.windowStart p.pc
  let x := s.pcX p.pc
  let b := Tbl.get {} x.banks p.bank
  if b.row = some p.row then s
  else
    let t := rowActivate x.rdTh b.rows p.row
    let lim := s.rd Stk.RAAIMT (p.pc / 32)
    let rfm : Bool := lim != 0 && decide (lim ≤ b.raa + 1)
    let raa := if rfm then b.raa + 1 - lim else b.raa + 1
    let s := s.pcUpd p.pc (fun x => { x with banks := Tbl.set {} x.banks p.bank { b with row := some p.row, raa := raa, rows := t.1 } })
    let s := if rfm then s.bump Pc.RFM p.pc else s
    if t.2 then s.bump Pc.NEIGHBOUR p.pc (neighbours p.row) else s

/-! Controllers (R356, R357). -/

/-- Reads or writes in a controller. -/
def PcX.count (x : PcX) (write : Bool) : Nat := (x.queue.filter (fun q => q.write == write)).length

/-- A granted request enters its controller. A read that finds an earlier write to its bank and row puts the bank into
in-order mode. -/
def State.enqueue (s : State) (i : Nat) (r : CtlReq) : State :=
  let x := s.pcX i
  let ws := x.queue.filter (fun q => q.write && q.bank == r.bank)
  let enters := !r.write && (Tbl.get {} x.banks r.bank).before == 0 && ws.any (fun q => q.row == r.row)
  let s := (s.pcUpd i (fun x => { x with
    queue := x.queue ++ [r]
    banks := if enters then Tbl.upd {} x.banks r.bank (fun b => { b with before := ws.length }) else x.banks })).bump APort.OUTSTANDING i
  if enters then s.bump Pc.IN_ORDER i else s

/-- mode of R356. With writes and no reads the drain holds also at 16 writes and below. -/
def PcX.mode (x : PcX) : Bool :=
  let w := x.count true
  let r := x.count false
  if w ≤ 16 && (r != 0 || w == 0) then false else x.drain || 48 ≤ w || (0 < w && r == 0)

/-- next of R356 for a bank: the place of the request in the queue, and whether it is taken as a hit on the open row. -/
def PcX.nextOf (x : PcX) (b : Nat) : Option (Nat × Bool) :=
  let bank := Tbl.get {} x.banks b
  let mine := x.queue.zipIdx.filter (fun q => q.1.bank == b)
  if bank.before ≠ 0 then (mine.head?).map (fun q => (q.2, false))
  else
    let src := mine.filter (fun q => q.1.write == x.drain &&
      !(q.1.write && mine.any (fun e => e.2 < q.2 && !e.1.write && e.1.row == q.1.row)))
    match src.find? (fun q => bank.row == some q.1.row) with
    | some h => if bank.hits < 16 then some (h.2, true) else (src.head?).map (fun q => (q.2, false))
    | none => (src.head?).map (fun q => (q.2, false))

/-- A request leaves the queue for its bank. -/
def State.issueAt (s : State) (i k : Nat) (hit : Bool) : State :=
  match (s.pcX i).queue[k]? with
  | none => s
  | some r =>
    let s := (s.pcUpd i (fun x => { x with
      queue := x.queue.eraseIdx k
      banks := Tbl.upd {} x.banks r.bank (fun b => if b.before = 0 then { b with hits := if hit then b.hits + 1 else 0 }
        else { b with before := if r.write then b.before - 1 else b.before }) })).drop APort.OUTSTANDING i 1
    s.activate ⟨i, r.bank, r.row, 0⟩

/-- Does a request wait for its bank: its activate would pass RAAMMT (R358)? -/
def State.heldBack (s : State) (i : Nat) (r : CtlReq) : Bool :=
  let lim := s.rd Stk.RAAMMT (i / 32)
  let b := Tbl.get {} (s.pcX i).banks r.bank
  lim != 0 && b.row != some r.row && decide (lim < b.raa + 1)

/-- One request of a controller is issued. Which bank is ready for a command is a matter of JESD238's timing: of the banks with
a request to issue it is a free value. -/
def State.issue (s : State) (i : Nat) : State :=
  let s := if (s.pcX i).queue = [] then s else s.pcUpd i (fun x => { x with drain := x.mode })
  let ready := ((List.range 32).filterMap (s.pcX i).nextOf).filter (fun n =>
    match (s.pcX i).queue[n.1]? with | some r => !s.heldBack i r | none => false)
  if ready = [] then s
  else
    let (k, s) := s.draw 5
    match ready[k % ready.length]? with
    | some n => s.issueAt i n.1 n.2
    | none => s

/-- Every queued request is issued, before self-refresh (R360). -/
def State.flush (s : State) (i : Nat) : State := (s.pcX i).queue.foldl (fun s _ => s.issueAt i 0 false) s

/-! Port arbiters (R377 to R379). -/

/-- Is an entry one of an urgent channel's mover (R385)? -/
def State.urgent (s : State) (q : ParkX) : Bool := q.mover.isSome && s.dma.any (fun r => r.2.part.isSome && r.2.mover == q.mover)

/-- The effective priority of an entry: 0 where it is aged or urgent. -/
def State.effPrio (s : State) (q : ParkX) : Nat :=
  if s.rd Arb.AGE_MAX 0 ≤ s.since q.since || s.urgent q then 0 else s.rd Rqr.PRIO q.req

/-- Is a port frozen? -/
def State.frozen (s : State) (i : Nat) : Bool := s.on APort.CAPO i

/-- Requesters after the last one served, wrapping at 24. -/
def rrOrder (last : Nat) : List Nat := (List.range 24).map (fun k => (last + 1 + k) % 24)

/-- The requester that a port grants next: the first in round-robin order with an entry of the least effective priority. -/
def State.arbitrate (s : State) (i : Nat) : Option Nat :=
  let x := s.pcX i
  if s.on APort.CAPO i then none
  else match x.parked with
    | [] => none
    | q :: qs =>
      let best := qs.foldl (fun b e => min b (s.effPrio e)) (s.effPrio q)
      (rrOrder x.last).find? (fun r => x.parked.any (fun e => e.req == r && s.effPrio e == best))

/-- Take the oldest entry of a requester out of a list. -/
def dropOldest (r : Nat) : List ParkX → List ParkX
  | [] => []
  | q :: qs => if q.req = r then qs else q :: dropOldest r qs

/-- A grant: the entry's request enters the controller. -/
def State.grant (s : State) (i : Nat) (q : ParkX) : State :=
  ((s.pcUpd i (fun x => { x with last := q.req, grantAt := some s.phys })).bump APort.GRANTS i).enqueue i ⟨q.write, q.bank, q.row⟩

/-- The oldest request held at a requester is parked in the place that has come free. -/
def State.unwait (s : State) (i r : Nat) : State :=
  match (s.pcX i).waits.find? (fun q => q.req == r) with
  | none => s
  | some q => (s.pcUpd i (fun x => { x with
      parked := x.parked ++ [{ q with since := s.phys }], waits := dropOldest r x.waits })).bump APort.PARKED i

/-- One arbiter cycle of a port: at most one grant, and none to a request that the controller has no room for. -/
def State.portCycle (s : State) (i : Nat) : State :=
  match s.arbitrate i with
  | none => s
  | some r =>
    match (s.pcX i).parked.find? (fun q => q.req == r) with
    | none => s
    | some q =>
      if 64 ≤ (s.pcX i).count q.write then s
      else
        let s := if s.rd Arb.AGE_MAX 0 ≤ s.since q.since then s.bump Rqr.AGED r else s
        let s := (s.pcUpd i (fun x => { x with parked := dropOldest r x.parked })).drop APort.PARKED i 1
        (s.grant i q).unwait i r

/-- A request of a requester at a port: granted in the cycle it arrives, if that cycle has no other grant, or parked; a fifth
one of a requester waits at the requester. -/
def State.request (s : State) (req : Nat) (write : Bool) (p : Place) (mover : Option Nat := none) : State :=
  let i := p.pc
  let x := s.pcX i
  let q : ParkX := ⟨req, mover, s.phys, write, p.bank, p.row⟩
  if !s.frozen i && x.parked == [] && x.grantAt != some s.phys && x.count write < 64 then s.grant i q
  else if 4 ≤ (x.parked.filter (fun e => e.req == req)).length then s.pcUpd i (fun x => { x with waits := x.waits ++ [q] })
  else (s.pcUpd i (fun x => { x with parked := x.parked ++ [q] })).bump APort.PARKED i

/-- The granules that n bytes from a touch. -/
def granules (a n : Nat) : List Nat := if n = 0 then [] else (List.range ((a + n - 1) / 256 - a / 256 + 1)).map (· + a / 256)

/-- The requests of an access: one per granule. -/
def State.touch (s : State) (req a n : Nat) (write : Bool := false) (mover : Option Nat := none) : State :=
  (granules a n).foldl (fun s g => s.request req write (s.locate (256 * g)) mover) s

/-! Bytes. -/

/-- Bytes of a table from an address on. -/
def peek (t : Tbl Byte) (a n : Nat) : Bytes := (List.range n).map (fun i => Tbl.get 0 t (a + i))

/-- Store bytes. -/
def poke : Tbl Byte → Nat → Bytes → Tbl Byte
  | t, _, [] => t
  | t, a, b :: bs => poke (Tbl.set 0 t a b) (a + 1) bs

/-- HBM bytes as they stand. -/
def State.hbmGet (s : State) (a n : Nat) : Bytes := peek s.mem.hbm a n

/-- The check bits of the word at an address, over the word and its offset within its pseudo-channel; a poisoned word's are the check
pattern that never decodes (R361, R362). -/
def State.checkAt (s : State) (a : Nat) : BitVec 8 :=
  let w := a / 8
  let p := s.locate (8 * w)
  if s.mem.poison.contains w then Config.poisonCheck
  else Config.wordCheck (BitVec.ofNat 64 (leNat (s.hbmGet (8 * w) 8))) (p.row * 32768 + p.bank * 1024 + p.column)

/-- Does an access meet a poisoned word (R362)? -/
def State.poisonedAt (s : State) (a n : Nat) : Bool := s.mem.poison.any (fun w => a < 8 * w + 8 && 8 * w < a + n)

/-- Cycles in 24 h. -/
abbrev cycDay : Nat := 86400 * cycS

/-- A pseudo-channel becomes DEGRADED: cause 4 UE count, 5 tracking (R364, R367). -/
def State.degrade (s : State) (i cause : Nat) : State :=
  if s.rd Pc.STATE i ≠ 0 then s
  else
    (((s.wr Pc.STATE i 1).wr Pc.CAUSE i cause).wr Hbm.DEGRADED 0 (s.rd Hbm.DEGRADED 0 ||| 2 ^ i)).raise
      Ev.HBM_PC_DEGRADED i toPlatform cause

/-- An uncorrectable word is delivered (R362): counted, HBM_UE with its offset in the pseudo-channel; the second one within
24 hours degrades the pseudo-channel (R364). -/
def State.countUe (s : State) (a : Nat) : State :=
  let p := s.locate a
  let l := s.phys :: (s.pcX p.pc).ueAt.filter (fun c => s.since c < cycDay)
  let s := ((s.bump Pc.UE p.pc).pcUpd p.pc (fun x => { x with ueAt := l })).raise Ev.HBM_UE p.pc toPlatform
    (p.row * 32768 + p.bank * 1024 + p.column)
  if 2 ≤ l.length then s.degrade p.pc 4 else s

/-- The poisoned words that an access meets are delivered with their flag. -/
def State.meetPoison (s : State) (a n : Nat) : State :=
  (s.mem.poison.filter (fun w => decide (a < 8 * w + 8 && 8 * w < a + n))).foldl (fun s w => s.countUe (8 * w)) s

/-- Words corrected in a granule: counted by the hour; above CE_THRESH in one hour, HBM_CE_RATE (R361, R364). -/
def State.countCe (s : State) (i n : Nat) : State :=
  if n = 0 then s
  else
    let hour := s.phys / (3600 * cycS)
    let had := if (s.pcX i).ceHour.1 = hour then (s.pcX i).ceHour.2 else 0
    let th := s.rd Hbm.CE_THRESH 0
    let s := (s.bump Pc.CE i n).pcUpd i (fun x => { x with ceHour := (hour, had + n) })
    if th ≠ 0 && had ≤ th && th < had + n then s.raise Ev.HBM_CE_RATE i toPlatform 0 else s

/-- A read of a granule meets errors: corrected words are counted and the granule queued for repair; the others are
poisoned. -/
def State.readErr (s : State) (e : ReadErr) : State :=
  let p := s.locate (256 * e.granule)
  let s := s.countCe p.pc e.corrected
  let s := if e.corrected = 0 || s.mem.repair.contains e.granule then s
    else { s with mem := { s.mem with repair := s.mem.repair ++ [e.granule] } }
  let ws := (e.bad.filter (· < 32)).map (fun w => 32 * e.granule + w)
  { s with mem := { s.mem with poison := s.mem.poison ++ ws.filter (fun w => !s.mem.poison.contains w) } }

/-- Errors that an access to n bytes from a meets before its words are delivered. -/
def State.readErrs (s : State) (a n : Nat) (es : List ReadErr) : State :=
  (es.filter (fun e => (granules a n).contains e.granule)).foldl (fun s e => s.readErr e) s

/-- A read by a requester. -/
def State.hbmRead (s : State) (req a n : Nat) : Bytes × State := (s.hbmGet a n, s.touch req a n)

/-- Bytes stored: poison of a word ends where it is overwritten, and a granule's waiting repair is dropped, since the write
restores its check bits (R362, R363). -/
def State.hbmPut (s : State) (a : Nat) (bs : Bytes) : State :=
  let n := bs.length
  { s with mem := { s.mem with
    hbm := poke s.mem.hbm a bs
    poison := s.mem.poison.filter (fun w => !(a ≤ 8 * w && 8 * w + 8 ≤ a + n))
    repair := s.mem.repair.filter (fun g => !(granules a n).contains g) } }

/-- A write by a requester. -/
def State.hbmWrite (s : State) (req a : Nat) (bs : Bytes) : State := (s.touch req a bs.length true).hbmPut a bs

/-- Shared memory of a cluster. -/
def State.shmGet (s : State) (c a n : Nat) : Bytes := peek s.mem.shm (c * mib + a) n
def State.shmPut (s : State) (c a : Nat) (bs : Bytes) : State :=
  { s with mem := { s.mem with shm := poke s.mem.shm (c * mib + a) bs } }

/-! PARITY_ERROR (R446). -/

/-- A parity error of memory m (Table 20.1): one record per second and memory; the further ones are counted only. -/
def State.parityError (s : State) (m unit hosts : Nat) : State :=
  let last := Tbl.get 0 s.ev.parityAt m
  if last = 0 || cycS ≤ s.since (last - 1) then
    ({ s with ev := { s.ev with parityAt := Tbl.set 0 s.ev.parityAt m (s.phys + 1) } } : State).raise Ev.PARITY_ERROR unit hosts m
  else s.bump Svc.ERRORS 0

/-- One cycle with no command: local time, and one cycle of every port's arbiter and controller. -/
def cycle (s : State) : State := (s.mem.pcs.map (·.1)).foldl (fun s i => (s.portCycle i).issue i) (idle s)

end Sys2Proof.Machine
end

