-- ==== Sys2Proof/Machine/Domains.lean ====
section
/-! DEFINITION. Power domains and their gated parts (R34, R35, R415, R420, R421): their states, what DOMAINS and the POWER
objects show of them, a demand on one, and self-refresh of the stacks. -/

namespace Sys2Proof.Machine

/-- The parts that are powered or gated as a whole: a domain by its bit of DOMAINS, then clusters, decode cores, encode
cores and compositors. -/
abbrev netPart : Nat := 0
abbrev memPart : Nat := 1
abbrev schedPart : Nat := 2
abbrev audPart : Nat := 7
abbrev cluPart (c : Nat) : Nat := 16 + c
abbrev vdPart (v : Nat) : Nat := 32 + v
abbrev vePart (v : Nat) : Nat := 48 + v
abbrev cmpPart (i : Nat) : Nat := 64 + i

/-- State of a part (Table 19.4): 0 OFF, 1 WAKING, 2 ON, 3 DRAINING, 4 CLOCK_GATED. -/
def State.part (s : State) (k : Nat) : Nat := Tbl.get 0 s.pwr.part k

/-- Is any part of a range powered? -/
def State.anyOn (s : State) (from_ n : Nat) : Bool := (List.range n).any (fun i => s.part (from_ + i) != 0)

/-- DOMAINS: a domain shows from WAKING until OFF (R421). -/
def State.domainBits (s : State) : Nat :=
  sumOfBits [s.part 0 != 0, s.part 1 != 0, s.part 2 != 0, s.anyOn 16 8, s.anyOn 32 16, s.anyOn 48 16, s.anyOn 64 8,
    s.part 7 != 0, s.part 8 != 0, s.part 9 != 0]
where
  sumOfBits : List Bool → Nat
    | [] => 0
    | b :: bs => b.toNat + 2 * sumOfBits bs

/-- The POWER object of a part. -/
def State.showPower (s : State) (k : Nat) : State :=
  let v := s.part k
  let on := if v = 0 then 0 else 1
  if k < 16 then s
  else if k < 24 then s.wr Clu.POWER (k - 16) (if v = 0 then 0 else if v = 4 then 1 else 2)
  else if k < 32 then s
  else if k < 48 then s.wr Vd.POWER (k - 32) on
  else if k < 64 then s.wr Ve.POWER (k - 48) on
  else s.wr Cmp.POWER (k - 64) on

/-- A power-gated cluster keeps nothing in its I, X and Y memories (R249): no custom code image is resident in its cores. -/
def State.loseCode (s : State) (c : Nat) : State :=
  (List.range 16).foldl (fun s j =>
    { s with sch := { s.sch with cores := Tbl.upd {} s.sch.cores (16 * c + j) (fun x => { x with
      resident := 0, im := [], regs := { x.regs with xm := [], ym := [] } }) } }) s

/-- A part takes a state. -/
def State.setPart (s : State) (k v : Nat) : State :=
  let s := ({ s with pwr := { s.pwr with part := Tbl.set 0 s.pwr.part k v } } : State).showPower k
  let s := if v = 0 && 16 ≤ k && k < 24 then s.loseCode (k - 16) else s
  s.wr Pwr.DOMAINS 0 s.domainBits

/-! Self-refresh (R360, R366, R417). -/

/-- The stacks enter self-refresh, after every queued request is issued: MEM is powered down. -/
def State.enterSelfRefresh (s : State) : State :=
  let s := (s.mem.pcs.map (·.1)).foldl (fun s i => s.flush i) s
  ({ s with mem := { s.mem with selfRefresh := true } } : State).setPart memPart 0

/-- The stacks leave self-refresh: the row tables are cleared, and a tracking pass is due at once. -/
def State.leaveSelfRefresh (s : State) : State :=
  if !s.mem.selfRefresh then s
  else
    ({ s with mem := { s.mem with
      selfRefresh := false
      pcs := s.mem.pcs.map (fun r => (r.1, { r.2 with
        trackAt := none, winAt := s.phys, banks := r.2.banks.map (fun b => (b.1, { b.2 with rows := [] })) })) } } : State).setPart memPart 2

/-- DMA channels that were paused, or about to be, for the power-down of a part go on (Tables 17.8 and 19.4). -/
def State.resumeFor (s : State) (k : Nat) : State :=
  (s.dma.filter (fun r => r.2.part == some k)).foldl (fun s r =>
    let s := if s.rd Dma.STATE r.1 = 2 then s.wr Dma.STATE r.1 1 else s
    { s with dma := Tbl.upd {} s.dma r.1 (fun x => { x with part := none }) }) s

/-- IDLE is left for ACTIVE (Table 19.1), or a power-down towards it is given up. With no HBM in service the device stays
in IDLE (R372). A port frozen by its Capo bit counts its 10 ms from here. -/
def State.toActive (s : State) : State :=
  let s : State := { s with pwr := { s.pwr with toIdle := false, toStandby := false } }
  let s := if s.part memPart = 3 then (s.setPart memPart 2).resumeFor memPart else s
  if s.rd Pwr.PSTATE 0 = 0 then s.leaveSelfRefresh
  else if s.rd Pwr.PSTATE 0 ≠ 1 || !s.hbmUp then s
  else
    let s := (s.wr Pwr.PSTATE 0 0).leaveSelfRefresh.resumeFor memPart
    { s with mem := { s.mem with pcs := s.mem.pcs.map (fun r => (r.1, { r.2 with capoAt := s.phys })) } }

/-- A unit of DSP, VDEC, VENC or COMP is taken or given back: SCHED's 100 ms run from here. -/
def State.unitUsed (s : State) : State := { s with pwr := { s.pwr with usedAt := s.phys } }

/-- A cluster all of whose cores are retired stays power-gated (R268). -/
def State.retiredPart (s : State) (k : Nat) : Bool := decide (16 ≤ k) && decide (k < 24) && s.rd Clu.IN_SERVICE (k - 16) == 0

/-- A part that is off begins to wake; a power-down not yet complete is cancelled; a stopped clock restarts. -/
def State.wakePart (s : State) (k : Nat) : State :=
  if s.retiredPart k then s
  else match s.part k with
  | 0 => let s := s.setPart k 1; if 16 ≤ k && k < 24 then s.bump Clu.WAKES (k - 16) else s
  | 3 => (s.setPart k 2).resumeFor k
  | 4 => s.setPart k 2
  | _ => s

/-- A demand on a part (R420): the device is ACTIVE, MEM is powered with NET (R35), SCHED with any unit of the DSP, VDEC,
VENC and COMP domains, and NET with any unit of the last three, whose paths it is part of (R34, Table 1.11). -/
def State.demand (s : State) (k : Nat) : State :=
  let s := s.toActive
  let s := if 32 ≤ k then s.wakePart netPart else s
  if 16 ≤ k then ((s.wakePart schedPart).wakePart k).unitUsed else s.wakePart k

end Sys2Proof.Machine
end

