-- ==== Sys2Proof/Machine/Time.lean ====
section
/-! DEFINITION. Time, clocks and pulses (chapter 3, R61 to R80): the servo, PTP, PPS_IN, the TOUT outputs, the TIN
captures, the media grids and what a step does to them, and the real-time clock. -/

namespace Sys2Proof.Machine

/-! Grids (R74, R75). -/

/-- A media grid: tick n falls at off + floor(n * num / den) ns. -/
structure Grid where
  off : Nat
  num : Nat
  den : Nat
  deriving DecidableEq, Repr

/-- The instant of tick n in nanoseconds. -/
def Grid.at (g : Grid) (n : Nat) : Nat := g.off + n * g.num / g.den

/-- The first tick at or after a local time in nanoseconds. -/
def Grid.firstAt (g : Grid) (t : Nat) : Nat := ceilDiv ((t - g.off) * g.den) g.num

/-- The latest tick at or before a local time in nanoseconds (0 before the grid's start). -/
def Grid.latest (g : Grid) (t : Nat) : Nat := g.firstAt (t + 1) - 1

/-- The audio block grid: tick n at n ms. -/
def blockGrid : Grid := ⟨0, 1000000, 1⟩

/-- The video frame grid of N / D fps. Its anchor is a multiple of D seconds and D seconds hold N ticks, so tick n after
the anchor is grid index (anchor / D) * N + n. -/
def frameGrid (n d : Nat) : Grid := ⟨0, d * 1000000000, n⟩

/-- The radio slot grid of numerology mu. -/
def slotGrid (off mu : Nat) : Grid := ⟨off, 1000000, 2 ^ mu⟩

/-- The allowed frame rates (R74): (r, 1) or (1,000 r, 1,001) with r in 24, 25, 30, 50, 60. -/
def rateOk (n d : Nat) : Bool :=
  [24, 25, 30, 50, 60].any (fun r => (n == r && d == 1) || (n == 1000 * r && d == 1001))

/-- The grid of composition output k. -/
def State.outGrid (s : State) (k : Nat) : Grid := frameGrid (s.rd Outp.RATE_N k) (s.rd Outp.RATE_D k)

/-- The grid of encode session e. -/
def State.encGrid (s : State) (e : Nat) : Grid := frameGrid (s.rd Enc.RATE_N e) (s.rd Enc.RATE_D e)

/-- The slot grid of Fret port f. -/
def State.fretGrid (s : State) (f : Nat) : Grid := slotGrid (s.rd FSlot.OFFSET f) (s.rd FSlot.MU f)

/-- SLOT_NOW at time t ns (R75): frame number and slot in frame. -/
def slotNumber (off mu t : Nat) : Nat :=
  let d : Int := (t : Int) - off
  ((d / 10000000) % 1024).toNat * 128 + ((d % 10000000).toNat * 2 ^ mu) / 1000000

/-- The audio block number at time t ns. -/
def blockNumber (t : Nat) : Nat := t / 1000000 % 2 ^ 32

/-- The 48 kHz sample grid: the index at time t ns. -/
def sampleIndex (t : Nat) : Nat := t * 48 / 1000000

/-- The 90 kHz RTP value and the audio RTP value at time t ns. -/
def rtp90k (t offset : Nat) : Nat := (t * 9 / 100000 + offset) % 2 ^ 32
def rtpAudio (rate t offset : Nat) : Nat := (t * rate / 1000000000 + offset) % 2 ^ 32

/-- The value that follows x where steps have passed some values over (Table 3.14): the target of the jump that begins at
x, or x. -/
def jumpFrom (jumps : List (Nat × Nat)) (x : Nat) : Nat :=
  match jumps.find? (fun j => j.1 == x) with | some j => j.2 | none => x

/-- The values from x up to y are passed over too: a jump still ahead that begins at or before x goes on to y. -/
def addJump (jumps : List (Nat × Nat)) (x y : Nat) : List (Nat × Nat) :=
  match jumps.getLast? with
  | some j => if x ≤ j.2 then (if j.2 < y then jumps.dropLast ++ [(j.1, y)] else jumps) else if x < y then jumps ++ [(x, y)] else jumps
  | none => if x < y then [(x, y)] else jumps

/-- The next tick of a stream. -/
def TickX.next (k : TickX) : Nat := jumpFrom k.jumps (k.last + 1)

/-- The ticks passed over since the latest one posted. -/
def TickX.skipped (k : TickX) : Nat := k.next - (k.last + 1)

/-- Is the next tick of a stream due? -/
def TickX.due (g : Grid) (t : Nat) (k : TickX) : Bool := k.active && g.at k.next ≤ t

/-- A stream that starts at time t: its next tick is the first after t. -/
def TickX.start (g : Grid) (t : Nat) : TickX := { active := true, last := g.latest t }

/-- The next tick is posted. -/
def TickX.post (k : TickX) : TickX :=
  { k with last := k.next, jumps := k.jumps.filter (fun j => k.next < j.1) }

/-- What a step of the clock from time old to time t does to a stream (R77, Table 3.14): forward, the ticks that lie after
old and before t are passed over, and ticks already due are still posted; backward, the next stays the first after the
latest one posted. -/
def TickX.afterStep (g : Grid) (forward : Bool) (old t : Nat) (k : TickX) : TickX :=
  if forward then { k with jumps := addJump k.jumps (max (k.last + 1) (g.latest old + 1)) (g.firstAt t) } else k

/-! The real-time clock (R79, R438). -/

/-- Counts of XTAL32_IN up to a cycle. -/
def xtalCounts (cycle : Nat) : Nat := cycle * 32768 / cycS

/-- The counts that the trim adds, or drops, up to a count of XTAL32_IN: one every floor(10^8 / abs(t)) counts (R438). -/
def trimCounts (t : Int) (n : Nat) : Int :=
  if t = 0 then 0 else (if 0 < t then 1 else -1) * ((n / (100000000 / t.natAbs) : Nat) : Int)

/-- The real-time clock now: its value at its latest load plus what it has counted since, in 1/32,768 s. -/
def State.rtcNow (s : State) : Nat :=
  let a := xtalCounts s.tim.rtcAt
  let b := xtalCounts s.phys
  let t := s.rdI Cal.XTAL32_TRIM 0
  ((s.tim.rtc : Int) + ((b - a : Nat) : Int) + trimCounts t b - trimCounts t a).toNat

/-- Load the real-time clock from the local clock; its validity follows TIME_VALID once set. -/
def State.rtcLoad (s : State) : State :=
  { s with tim := { s.tim with
      rtc := s.clk * 32768 / secU
      rtcAt := s.phys
      rtcValid := s.tim.rtcValid || s.on Clk.TIME_VALID 0
      rtcSec := s.clk / secU } }

/-- On every local second boundary the real-time clock is reloaded. -/
def rtcReload (s : State) : State := if s.clk / secU = s.tim.rtcSec then s else s.rtcLoad

/-! Steps (R62, R77). -/

/-- The first edge of a periodic output's grid at or after a time, from an edge of it. -/
def gridEdge (e period t : Nat) : Nat := if t ≤ e then e else e + ceilDiv (t - e) period * period

/-- What a step from time old to time t does to a TOUT output (R77, Table 3.14). An edge already due is still produced. Edges
passed over are not, and a backward step makes the next one the first grid point after the latest produced that is not past. A
pulse in progress keeps its WIDTH. -/
def ToutX.afterStep (forward : Bool) (old t : Nat) (x : ToutX) : ToutX :=
  let x := { x with activeUntil := if old < x.activeUntil then t + (x.activeUntil - old) else 0 }
  if !x.armed then x
  else if x.oneShot then
    if forward then (if old < x.next && x.next < t then { x with next := t } else x)
    else if t < x.start && old < x.next then { x with next := x.start } else x
  else if forward then
    let js := addJump x.jumps (gridEdge x.next x.period (old + 1)) (gridEdge x.next x.period t)
    { x with jumps := js, next := jumpFrom js x.next }
  else if old < x.next then { x with jumps := [], next := gridEdge x.follow x.period t }
  else x

/-- Apply f to every listed row of a table whose default f leaves alone. -/
def mapTbl {α : Type} (t : Tbl α) (f : Nat → α → α) : Tbl α := t.map (fun r => (r.1, f r.1 r.2))

/-- A capture made in the cycle of a step carries the time after the step and flag [3] (R78). -/
def CapRec.restamp (now : Nat) (d : Int) (r : CapRec) : CapRec :=
  if r.atC ≠ now then r
  else
    let x := (((ofTime80 r.time + r.fraction : Nat) : Int) + d).toNat % clockWrap
    { r with time := time80 x, fraction := x % nsU, flags := r.flags ||| 8 }

/-- What a step of size d does to a TIN input (Table 3.14, R78). -/
def TinX.afterStep (now : Nat) (d : Int) (x : TinX) : TinX :=
  { x with fifo := x.fifo.map (fun r => r.restamp now d), stepped := !x.fifo.any (fun r => r.atC == now) || x.stepped }

/-- Set the local clock to t, moving every grid and scheduled action as Table 3.14 states. The real-time clock is loaded
next at the next second boundary; a boundary that has come is served first. -/
def State.setClock (s : State) (t : Nat) : State :=
  let s := rtcReload s
  let fw := s.clk < t
  let d : Int := (t : Int) - s.clk
  let tns := ceilDiv t nsU
  { s with
    clk := t
    clkRem := 0
    tim := { s.tim with
      rtcSec := (t - 1) / secU
      block := s.tim.block.afterStep blockGrid fw s.ns tns
      frame := mapTbl s.tim.frame (fun k x => x.afterStep (s.outGrid k) fw s.ns tns)
      slot := mapTbl s.tim.slot (fun f x => x.afterStep (s.fretGrid f) fw s.ns tns)
      enc := mapTbl s.tim.enc (fun e x => x.afterStep (s.encGrid e) fw s.ns tns)
      tout := mapTbl s.tim.tout (fun _ x => x.afterStep fw s.clk t)
      tin := [0, 1, 2, 3].foldl (fun w n => Tbl.upd {} w n (fun x => x.afterStep s.phys d)) s.tim.tin } }

/-- The 12 argument bytes of STEP and ACQUIRED (Table 20.6): an I64 in 2^-16 ns and an I32 in whole seconds, rounded
toward zero, both saturated. -/
def stepArgs (d : Int) : Nat := ofInt 64 (satInt 64 d) + 2 ^ 64 * ofInt 32 (satInt 32 (divZero d secU))

/-- Step the local clock by d (2^-16 ns): STEPS counts it and STEP tells the PLATFORM host (R63). -/
def State.stepBy (s : State) (d : Int) : State :=
  let t := (((s.clk : Int) + d) % (clockWrap : Int)).toNat
  ((s.setClock t).bump Clk.STEPS 0).raise Ev.STEP 0 toPlatform (stepArgs d)

/-! The servo (Table 3.2). -/

/-- The port number that LOCKED, ACQUIRED and HOLDOVER name. -/
def State.refPort (s : State) : Nat := s.tim.parent.getD 0

/-- Recompute the 1588 port states: one SLAVE or UNCALIBRATED port at most. -/
def State.ptpStates (s : State) : State :=
  (List.range 20).foldl (fun s p =>
    s.wr Ptp.PORT_STATE p
      (if !s.on Ptp.ENABLE p then 3
       else if s.tim.parent = some p then (if s.rd Clk.STATE 0 = 2 then 9 else 8)
       else if (Tbl.get {} s.tim.ptp p).masters.isEmpty then 4 else 7)) s

/-- A frequency adjustment within SLEW_MAX (R62). -/
def State.slewed (s : State) (a : Int) : Int :=
  let lim : Int := ((s.rd Clk.SLEW_MAX 0 * 1000 : Nat) : Int)
  max (-lim) (min lim a)

/-- A frequency adjustment comes into force, within SLEW_MAX (R62). While LOCKED it enters the history of the 60 s average. -/
def State.adjust (s : State) (a : Int) : State :=
  let a := s.slewed a
  let s := s.wrI Clk.FREQ_ADJ 0 a
  if s.rd Clk.STATE 0 = 2 then { s with tim := { s.tim with adjHist := (s.phys, a) :: s.tim.adjHist } } else s

/-- A free adjustment of 64 bits: the control law is not stated. -/
def State.drawAdjust (s : State) : Int × State := let (v, s) := s.draw 64; (toInt 64 v, s)

/-- FREQ_IN steers the frequency while REF_SEL is 1 and FREQ_IN is within ±100 ppm (R69). -/
def State.steerFreq (s : State) : State :=
  if s.rd Clk.REF_SEL 0 = 1 && s.rd Ref.FREQ_IN_STATE 0 = 1 then
    let (a, s) := s.drawAdjust
    ({ s with tim := { s.tim with freqTerm := s.slewed a } } : State).adjust a
  else s

/-- A measurement steers the clock: PTP, or PPS_IN alone, its frequency; with REF_SEL 1 PPS_IN steers the phase, about the
frequency that FREQ_IN gives (R69). -/
def State.steer (s : State) : State :=
  let (a, s) := s.drawAdjust
  s.adjust (if s.rd Clk.REF_SEL 0 = 1 then s.tim.freqTerm + a else a)

/-- Sum of adjustment times cycles over the history back to cycle lo, and the cycles covered. -/
def adjSum (lo : Nat) : Nat → List (Nat × Int) → Int × Nat
  | _, [] => (0, 0)
  | upto, (c, a) :: rest =>
    let fr := max c lo
    let r := if c ≤ lo then (0, 0) else adjSum lo c rest
    (r.1 + a * ((upto - fr : Nat) : Int), r.2 + (upto - fr))

/-- The frequency adjustment averaged over the last 60 s of LOCKED operation (R63). -/
def State.adjAverage (s : State) : Int :=
  let r := adjSum (s.phys - 60 * cycS) s.phys s.tim.adjHist
  if r.2 = 0 then s.freqAdj else divZero r.1 r.2

/-- Enter a servo state. -/
def State.servo (s : State) (st : Nat) : State :=
  let s := s.wr Clk.STATE 0 st
  { s with tim := { s.tim with
      good := 0
      adjHist := if st = 2 then [(s.phys, s.freqAdj)] else []
      holdoverAt := if st = 3 then s.phys else s.tim.holdoverAt } }

/-- One measurement of the offset, local minus reference, in 2^-16 ns (Table 3.2). `step`: the clock is stepped by it in any
state, as at the first PPS_IN edge after a write of PPS_TOD (R62). -/
def State.measure (s : State) (off : Int) (step : Bool := false) : State :=
  let s := s.wrI Clk.OFFSET 0 off
  let small := off.natAbs < s.rd Clk.LOCK_THRESH 0 * nsU
  let far := s.rd Clk.STEP_THRESH 0 * nsU < off.natAbs
  let st := s.rd Clk.STATE 0
  if s.rd Clk.REF_SEL 0 = 3 then s
  else if st = 0 then
    ((s.stepBy (-off)).wr Clk.TIME_VALID 0 1).servo 1 |>.ptpStates
  else if (st = 2 || st = 3) && far then
    ((s.stepBy (-off)).raise Ev.ACQUIRED s.refPort toPlatform (stepArgs off)).servo 1 |>.ptpStates
  else
    let s := if step then s.stepBy (-off) else s
    if st = 2 then s.steer
    else
    let good := if small then s.tim.good + 1 else 0
    let s := s.steer
    let s : State := { s with tim := { s.tim with good := good } }
    if 16 ≤ good then (s.servo 2).ptpStates.raise Ev.LOCKED s.refPort toPlatform 0 else s

/-- The selected reference is lost (Table 3.2). -/
def State.lose (s : State) : State :=
  match s.rd Clk.STATE 0 with
  | 1 => s.servo 0
  | 2 => ((s.wrI Clk.FREQ_ADJ 0 (s.slewed s.adjAverage)).servo 3).raise Ev.HOLDOVER s.refPort toPlatform 0
  | _ => s

/-- SET_TIME steps the clock to the value, with REF_SEL = 3 only. -/
def setTime (v : Nat) (s : State) : Except Status State :=
  if s.rd Clk.REF_SEL 0 ≠ 3 then .error .eState
  else .ok ((s.stepBy ((ofTime80 v : Int) - s.clk)).wr Clk.TIME_VALID 0 1)

/-- Forget what has been measured of the reference: the servo restarts. -/
def TimeX.restart (t : TimeX) : TimeX :=
  { t with
    ptp := mapTbl t.ptp (fun _ x => { x with half := none, pair := none, req := none })
    good := 0 }

/-- A write of REF_SEL: 0 to 2 restart the servo on the new reference without a step; 3 stops measurement. A move from LOCKED
or HOLDOVER to ACQUIRING raises ACQUIRED with the offset last measured. -/
def refSelWrite (v : Nat) (s : State) : Except Status State :=
  let st := s.rd Clk.STATE 0
  let s := s.wr Clk.REF_SEL 0 v
  let s := { s with tim := s.tim.restart }
  let next := if v = 3 then 0 else if s.on Clk.TIME_VALID 0 then 1 else 0
  let s := if (st = 2 || st = 3) && next = 1 then
    s.raise Ev.ACQUIRED s.refPort toPlatform (stepArgs (s.rdI Clk.OFFSET 0)) else s
  .ok (s.servo next).ptpStates

/-! PTP (R63, R65 to R67). -/

/-- Cycles in 2^n seconds. -/
def logCycles (n : Int) : Nat := if 0 ≤ n then cycS * 2 ^ n.toNat else cycS / 2 ^ (-n).toNat

/-- The profile's default Announce and Sync intervals. -/
def defaultAnn (profile : Nat) : Int := if profile = 0 then 1 else if profile = 1 then -3 else 0
def defaultSync (profile : Nat) : Int := if profile = 0 then 0 else -4

/-- The profile's domain range (Table 3.4). -/
def domainOk (profile d : Nat) : Bool :=
  if profile = 0 then d ≤ 127 else if profile = 1 then 24 ≤ d && d ≤ 43 else 44 ≤ d && d ≤ 63

/-- Does a message travel as the port's profile prescribes (Table 3.4), on its VLAN, in its domain, and, for G.8275.2,
from a grantor? -/
def State.ptpFits (s : State) (m : PtpMsg) : Bool :=
  let p := m.port.val
  let prof := s.rd Ptp.PROFILE p
  s.on Ptp.ENABLE p && m.vlan == s.rd Ptp.VLAN p && m.domain == s.rd Ptp.DOMAIN p &&
  (match m.transport with
   | .ether => prof ≤ 1
   | .udp4mc => prof == 0
   | .udpuc => prof == 2 && m.srcAddr != 0 && (m.srcAddr == s.rd Ptp.GRANTOR0 p || m.srcAddr == s.rd Ptp.GRANTOR1 p)
   | .other => false)

/-- Lexicographic order. -/
def lexLt : List Nat → List Nat → Bool
  | [], _ => false
  | _, [] => false
  | a :: as, b :: bs => a < b || (a == b && lexLt as bs)

/-- A master heard on a port, with what the comparison needs of the port. -/
structure Heard where
  port : Nat
  profile : Nat
  localPrio : Nat
  m : PtpMaster
  deriving DecidableEq, Repr

/-- The topology part of the data set comparison: steps removed, then the sender's identity, then the receiving port. -/
def Heard.topology (h : Heard) : List Nat := [h.m.steps, h.m.source, h.port]

/-- Is a a better master than b? The default BMCA compares priority1 first, and goes to the topology at once where the
grandmaster is one and the same. The alternate BMCA of G.8275.1 and G.8275.2 leaves priority1 out, compares localPriority
after priority2, and compares grandmaster identities only above clockClass 127. It is used unless both ports have profile 0 (DESIGN CHOICE,
log 228). -/
def Heard.better (a b : Heard) : Bool :=
  if a.profile = 0 && b.profile = 0 then
    if a.m.grandmaster = b.m.grandmaster then lexLt a.topology b.topology
    else
      let rank (h : Heard) : List Nat :=
        [h.m.priority1, h.m.clockClass, h.m.accuracy, h.m.variance, h.m.priority2, h.m.grandmaster]
      lexLt (rank a) (rank b)
  else
    let rank (h : Heard) : List Nat :=
      [h.m.clockClass, h.m.accuracy, h.m.variance, h.m.priority2, h.localPrio, if h.m.clockClass ≤ 127 then 0 else h.m.grandmaster] ++
        h.topology
    lexLt (rank a) (rank b)

/-- Every master heard on an enabled port. -/
def State.heard (s : State) : List Heard :=
  (List.range 20).flatMap (fun p =>
    if !s.on Ptp.ENABLE p then []
    else (Tbl.get {} s.tim.ptp p).masters.map (fun m => ⟨p, s.rd Ptp.PROFILE p, s.rd Ptp.LOCAL_PRIO p, m⟩))

/-- The best master over every enabled port, with its port (R66). -/
def State.bestMaster (s : State) : Option (Nat × PtpMaster) :=
  (s.heard.foldl (fun (best : Option Heard) h =>
    match best with
    | none => some h
    | some b => if h.better b then some h else best) none).map (fun h => (h.port, h.m))

/-- Choose the parent anew. A changed parent starts with no Sync paired. -/
def State.choose (s : State) : State :=
  match s.bestMaster with
  | none => ({ s with tim := { s.tim with parent := none } } : State).ptpStates
  | some (p, m) =>
    let s :=
      if s.tim.parent = some p && s.rd Ptp.PARENT p = m.source then s
      else
        let s := s.wr Ptp.PARENT p m.source
        { s with tim := { s.tim with
            parent := some p
            ptp := Tbl.upd {} s.tim.ptp p (fun x =>
              { x with half := none, pair := none, req := none, syncAt := s.phys, nextReq := s.phys }) } }
    let s := if m.utcValid then s.wrI Clk.UTC_OFFSET 0 m.utcOffset else s
    (s.wr Clk.LEAP 0 ((if m.leap61 then 1 else 0) + (if m.leap59 then 2 else 0))).ptpStates

/-- Picoseconds in 2^-16 ns. -/
def psU (ps : Int) : Int := ps * 65536 / 1000

/-- The nominal RX and TX delays of a port, ns (Table 3.7). -/
def State.nominalDelay (s : State) (p : Nat) : Int × Int :=
  if 18 ≤ p then (96, 44) else if 16 ≤ p then (186, 71)
  else match s.rd Mp.SPLIT (p / 4) with | 0 => (142, 58) | 1 => (158, 64) | _ => (186, 71)

/-- The mode of a port: a media port's SPLIT, 0 elsewhere. -/
def State.portMode (s : State) (p : Nat) : Nat := if p < 16 then s.rd Mp.SPLIT (p / 4) else 0

/-- The part's own delays, ps: those of factory calibration for the port's present mode, or the nominal ones without it
(R67, Table 19.14). -/
def State.factRx (s : State) (p : Nat) : Int :=
  if s.rd Cal.FACT_STATE 0 ≠ 1 then 1000 * (s.nominalDelay p).1
  else if s.portMode p = 0 then s.rdI TsCor.FACT_RX p else toInt 32 (Config.factRx p (s.portMode p)).toNat
def State.factTx (s : State) (p : Nat) : Int :=
  if s.rd Cal.FACT_STATE 0 ≠ 1 then 1000 * (s.nominalDelay p).2
  else if s.portMode p = 0 then s.rdI TsCor.FACT_TX p else toInt 32 (Config.factTx p (s.portMode p)).toNat

/-- The time at which a message crossed the MDI inward: the MAC time-stamp less the RX delays (R67). -/
def State.ingressTime (s : State) (p : Nat) : Int := (s.clk : Int) - psU (s.factRx p + s.rdI TsCor.USER_RX p)

/-- The time at which a message crosses the MDI outward: the MAC time-stamp plus the TX delays (R67). -/
def State.egressTime (s : State) (p : Nat) : Int := (s.clk : Int) + psU (s.factTx p + s.rdI TsCor.USER_TX p)

def State.ptpX (s : State) (p : Nat) : PtpX := Tbl.get {} s.tim.ptp p
def State.ptpUpd (s : State) (p : Nat) (f : PtpX → PtpX) : State :=
  { s with tim := { s.tim with ptp := Tbl.upd {} s.tim.ptp p f } }

/-- A message discarded and counted. -/
def State.ptpErr (s : State) (p : Nat) : State := s.bump Ptp.ERR_COUNT p

/-- A PTP message of the fitting profile is taken (R65). A Delay_Resp for another port counts in ERR_COUNT alone (DESIGN CHOICE,
log 229). -/
def ptpTake (m : PtpMsg) (s : State) : State :=
  let p := m.port.val
  let x := s.ptpX p
  let isParent := s.tim.parent == some p && s.rd Ptp.PARENT p == m.source
  let s1 := s.bump Ptp.RX_COUNT p
  match m.kind with
  | .announce =>
    let r : PtpMaster := ⟨m.source, m.priority1, m.clockClass, m.accuracy, m.variance, m.priority2, m.grandmaster,
      m.stepsRemoved, m.utcOffset, m.utcValid, m.leap61, m.leap59, s.phys⟩
    let s2 := s1.ptpUpd p (fun x =>
      { x with masters := r :: x.masters.filter (fun q => q.source != m.source)
               annLog := if s.rd Ptp.PROFILE p = 2 then x.annLog else Tbl.set none x.annLog m.source (some m.logInterval) })
    s2.choose
  | .sync =>
    if !isParent then s1
    else
      let t2 := s.ingressTime p
      s1.ptpUpd p (fun x =>
        { x with
          syncAt := s.phys
          syncLog := if s.rd Ptp.PROFILE p = 2 then x.syncLog else Tbl.set none x.syncLog m.source (some m.logInterval)
          half := if m.twoStep then some (m.seqId, t2, m.correction) else none
          pair := if m.twoStep then x.pair else some (t2 - m.stamp - m.correction) })
  | .followUp =>
    if !isParent then s1
    else match x.half with
      | some (q, t2, c) =>
        if q = m.seqId then
          s1.ptpUpd p (fun x => { x with half := none, pair := some (t2 - m.stamp - c - m.correction) })
        else s1
      | none => s1
  | .delayResp =>
    if !m.toUs then s.ptpErr p
    else match x.req with
      | some (q, t3) =>
        if !isParent || q ≠ m.seqId then s1
        else match x.pair with
          | none => s1.ptpUpd p (fun x => { x with req := none })
          | some d =>
            let mean := (d + ((m.stamp : Int) - t3 - m.correction)) / 2
            let s2 := (s1.ptpUpd p (fun x => { x with req := none, pair := none })).wrI Ptp.MEAN_DELAY p mean
            if s.rd Clk.REF_SEL 0 = 0 then s2.measure (d - mean) else s2
      | none => s1
  | .signaling =>
    s1.ptpUpd p (fun x => match m.grantOf with
      | .announce => { x with annLog := Tbl.set none x.annLog m.source (some m.logInterval) }
      | .sync => { x with syncLog := Tbl.set none x.syncLog m.source (some m.logInterval) }
      | _ => x)
  | _ => s.ptpErr p

/-- Is the message one that a receiver on this port takes? Signaling belongs to unicast negotiation (G.8275.2). -/
def State.ptpKindOk (s : State) (m : PtpMsg) : Bool :=
  match m.kind with
  | .announce => true | .sync => true | .followUp => true | .delayResp => true
  | .signaling => s.rd Ptp.PROFILE m.port == 2
  | _ => false

/-- A received PTP message (R65): taken, sent to the punt path (Management and ESMC), or counted and discarded. -/
def ptpRx (punt : Bytes → State → State) (m : PtpMsg) (s : State) : State :=
  match m.kind with
  | .management => punt m.bytes s
  | .esmc => punt m.bytes s
  | _ => if s.ptpFits m && s.ptpKindOk m then ptpTake m s else s.ptpErr m.port

/-- DELAY_LOG after the latest one, the chosen port sends a Delay_Req and keeps its egress time (R65, Table 3.4). -/
def delayReqSend (p : Nat) (s : State) : State :=
  let x := s.ptpX p
  if s.tim.parent = some p && s.on Ptp.ENABLE p && x.nextReq ≤ s.phys then
    (s.ptpUpd p (fun x => { x with
        reqSeq := (x.reqSeq + 1) % 65536
        req := some (x.reqSeq, s.egressTime p)
        nextReq := s.phys + logCycles (s.rdI Ptp.DELAY_LOG p) })).emit (.delayReq p x.reqSeq)
  else s

/-- Has the PTP parent been silent for 3 Announce or 3 Sync intervals (R63)? -/
def State.ptpSilent (s : State) : Bool :=
  match s.tim.parent with
  | none => true
  | some p =>
    let x := s.ptpX p
    let prof := s.rd Ptp.PROFILE p
    let par := s.rd Ptp.PARENT p
    let ann := 3 * logCycles ((Tbl.get none x.annLog par).getD (defaultAnn prof))
    let syn := 3 * logCycles ((Tbl.get none x.syncLog par).getD (defaultSync prof))
    let heard := ((x.masters.find? (fun m => m.source == par)).map (·.heardAt)).getD 0
    ann ≤ s.since heard || syn ≤ s.since x.syncAt

/-- No PPS_IN edge for 1.5 s. -/
def State.ppsSilent (s : State) : Bool := match s.tim.ppsAt with | none => true | some c => 3 * cycS / 2 ≤ s.since c

/-- Unicast negotiation (Table 3.4): Announce, Sync at SYNC_LOG and Delay_Resp are asked of each grantor of a G.8275.2 port. -/
def State.negotiate (s : State) (p : Nat) : State :=
  if !s.on Ptp.ENABLE p || s.rd Ptp.PROFILE p ≠ 2 then s
  else [s.rd Ptp.GRANTOR0 p, s.rd Ptp.GRANTOR1 p].foldl (fun s g =>
    if g = 0 then s else s.emit (.unicastRequest p g (s.rdI Ptp.SYNC_LOG p))) s

/-- The parent is forgotten and the next best master chosen; a unicast port asks its grantors again. -/
def State.dropParent (s : State) : State :=
  match s.tim.parent with
  | none => s
  | some p => ((s.negotiate p).ptpUpd p (fun x => { x with masters := x.masters.filter (fun m => m.source != s.rd Ptp.PARENT p) })).choose

/-- The reference's timeouts have passed: the servo moves on (Table 3.2). -/
def referenceLost (freqIn : Nat) (s : State) : State :=
  let s := (s.wr Ref.FREQ_IN_STATE 0 (freqIn % 3)).steerFreq
  match s.rd Clk.REF_SEL 0 with
  | 0 => if s.ptpSilent then (s.lose).dropParent.ptpStates else s
  | 1 => if s.ppsSilent && freqIn % 3 ≠ 1 then (s.lose).wr Ref.PPS_IN_STATE 0 0 else s
  | 2 => if s.ppsSilent then (s.lose).wr Ref.PPS_IN_STATE 0 0 else s
  | _ => s

/-! PPS_IN (R69). -/

/-- The local time of a PPS_IN edge: now, less the cable and board delay. -/
def State.ppsTime (s : State) : Int := (s.clk : Int) - psU (s.rdI Ref.PPS_DELAY 0)

/-- Is the time since the previous edge 1 s within 1 us (or is there no previous edge)? -/
def State.ppsPeriodOk (s : State) : Bool :=
  match s.tim.ppsAt with
  | none => true
  | some c => cycS ≤ s.since c + cycUs && s.since c ≤ cycS + cycUs

/-- Does a PPS_TOD written 100 ms or more before it date this edge (R69)? -/
def State.ppsTodDue (s : State) : Option Nat :=
  match s.tim.ppsTod with
  | some (v, c) => if cycS / 10 ≤ s.since c then some v else none
  | none => none

/-- The TAI second that this edge marks: PPS_TOD where one dates it; else counted from the latest edge of a good period, in
whole seconds of the oscillator; else the local second nearest the edge (DESIGN CHOICE, log 146: no PPS_TOD was ever
written). -/
def State.ppsSecond (s : State) : Nat :=
  match s.ppsTodDue, s.tim.ppsRef with
  | some v, _ => v
  | none, some (q, c) => (q + (s.since c + cycS / 2) / cycS) % 2 ^ 48
  | none, none => ((s.ppsTime + secU / 2) / secU).toNat % 2 ^ 48

/-- A PPS_IN edge. One whose period is wrong is no measurement, and dates no later edge; where PPS_TOD dates it the clock
still steps (R62). With REF_SEL 0 or 3 an edge uses PPS_TOD up and nothing steps (DESIGN CHOICE, log 147). -/
def ppsInEdge (falling : Bool) (freqIn : Nat) (s : State) : State :=
  let s := (s.wr Ref.FREQ_IN_STATE 0 (freqIn % 3)).steerFreq
  if falling != (s.rd Ref.PPS_EDGE 0 == 1) then s
  else
    let ok := s.ppsPeriodOk
    let sec := s.ppsSecond
    let useTod := s.ppsTodDue.isSome
    let off : Int := s.ppsTime - ((sec * secU : Nat) : Int)
    let sel := s.rd Clk.REF_SEL 0
    let s := s.wr Ref.PPS_IN_STATE 0 (if ok then 1 else 2)
    let s : State := { s with tim := { s.tim with
        ppsAt := some s.phys
        ppsRef := if ok || useTod then some (sec, s.phys) else s.tim.ppsRef
        ppsTod := if useTod then none else s.tim.ppsTod } }
    if !(sel == 1 || sel == 2) then s
    else if ok then (let s := if useTod then s.wr Clk.TIME_VALID 0 1 else s; s.measure off useTod)
    else if useTod then (s.stepBy (-off)).wr Clk.TIME_VALID 0 1
    else s

/-- A write of PPS_TOD. -/
def ppsTod (v : Nat) (s : State) : Except Status State :=
  .ok { s with tim := { s.tim with ppsTod := some (v, s.phys) } }

/-! RCLK0 and RCLK1 (R68). -/

/-- What an RCLK output carries: nothing but a low level, the recovered clock of a port's lane 0, or the port's reference
clock, each at a frequency in kHz. -/
inductive RclkOut where
  | low
  | recovered (port kHz : Nat)
  | reference (port kHz : Nat)
  deriving DecidableEq, Repr

/-- Has port p of R66 a link: LINK of a media, Fret or MG port. -/
def State.portLink (s : State) (p : Nat) : Bool :=
  if p < 16 then s.on Lp.LINK p else if p < 18 then Tbl.get false s.ing.up p else s.on Mg.LINK (p - 18)

/-- The level of RCLKk (Table 3.8). -/
def State.rclk (s : State) (k : Nat) : RclkOut :=
  let src := s.rd (if k = 0 then Ref.RCLK0_SRC else Ref.RCLK1_SRC) 0
  let cfg := s.rd Ref.RCLK_CFG 0
  let kHz := if bitOf cfg (2 + k) then 31250 else 156250
  if src = 0xFF then .low
  else if s.portLink src then .recovered src kHz
  else if bitOf cfg k then .low
  else .reference src kHz

/-! TOUT (R70 to R72). -/

def State.toutX (s : State) (n : Nat) : ToutX := Tbl.get {} s.tim.tout n
def State.toutSet (s : State) (n : Nat) (x : ToutX) : State :=
  { s with tim := { s.tim with tout := Tbl.set {} s.tim.tout n x } }

/-- Are PERIOD and WIDTH inside their limits (Table 3.16)? -/
def State.toutRangeOk (s : State) (n : Nat) : Bool :=
  let per := s.rd Tout.PERIOD n
  let wid := s.rd Tout.WIDTH n
  50 * nsU ≤ per && per ≤ 1000 * secU && 10 ≤ wid && (s.rd Tout.MODE n != 2 || wid * nsU + 10 * nsU ≤ per)

/-- The earliest edge that ARM can reach: 1 us after acceptance (R71). -/
def State.toutPresent (s : State) : Nat := s.clk + 1000 * nsU

/-- The first edge that the programme of TOUTn gives, none for a one-shot that is late (R71). -/
def State.firstEdge (s : State) (n : Nat) : Option Nat :=
  let start := ofTime80 (s.rd Tout.START n)
  let present := s.toutPresent
  if present < start then some start
  else if s.rd Tout.MODE n = 1 then (if bitOf (s.rd Tout.FLAGS n) 0 then some present else none)
  else some (start + ((present - start) / s.rd Tout.PERIOD n + 1) * s.rd Tout.PERIOD n)

/-- ARM (R71, Table 3.16). An output already armed is armed anew from its programme (DESIGN CHOICE, log 148). -/
def toutArm (n : Nat) (s : State) : Except Status State :=
  let mode := s.rd Tout.MODE n
  if !s.toutRangeOk n then .error .eRange
  else if !s.on Clk.TIME_VALID 0 || mode = 0 || mode = 3 then .error .eState
  else match s.firstEdge n with
    | none => .error .eLate
    | some e =>
      .ok ((s.toutSet n { s.toutX n with
              armed := true, oneShot := mode == 1, start := ofTime80 (s.rd Tout.START n), period := s.rd Tout.PERIOD n,
              width := s.rd Tout.WIDTH n, next := e, follow := e, jumps := [] }).wr Tout.STATUS n 1)

/-- DISARM (R72): a pulse already begun keeps its end; then the idle level. In modes 0 and 3 nothing changes. -/
def toutDisarm (n : Nat) (s : State) : Except Status State :=
  let mode := s.rd Tout.MODE n
  if mode = 0 || mode = 3 then .ok s
  else .ok ((s.toutSet n { s.toutX n with armed := false }).wr Tout.STATUS n 0)

/-- At next_edge the output produces its pulse (R71). LAST_EDGE records next_edge without COMP (DESIGN CHOICE, log 212: the
spec does not say which). COMP is added, as R71's sentence has it; Table 3.9 has it subtracted
(DESIGN CHOICE, log 149). -/
def toutEdge (n : Nat) (s : State) : State :=
  let x := s.toutX n
  if x.armed && x.next ≤ s.clk then
    let e : Int := (x.next : Int) + psU (s.rdI Tout.COMP n)
    let s := (s.emit (.pulse n e (e + (x.width * nsU : Nat)))).wr Tout.LAST_EDGE n (time80 x.next)
    let s := s.bump Tout.EDGES n
    let x' := { x with activeUntil := x.next + x.width * nsU }
    if x.oneShot then (s.toutSet n { x' with armed := false }).wr Tout.STATUS n 2
    else s.toutSet n { x' with
      next := jumpFrom x.jumps (x.next + x.period)
      follow := x.next + x.period
      jumps := x.jumps.filter (fun j => x.next + x.period < j.1) }
  else s

/-- Is TOUTn driven to its active level: inside a pulse, or in mode 3 while the servo is LOCKED (R72)? -/
def State.toutActive (s : State) (n : Nat) : Bool :=
  if s.rd Tout.MODE n = 3 then s.rd Clk.STATE 0 == 2 else s.clk < (s.toutX n).activeUntil

/-- The level of the TOUTn pin. -/
def State.toutPin (s : State) (n : Nat) : Bool := s.toutActive n != s.on Tout.POLARITY n

/-! TIN (R73). -/

def State.tinX (s : State) (n : Nat) : TinX := Tbl.get {} s.tim.tin n
def State.tinSet (s : State) (n : Nat) (x : TinX) : State :=
  ({ s with tim := { s.tim with tin := Tbl.set {} s.tim.tin n x } } : State).wr Tin.LEVEL n x.fifo.length

/-- The flags of a capture record (Table 3.11). -/
def capFlags (falling holdover invalid stepped lost : Bool) : Nat :=
  falling.toNat + 2 * holdover.toNat + 4 * invalid.toNat + 8 * stepped.toNat + 16 * lost.toNat

/-- An edge on TINn of a pulse of the given length. -/
def tinEdge (n : Nat) (falling : Bool) (pulseNs : Nat) (s : State) : State :=
  let e := s.rd Tin.EDGE n
  if !s.on Tin.ENABLE n || pulseNs < s.rd Tin.DEGLITCH n || !(e == 2 || (e == 1) == falling) then s
  else
    let x := s.tinX n
    if 16 ≤ x.fifo.length then (s.bump Tin.OVERFLOW n).tinSet n { x with lost := true }
    else
      let t := (((s.clk : Int) - psU (s.rdI Tin.COMP n)) % (clockWrap : Int)).toNat
      let f := capFlags falling (s.rd Clk.STATE 0 == 3) (!s.on Clk.TIME_VALID 0) x.stepped x.lost
      s.tinSet n { fifo := x.fifo ++ [⟨time80 t, t % nsU, f, s.phys⟩], lost := false, stepped := false }

/-- The 16 bytes of a capture record. -/
def CapRec.bytes (r : CapRec) : Bytes := natLE 10 r.time ++ natLE 2 r.fraction ++ natLE 1 r.flags ++ [0, 0, 0]

/-- A READ of the capture FIFO: the oldest record, removed; from an empty FIFO a record with flag [7] alone. -/
def tinTake (n : Nat) (s : State) : Bytes × State :=
  let x := s.tinX n
  match x.fifo with
  | [] => ((CapRec.mk 0 0 0x80 0).bytes, s)
  | r :: rest => (r.bytes, s.tinSet n { x with fifo := rest })

/-! The calendar (R79). -/

/-- Load the local clock from the real-time clock: on a wake, and in a reset that keeps VDD_AON (R79). -/
def State.clockFromRtc (s : State) : State :=
  { s with clk := s.rtcNow * secU / 32768 % clockWrap, clkRem := 0 }

/-- Days of a month. -/
def monthDays (y m : Nat) : Nat :=
  if m = 2 then (if (y % 4 = 0 && y % 100 ≠ 0) || y % 400 = 0 then 29 else 28)
  else if m = 4 || m = 6 || m = 9 || m = 11 then 30 else 31

/-- Month and day of day d (from 0) of year y. -/
def monthOf (y d : Nat) : Nat × Nat :=
  let r := (List.range 12).foldl (fun (a : Nat × Nat × Bool) i =>
    if a.2.2 then a
    else if a.2.1 < monthDays y (i + 1) then (i + 1, a.2.1, true)
    else (a.1, a.2.1 - monthDays y (i + 1), false)) (0, d, false)
  (r.1, r.2.1 + 1)

/-- Year, month and day of a count of days since 1970-01-01. -/
def civil (days : Nat) : Nat × Nat × Nat :=
  let n := days + 719162                       -- days since 0001-01-01
  let c4 := n / 146097
  let r4 := n % 146097
  let c1 := min (r4 / 36524) 3
  let r1 := r4 - c1 * 36524
  let q := r1 / 1461
  let rq := r1 % 1461
  let y1 := min (rq / 365) 3
  let y := c4 * 400 + c1 * 100 + q * 4 + y1 + 1
  let md := monthOf y (rq - y1 * 365)
  (y, md.1, md.2)

/-- CALENDAR: UTC from TAI and UTC_OFFSET; all 0 while TIME_VALID is 0. -/
def State.calendar (s : State) : Nat :=
  if !s.on Clk.TIME_VALID 0 then 0
  else
    let u := ((s.clk / secU : Nat) : Int) - s.rdI Clk.UTC_OFFSET 0
    let u := u.toNat
    let c := civil (u / 86400)
    let t := u % 86400
    c.1 % 65536 + 2 ^ 16 * c.2.1 + 2 ^ 24 * c.2.2 + 2 ^ 32 * (t / 3600) + 2 ^ 40 * (t / 60 % 60) + 2 ^ 48 * (t % 60)

/-! Writes of chapter 3 that have no row of their own (R66, R70, R75, Table 3.16). -/

/-- A write to an object of 0x3000 to 0x3070. A write of PROFILE leaves DOMAIN as it is (R80; DESIGN CHOICE, log 230). -/
def timeWrite (col el v : Nat) (s : State) : Except Status State :=
  let ok : Except Status State := .ok (s.wr col el v)
  if col = Ptp.ENABLE then
    if v = 1 && !s.on Ptp.ENABLE el then
      if s.rd Ptp.PROFILE el = 2 && s.rd Ptp.GRANTOR0 el = 0 && s.rd Ptp.GRANTOR1 el = 0 then .error .eState
      else if el < 18 && !s.hbmUp then .error .eState
      else if 4 ≤ (s.elemsWith Ptp.ENABLE 1).length then .error .eCapacity
      else
        let t := (s.wr Ptp.ENABLE el 1).ptpUpd el (fun _ => {})
        let t := t.negotiate el
        .ok (if el < 18 then t.ptpStates.demand netPart else t.ptpStates)
    else if v = 0 && s.on Ptp.ENABLE el then
      .ok ((s.wr Ptp.ENABLE el 0).ptpUpd el (fun _ => {})).choose
    else ok
  else if col = Ptp.GRANTOR0 || col = Ptp.GRANTOR1 || col = Ptp.SYNC_LOG then .ok ((s.wr col el v).negotiate el)
  else if col = Clk.SLEW_MAX then
    let t := s.wr col el v
    .ok (if t.slewed t.freqAdj = t.freqAdj then t else t.adjust t.freqAdj)
  else if col = Ptp.PROFILE then (if s.on Ptp.ENABLE el then .error .eState else ok)
  else if col = Ptp.DOMAIN then (if domainOk (s.rd Ptp.PROFILE el) v then ok else .error .eRange)
  else if [Tout.MODE, Tout.START, Tout.PERIOD, Tout.WIDTH, Tout.POLARITY, Tout.FLAGS].contains col then
    (if s.rd Tout.STATUS el = 1 then .error .eBusy else ok)
  else if col = FSlot.MU || col = FSlot.OFFSET then (if s.on Fret.ENABLE el then .error .eState else ok)
  else ok

/-! The commands of chapter 3. -/

def execSetTime (h value : Nat) (s : State) : Out := live (hostWrite h Clk.SET_TIME 0 value (setTime value)) s

def execRefSelWrite (h value : Nat) (s : State) : Out := live (hostWrite h Clk.REF_SEL 0 value (refSelWrite value)) s

def execDelayReqSend (port : Fin 20) (s : State) : Out := live (delayReqSend port) s

def execReferenceLost (freqIn : Nat) (s : State) : Out := live (referenceLost freqIn) s

def execPpsInEdge (falling : Bool) (freqIn : Nat) (s : State) : Out := live (ppsInEdge falling freqIn) s

def execPpsTod (h value : Nat) (s : State) : Out := live (hostWrite h Ref.PPS_TOD 0 value (ppsTod value)) s

def execArm (h n : Nat) (s : State) : Out := live (hostWrite h Tout.ARM n 1 (toutArm n)) s

def execDisarm (h n : Nat) (s : State) : Out := live (hostWrite h Tout.ARM n 2 (toutDisarm n)) s

def execToutEdge (n : Fin 8) (s : State) : Out := live (toutEdge n) s

def execTinEdge (n : Fin 4) (falling : Bool) (pulseNs : Nat) (s : State) : Out := live (tinEdge n falling pulseNs) s

/-- A READ of TINn's FIFO by host h (R73). -/
def tinRead (h n : Nat) (s : State) : State :=
  match s.checkRead h Tin.READ n with
  | .error e => s.emit (.status h e.code)
  | .ok () => let r := tinTake n s; r.2.emit (.value h r.1)

def execTinRead (h n : Nat) (s : State) : Out := live (tinRead h n) s

def execRtcReload (s : State) : Out := live rtcReload s

end Sys2Proof.Machine
end

