-- ==== Sys2Proof/Machine/Fret.lean ====
section
/-! DEFINITION. The Fret interface (chapter 6, R133 to R158): the downlink queues of radio legs and their summaries,
QUERY and ANSWER, DATA, LINK, SLOT, BEARER and ERROR frames, byte for byte. -/

namespace Sys2Proof.Machine

def State.fLeg (s : State) (l : Nat) : FLegX := Tbl.get {} s.fret.legs l
def State.fLegUpd (s : State) (l : Nat) (f : FLegX → FLegX) : State :=
  { s with fret := { s.fret with legs := Tbl.upd {} s.fret.legs l f } }
def State.fPort (s : State) (f : Nat) : FPortX := Tbl.get {} s.fret.ports f
def State.fPortUpd (s : State) (f : Nat) (g : FPortX → FPortX) : State :=
  { s with fret := { s.fret with ports := Tbl.upd {} s.fret.ports f g } }

/-! Deadlines (R137, R142): units of 125 us, modulo 65,536. -/

/-- Local time in deadline units. -/
def dlUnits (ns : Nat) : Nat := ns / 125000 % 65536

/-- Is a deadline at or before an instant, both in deadline units? -/
def expired (dl st : Nat) : Bool := (st + 65536 - dl % 65536) % 65536 < 32768

/-- The deadline of a packet committed at local time t ns, plus ms milliseconds. -/
def deadline (t ms : Nat) : Nat := dlUnits (t + ms * 1000000)

/-! The queue (R137 to R139). -/

/-- The queue of a radio leg before the enqueues of the present cycle, where it had any (R24). -/
def State.undo? (s : State) (l : Nat) : Option UndoX := (Tbl.get none s.fwd.undo l).filter (fun u => u.atC == s.phys)
def State.undoSet (s : State) (l : Nat) (u : Option UndoX) : State :=
  { s with fwd := { s.fwd with undo := Tbl.set none s.fwd.undo l u } }

/-- Every change to a summary adds 1 to GEN (R139): one outside the enqueues stays where a commit of the cycle undoes them. -/
def State.genBump (s : State) (l : Nat) : State :=
  let s := match s.undo? l with
    | some u => s.undoSet l (some { u with gen := (u.gen + 1) % 256 })
    | none => s
  s.bump FLeg.GEN l

/-- A layer frame that leaves the queue undelivered: its dependants can no longer enter the window (R138, R139). -/
def State.loseFrame (s : State) (l : Nat) (v : VItem) : State :=
  let s := s.subLost v.sub v.s v.fn v.t
  s.fLegUpd l (fun x => { x with video := x.video.map (fun w =>
    if w.sub = v.sub && w.refs.contains (v.s, v.fn) then { w with bad := true } else w) })

/-- The window of the video class: the first frames, up to five, ending before the first incomplete one; a frame that
references a lost frame is removed as trimmed before it enters (R139). Fuel is the length of the queue. -/
def State.videoWindow : Nat → State → Nat → Nat → State
  | 0, s, l, n => s.fLegUpd l (fun x => { x with win := (x.win.1, x.win.2.1, n) })
  | k + 1, s, l, n =>
    match (s.fLeg l).video.drop n with
    | [] => s.fLegUpd l (fun x => { x with win := (x.win.1, x.win.2.1, n) })
    | v :: _ =>
      if 5 ≤ n || !v.complete then s.fLegUpd l (fun x => { x with win := (x.win.1, x.win.2.1, n) })
      else if v.bad then
        let s := s.fLegUpd l (fun x => { x with video := x.video.take n ++ x.video.drop (n + 1) })
        let s := ((s.loseFrame l v).drop FLeg.QBYTES l v.size).bump FLeg.TRIMMED l
        s.videoWindow k l n
      else s.videoWindow k l (n + 1)

/-- Refill a leg's window from its queue (R139). A frame in the window whose reference is lost is removed too. -/
def State.refill (s : State) (l : Nat) : State :=
  let x := s.fLeg l
  let s := s.fLegUpd l (fun x => { x with win := (min 3 x.audio.length, min 1 x.rtx.length, 0) })
  s.videoWindow x.video.length l 0

/-- Bytes of an Ethernet frame that carries a DATA packet: addresses, tag, EtherType, header, packet and FCS. -/
def State.dataFrameLen (s : State) (f n : Nat) : Nat := 14 + (if s.rd Fret.VLAN f = 0xFFFF then 0 else 4) + 24 + n + 4

/-- The leading items of a list whose deadline has passed, and the rest. -/
def splitExpired {α : Type} (dl : α → Nat) (st : Nat) : List α → List α × List α
  | [] => ([], [])
  | a :: as => if expired (dl a) st then let r := splitExpired dl st as; (a :: r.1, r.2) else ([], a :: as)

/-- At each enqueue, expired items at the head of each class are removed and counted in EXPIRED; an incomplete layer frame is
abandoned there instead and counted in Q_DROP (R138). The window is filled anew (R139). The caller counts the change. -/
def State.expireHeads (s : State) (l : Nat) : State :=
  let st := dlUnits s.ns
  let x := s.fLeg l
  let a := splitExpired (fun (i : RItem) => i.dl) st x.audio
  let r := splitExpired (fun (i : RItem) => i.dl) st x.rtx
  let v := splitExpired (fun (i : VItem) => i.dl) st x.video
  let gone := v.1.filter (fun w => !w.complete)
  let n := a.1.length + r.1.length + (v.1.length - gone.length)
  if n + gone.length = 0 then s
  else
    let s := s.fLegUpd l (fun x => { x with audio := a.2, rtx := r.2, video := v.2 })
    let s := v.1.foldl (fun s w => s.loseFrame l w) s
    let bytes := sumOf (a.1.map (·.size)) + sumOf (r.1.map (·.size)) + sumOf (v.1.map (·.size))
    ((((s.drop FLeg.QBYTES l bytes).bump FLeg.EXPIRED l n).bump FLeg.Q_DROP l gone.length)).refill l

/-- Packets of an SSRC now in a leg's downlink queue. -/
def FLegX.queuedOf (x : FLegX) (ssrc : Nat) : Nat :=
  ((x.audio.filter (fun i => i.copy.ssrc == ssrc)).length + (x.rtx.filter (fun i => i.copy.ssrc == ssrc)).length) +
    sumOf (x.video.map (fun v => (v.copies.filter (fun c => c.ssrc == ssrc)).length))

/-- Is a copy an SRTCP packet? -/
def CopyX.isRtcp (c : CopyX) : Bool := match c.body with | .rtcp _ => true | _ => false

/-- Would an enqueue on a radio leg be refused for exhaustion (R189)? -/
def State.radioExhausted (s : State) (c : CopyX) : Bool :=
  let ctx := txCtx c.leg
  let rtcp := c.isRtcp
  match (s.ctxX ctx).stream? c.ssrc with
  | none => false
  | some t =>
    t.exhausted (s.ctxGen ctx) rtcp ||
      (let wraps := t.mayWrap (s.ctxGen ctx) rtcp
       let next := if rtcp then t.nextC else (match t.sentI with | some i => i + 1 | none => 0)
       !wraps && indexLast rtcp ≤ next + (s.fLeg c.leg).queuedOf c.ssrc)

/-- A refused enqueue, counted in EXHAUSTED. That the queue left no index free is noted with the generation, so that numbering
may go on at 0 under a later one; the packets queued and committed are not refused (R189). -/
def State.radioRefuse (s : State) (c : CopyX) : State :=
  let ctx := txCtx c.leg
  let g := s.ctxGen ctx
  match (s.ctxX ctx).stream? c.ssrc with
  | none => s
  | some t =>
    let s := if t.exhausted g c.isRtcp then s
      else s.streamUpd ctx c.ssrc (fun u => if c.isRtcp then { u with fullGenC := g } else { u with fullGen := g })
    s.refuse ctx t c.isRtcp

/-- Enqueue an audio, SRTCP or retransmission packet (R137, R138). -/
def State.itemNow (s : State) (c : CopyX) (dl : Nat) : State :=
  let l := c.leg
  let f := s.rd Leg.PORT l
  let s := s.expireHeads l
  if s.radioExhausted c then s.radioRefuse c
  else if s.rd Fret.QUEUE_MAX f < s.rd FLeg.QBYTES l + c.ipLen || 9216 < s.dataFrameLen f c.ipLen then s.bump FLeg.Q_DROP l
  else
    let i : RItem := ⟨c, c.ipLen, dl⟩
    let s := s.fLegUpd l (fun x =>
      if c.cls = 1 then { x with rtx := x.rtx ++ [i] } else { x with audio := x.audio ++ [i] })
    (s.bump FLeg.QBYTES l c.ipLen).refill l

/-- Remove a queued layer frame that is refused or abandoned, counted in Q_DROP. -/
def State.abandon (s : State) (l : Nat) (v : VItem) : State :=
  let s := s.fLegUpd l (fun x => { x with video := x.video.filter (fun w => !(w.sub == v.sub && w.s == v.s && w.fn == v.fn)) })
  let s := s.loseFrame l v
  ((s.drop FLeg.QBYTES l v.size).bump FLeg.Q_DROP l).refill l

/-- The queued layer frame of a packet. -/
def FLegX.frame? (x : FLegX) (sub sl fn : Nat) : Option VItem :=
  x.video.find? (fun v => v.sub == sub && v.s == sl && v.fn == fn)

/-- Enqueue a packet of a layer frame that R110 forwards; `first` where it is the frame's first packet on the
subscription, `eof` where it completes the frame, `refs` the frame's references. A reference that is no longer queued and was not
delivered is lost (R139). -/
def State.videoNow (s : State) (c : CopyX) (sub t dl : Nat) (first eof base : Bool) (refs : List (Nat × Nat)) : State :=
  let l := c.leg
  let f := s.rd Leg.PORT l
  let s := s.expireHeads l
  let old := (s.fLeg l).frame? sub c.frame.1 c.frame.2
  let fresh : VItem := {
    sub := sub
    src := c.src
    s := c.frame.1
    t := t
    fn := c.frame.2
    layer := c.layer
    base := base
    refs := refs.filter (fun r => ((s.fLeg l).frame? sub r.1 r.2).isSome)
    bad := refs.any (fun r => ((s.fLeg l).frame? sub r.1 r.2).isNone && !(s.subX sub).deliv.contains r)
    copies := []
    size := 0
    complete := false
    dl := dl }
  let item : Option VItem := if old.isSome then old else if first then some fresh else none
  match item with
  | none => s
  | some v =>
    if s.radioExhausted c then
      if old.isSome then (s.radioRefuse c).abandon l v else (s.radioRefuse c).subLost sub v.s v.fn v.t
    else if s.rd Fret.QUEUE_MAX f < s.rd FLeg.QBYTES l + c.ipLen || 9216 < s.dataFrameLen f c.ipLen ||
        255 < v.copies.length + 1 then
      if old.isSome then s.abandon l v else (s.subLost sub v.s v.fn v.t).bump FLeg.Q_DROP l
    else
      let v' := { v with copies := v.copies ++ [c], size := v.size + c.ipLen, complete := v.complete || eof }
      let put (q : List VItem) : List VItem :=
        if old.isSome then q.map (fun w => if w.sub == sub && w.s == v.s && w.fn == v.fn then v' else w) else q ++ [v']
      let s := s.fLegUpd l (fun x => { x with video := put x.video })
      (s.bump FLeg.QBYTES l c.ipLen).refill l

/-- One enqueue, and 1 added to GEN where it changed the queue. -/
def State.enqueueNow (s : State) (l : Nat) (e : EnqX) : State :=
  let t := match e with
    | .item c dl => s.itemNow c dl
    | .video c sub t dl first eof base refs => s.videoNow c sub t dl first eof base refs
    | .abandon sub sl fn => match (s.fLeg l).frame? sub sl fn with | some v => s.abandon l v | none => s
  if t.fLeg l = s.fLeg l then t else t.bump FLeg.GEN l

/-- An enqueue on a radio leg. A commit that reaches the summary in the same cycle is applied before it (R24): how the leg
stood before the cycle's enqueues is kept. -/
def State.enlist (s : State) (l : Nat) (e : EnqX) : State :=
  let u := (s.undo? l).getD {
    atC := s.phys, leg := s.fLeg l, qbytes := s.rd FLeg.QBYTES l, expired := s.rd FLeg.EXPIRED l
    trimmed := s.rd FLeg.TRIMMED l, dropped := s.rd FLeg.Q_DROP l, gen := s.rd FLeg.GEN l }
  let t := s.enqueueNow l e
  let moved := (s.subsOfLeg l).filter (fun h => t.subX h != s.subX h)
  t.undoSet l (some { u with ops := u.ops ++ [e], subs := moved.map (fun h => (h, s.subX h, t.subX h)) ++ u.subs })

/-- The enqueues of the present cycle are taken back, to be applied after a commit: those it returns. A subscription that
something else has changed since keeps its state. -/
def State.unlist (s : State) (l : Nat) : List EnqX × State :=
  match s.undo? l with
  | none => ([], s)
  | some u =>
    let s := ((((s.fLegUpd l (fun _ => u.leg)).wr FLeg.QBYTES l u.qbytes).wr FLeg.EXPIRED l u.expired).wr FLeg.TRIMMED l
      u.trimmed).wr FLeg.Q_DROP l u.dropped
    let s := u.subs.foldl (fun s q => if s.subX q.1 = q.2.2 then s.subUpd q.1 (fun _ => q.2.1) else s) s
    (u.ops, (s.wr FLeg.GEN l u.gen).undoSet l none)

/-- What the enqueues of the present cycle did stands: another change follows them. -/
def State.settleQueue (s : State) (l : Nat) : State := s.undoSet l none

def State.radioItem (s : State) (c : CopyX) (dl : Nat) : State := s.enlist c.leg (.item c dl)
def State.radioVideo (s : State) (c : CopyX) (sub t dl : Nat) (first eof base : Bool) (refs : List (Nat × Nat)) : State :=
  s.enlist c.leg (.video c sub t dl first eof base refs)

/-- Incomplete frames of a source are abandoned once a packet with a frame number at least 2 higher is committed. -/
def State.abandonOlder (s : State) (src fn : Nat) : State :=
  s.fret.legs.foldl (fun s r =>
    (r.2.video.filter (fun v => v.src == src && !v.complete && v.fn + 2 ≤ fn)).foldl (fun s v =>
      s.enlist r.1 (.abandon v.sub v.s v.fn)) s) s

/-- Incomplete frames whose deadline has passed are abandoned. -/
def deadlineAbandon (l : Nat) (s : State) : State :=
  (((s.fLeg l).video.filter (fun v => !v.complete && expired v.dl (dlUnits s.ns)))).foldl (fun s v =>
    ((s.settleQueue l).abandon l v).genBump l) s

/-- The queued video of a subscription leaves its radio leg's queue: no copy of it remains (R130). -/
def State.dropVideo (s : State) (h : Nat) : State :=
  let l := s.rd Sub.LEG h
  let gone := (s.fLeg l).video.filter (fun v => v.sub == h)
  if gone = [] then s
  else
    let s := (s.settleQueue l).fLegUpd l (fun x => { x with video := x.video.filter (fun v => v.sub != h) })
    ((s.drop FLeg.QBYTES l (sumOf (gone.map (·.size)))).genBump l).refill l

/-- A leg's downlink queue is released. -/
def State.radioRelease (s : State) (l : Nat) : State :=
  ((s.settleQueue l).fLegUpd l (fun _ => {})).wr FLeg.QBYTES l 0

/-! The summary (Table 6.5). -/

/-- V_DEP of frame j of a window: bit k for each reference to frame k. -/
def depBits (w : List VItem) (j : Nat) (v : VItem) : Nat :=
  sumOf ((List.range j).map (fun k => match w[k]? with
    | some u => if u.sub = v.sub && v.refs.contains (u.s, u.fn) then 2 ^ k else 0
    | none => 0))

/-- The 64 bytes of a leg's summary, little-endian. -/
def State.summary (s : State) (l : Nat) : Bytes :=
  let x := s.fLeg l
  let (a, r, v) := x.win
  let w := x.video.take v
  let flags := (if s.rd Leg.STATE l = 2 && s.radio l then 0x80 else 0) + (if 2 ≤ s.rd FLeg.FSTATE l then 0x40 else 0) +
    (if a < x.audio.length then 0x20 else 0) + (if r < x.rtx.length then 0x10 else 0) + (if v < x.video.length then 8 else 0)
  let cell (i : Option RItem) : Bytes := match i with | some i => natLE 2 i.size ++ natLE 2 i.dl | none => natLE 4 0
  let vcell (j : Nat) : Bytes := match w[j]? with
    | some u => natLE 3 u.size ++ natLE 1 (u.layer * 16 + u.base.toNat * 8) ++ natLE 1 u.copies.length ++
        natLE 1 (depBits w j u) ++ natLE 2 u.dl
    | none => natLE 8 0
  natLE 1 flags ++ natLE 1 (s.rd FLeg.GEN l) ++ natLE 1 (a * 64 + r * 32 + v * 4) ++ [0] ++ natLE 4 (s.rd FLeg.QBYTES l) ++
    ((List.range 3).map (fun i => cell ((x.audio.take a)[i]?))).flatten ++ cell ((x.rtx.take r)[0]?) ++
    ((List.range 5).map vcell).flatten

/-! Messages (Tables 6.2 to 6.14). -/

/-- The Ethernet header of a frame that the device sends on a Fret port: PEER_MAC, LOCAL_MAC, the tag where VLAN is not
0xFFFF, and ETYPE (R134). The tag's priority bits are 0 (DESIGN CHOICE, log 160). -/
def State.fretEther (s : State) (f : Nat) : Bytes :=
  let vid := s.rd Fret.VLAN f
  natLE 6 (s.rd Fret.PEER_MAC f) ++ natLE 6 (s.rd Fret.LOCAL_MAC f) ++ (if vid = 0xFFFF then [] else natBE 2 0x8100 ++ natBE 2 vid) ++
    natBE 2 (s.rd Fret.ETYPE f)

/-- The Ethernet frame that carries a message, padded to 64 bytes with the FCS (R134). -/
def State.fretWrap (s : State) (f : Nat) (m : Bytes) : Bytes :=
  let b := s.fretEther f ++ m
  b ++ List.replicate (60 - b.length) 0

/-- The header of a message of the given length; the sender's SEQ counts the port's frames. -/
def fretHeader (type len seq : Nat) : Bytes := [1, BitVec.ofNat 8 type] ++ natBE 2 len ++ natBE 4 seq

/-- Send a message: `body` is what follows the header. The first frame after reset carries SEQ 0 (DESIGN CHOICE, log 161). -/
def State.fretSend (s : State) (f type : Nat) (body : Bytes) : State :=
  let seq := (s.fPort f).txSeq
  (s.fPortUpd f (fun x => { x with txSeq := (x.txSeq + 1) % 2 ^ 32 })).emit (.fret f (s.fretWrap f (fretHeader type (8 + body.length) seq ++ body)))

/-- Fixed part, entry size and largest COUNT of a scheduler's message type; the offset and size of its COUNT. -/
def fretShape (type : Nat) : Option (Nat × Nat × Nat × Nat × Nat) :=
  match type with
  | 0x01 => some (16, 12, 128, 14, 1)
  | 0x04 => some (16, 12, 128, 12, 2)
  | 0x06 => some (24, 0, 0, 0, 0)
  | 0x07 => some (16, 20, 64, 8, 1)
  | _ => none

/-- Offset of the lowest non-zero byte among offsets lo to hi - 1. -/
def nonZeroIn (m : Bytes) (lo hi : Nat) : Option Nat :=
  ((List.range (hi - lo)).map (· + lo)).find? (fun o => byteAt m o != 0)

/-- The lowest offset of a reserved byte that is not zero, outside QUERY and BEARER entries (R155). SLOT of a
LINK is not looked at (DESIGN CHOICE, log 238). -/
def fretReserved (m : Bytes) (type count : Nat) : Option Nat :=
  match type with
  | 0x01 => nonZeroIn m 15 16
  | 0x06 => nonZeroIn m 13 14
  | 0x07 => if byteAt m 9 / 2 != 0 then some 9 else nonZeroIn m 10 16
  | 0x04 =>
    match nonZeroIn m 14 16 with
    | some o => some o
    | none => ((List.range count).filterMap (fun i =>
        let o := 16 + 12 * i
        if byteAt m (o + 5) / 2 != 0 then some (o + 5) else nonZeroIn m (o + 6) (o + 8))).head?
  | _ => none

/-- The check of a received message (R155): the first failing check's cause and offset. `m` is all that follows the
EtherType, padding included. -/
def fretCheck (m : Bytes) : Option (Nat × Nat) :=
  let type := byteAt m 1
  let len := beAt m 2 2
  if byteAt m 0 ≠ 1 then some (1, 0)
  else match fretShape type with
    | none => some (3, 1)
    | some (fix, ent, most, co, cs) =>
      let count := if cs = 0 then 0 else beAt m co cs
      if len < fix || m.length < len then some (2, 2)
      else if most < count then some (5, co)
      else if len ≠ fix + count * ent then some (2, 2)
      else (fretReserved m type count).map (fun o => (4, o))

/-- The SEQ of a received frame: a gap is counted (R135). The first frame after reset is no gap, and every later number but the
successor is one (DESIGN CHOICE, log 162). -/
def State.fretSeq (s : State) (f seq : Nat) : State :=
  let s := match (s.fPort f).rxSeq with
    | some p => if seq = (p + 1) % 2 ^ 32 then s else s.bump Fret.SEQ_GAPS f
    | none => s
  s.fPortUpd f (fun x => { x with rxSeq := some seq })

/-- A valid frame from the scheduler: the peer is alive (R151). -/
def State.fretHeard (s : State) (f : Nat) : State :=
  let s := s.fPortUpd f (fun x => { x with heardAt := s.phys })
  if s.rd Fret.PEER f = 0 then (s.wr Fret.PEER f 1).raise Ev.FRET_PEER_UP f toPlatform 0 else s

/-- A malformed message: discarded whole; an ERROR at most once per 100 us (R155, Table 6.14). -/
def State.fretError (s : State) (f : Nat) (m : Bytes) (cause off : Nat) : State :=
  let s := s.bump Fret.RX_DISCARD f
  let room := match (s.fPort f).errorAt with | some c => decide (100 * cycUs ≤ s.since c) | none => true
  if !room then s
  else
    let s := (s.fPortUpd f (fun x => { x with errorAt := some s.phys })).bump Fret.ERROR_TX f
    s.fretSend f 8 (natBE 1 cause ++ natBE 1 (byteAt m 1) ++ natBE 2 off ++ natBE 4 (beAt m 4 4))

/-- A Fret frame on an enabled port: checked, then handled by its type. A frame while ENABLE is 0 is discarded and
counted (R134). -/
def fretFrame (type f : Nat) (m : Bytes) (handle : State → State) (s : State) : State :=
  if !s.on Fret.ENABLE f then s.bump Fret.RX_DISCARD f
  else match fretCheck m with
    | some (cause, off) => (s.fretSeq f (beAt m 4 4)).fretError f m cause off
    | none =>
      let s := (s.fretSeq f (beAt m 4 4)).fretHeard f
      if byteAt m 1 = type then handle s else s.bump Fret.RX_DISCARD f

/-- The ACTIVE radio leg that holds a binding on port f (R136). -/
def State.binding (s : State) (f ue bearer : Nat) : Option Nat :=
  (s.elemsWith Leg.STATE 2).find? (fun l =>
    s.rd Leg.KIND l == 1 && s.rd Leg.PORT l == f && s.rd Leg.RADIO_UE l == ue && s.rd FLeg.BEARER l == bearer)

/-! Slots (R75, R140). -/

/-- The start of a slot's instance nearest an instant: after 5.12 s before it and at or before 5.12 s after it. -/
def State.slotStart (s : State) (f slot now : Nat) : Int :=
  let off : Int := s.rd FSlot.OFFSET f
  let mu := s.rd FSlot.MU f
  let fr := slot / 128 % 1024
  let n := slot % 128
  let inPeriod : Int := off + (fr * 10000000 + n * 1000000 / 2 ^ mu : Nat)
  let period : Int := 10240000000
  let lo : Int := (now : Int) - 5120000000       -- exclusive
  lo + ((inPeriod - lo - 1) % period) + 1

/-- Does a SLOT field name a slot? -/
def State.slotValid (s : State) (f slot : Nat) : Bool := slot / 2 ^ 17 == 0 && slot % 128 < 10 * 2 ^ s.rd FSlot.MU f

/-! Selection (R142). -/

/-- Sums of a selection as it proceeds. -/
structure Sel where
  left : Nat
  stop : Bool := false
  aTake : List Nat := []
  aGone : List Nat := []
  xTake : Bool := false
  xGone : Bool := false
  vTake : List Nat := []
  vGone : List Nat := []
  vHeld : List Nat := []
  deriving DecidableEq, Repr

/-- An entry of a QUERY. -/
structure QEntry where
  ue : Nat
  bearer : Nat
  scope : Nat
  bad : Bool
  budget : Nat
  deriving DecidableEq, Repr

/-- Audio packet i: audio is never passed. -/
def selAudio (st ovh scope : Nat) (q : Sel) (r : Nat × RItem) : Sel :=
  if expired r.2.dl st then { q with aGone := q.aGone ++ [r.1] }
  else if !q.stop && scope ≠ 3 && r.2.size + ovh ≤ q.left then
    { q with aTake := q.aTake ++ [r.1], left := q.left - (r.2.size + ovh) }
  else { q with stop := true }

/-- The retransmission: video may pass it. -/
def selRtx (st ovh scope : Nat) (q : Sel) (x : Option RItem) : Sel :=
  match x with
  | none => q
  | some i =>
    if expired i.dl st then { q with xGone := true }
    else if !q.stop && scope = 0 && i.size + ovh ≤ q.left then { q with xTake := true, left := q.left - (i.size + ovh) }
    else q

/-- Does mask d name one of the frames in a list? -/
def hits (d : Nat) (l : List Nat) : Bool := l.any (fun k => bitOf d k)

/-- Video frame j of a window w. -/
def selVideo (st ovh scope : Nat) (w : List VItem) (q : Sel) (r : Nat × VItem) : Sel :=
  let j := r.1
  let v := r.2
  let c := v.size + v.copies.length * ovh
  let d := depBits w j v
  if expired v.dl st || hits d q.vGone then { q with vGone := q.vGone ++ [j] }
  else if q.stop || hits d q.vHeld then { q with vHeld := q.vHeld ++ [j] }
  else if scope = 1 || (scope = 2 && !v.base) then { q with vHeld := q.vHeld ++ [j] }
  else if c ≤ q.left then { q with vTake := q.vTake ++ [j], left := q.left - c }
  else { q with vHeld := q.vHeld ++ [j], stop := q.stop || v.base }

/-- A passed frame is trimmed, and so is a held frame that references a gone one. -/
def selTrim (w : List VItem) (q : Sel) (r : Nat × VItem) : Sel :=
  let j := r.1
  let passed := q.vTake.any (fun k => j < k)
  if q.vHeld.contains j && (passed || hits (depBits w j r.2) q.vGone) then
    { q with vHeld := q.vHeld.filter (· != j), vGone := q.vGone ++ [j] }
  else q

/-- Number the members of a list from 0. -/
def numbered {α : Type} (l : List α) : List (Nat × α) := (List.range l.length).zip l

/-- select of R142: a function of the window and the entry. -/
def select (x : FLegX) (st ovh scope budget : Nat) : Sel :=
  let w := x.video.take x.win.2.2
  let q := (numbered (x.audio.take x.win.1)).foldl (selAudio st ovh scope) { left := budget }
  let q := selRtx st ovh scope q ((x.rtx.take x.win.2.1)[0]?)
  let q := (numbered w).foldl (selVideo st ovh scope w) q
  (numbered w).foldl (selTrim w) q

/-- What is left of a list when some places are taken out. -/
def without {α : Type} (l : List α) (is : List Nat) : List α := ((numbered l).filter (fun r => !is.contains r.1)).map (·.2)

/-- The members at some places, in order. -/
def places {α : Type} (l : List α) (is : List Nat) : List α := ((numbered l).filter (fun r => is.contains r.1)).map (·.2)

/-! Commits (R143). -/

/-- A first sequence number for a stream that the device numbers: SEQ_OFFSET of the subscription for its media, else a
free value of 16 bits. -/
def State.firstSeq (s : State) (sub? : Option Nat) : Nat × State :=
  match sub? with
  | some h => (s.rd SubFwd.SEQ_OFFSET h, s)
  | none => s.draw 16

/-- A committed copy takes its index: the next of its SRTP or SRTCP stream (R189). -/
def State.commitIndex (s : State) (sub? : Option Nat) (c : CopyX) : CopyX × State :=
  if c.isRtcp then
    let i := s.rtcpNext (txCtx c.leg) c.ssrc
    ({ c with seq := i }, s.takeRtcp (txCtx c.leg) c.ssrc i)
  else
    let (first, s) := s.firstSeq sub?
    let i := s.nextIndex (txCtx c.leg) c.ssrc first
    ({ c with seq := i }, s.takeIndex (txCtx c.leg) c.ssrc i)

/-- The subscription that a queued copy of media was made for. -/
def State.subOf (s : State) (c : CopyX) : Option Nat :=
  let h := (s.subsOfLeg c.leg).find? (fun h => s.rd Sub.OUT_SSRC h == c.ssrc)
  match c.body with
  | .media _ => h
  | .mosaic _ _ _ => h
  | .override _ _ => h
  | _ => none

/-- Commit copies in order: indices given out, DATA frames prepared. -/
def State.commitCopies (s : State) (f slot qid entry : Nat) (cs : List (CopyX × Option Nat × Nat × Bool)) : State :=
  let n := cs.length
  ((numbered cs).foldl (fun s r =>
    let (c, sub?, cls, base) := r.2
    let (c, s) := s.commitIndex sub? c
    let d : DataX := {
      slot := slot
      queryId := qid
      entry := entry
      dflags := (if r.1 + 1 = n then 1 else 0) + 2 * cls + (if base then 8 else 0)
      ue := s.rd Leg.RADIO_UE c.leg
      bearer := s.rd FLeg.BEARER c.leg
      layer := if cls = 0 then 0xFF else c.layer
      index := r.1
      leg := c.leg
      copy := c }
    let s := s.fPortUpd f (fun x => { x with data := x.data ++ [d] })
    let s := s.histAdd c (sub?.getD 0)
    match sub?, c.body with
    | some h, .media n => s.countOut h c (((s.pkt? n).map (·.atNs)).getD s.ns)
    | some h, _ => s.countOut h c s.ns
    | none, _ => s) s)

/-- A refresh request for a source, merged into the pending one (R119). -/
def State.wantRefresh (s : State) (src : Nat) (fir : Bool) : State :=
  if s.rd Src.LEG src ≠ 0xFFFFFFFF && s.rd Leg.STATE (s.rd Src.LEG src) = 3 then s
  else s.srcUpd src (fun x => { x with refreshPend := true, refreshFir := x.refreshFir || fir })

/-- The open mosaic whose pictures a source is. -/
def State.mosaicOf (s : State) (src : Nat) : Option Nat :=
  (s.elemsWith Mos.STATE 1).find? (fun m => s.rd Mos.OUT_SOURCE m == src)

/-- A refresh request that one subscription needs: its mosaic's at the viewer's next splice point (R131), or its source's. -/
def State.refreshSub (s : State) (h : Nat) (fir : Bool) : State :=
  let src := s.rd Sub.SOURCE h
  if (s.mosaicOf src).isSome then s.subUpd h (fun x => { x with mosRefresh := true }) else s.wantRefresh src fir

/-- The 16 bytes of an ANSWER entry (Table 6.7). -/
def answerEntry (ue bearer flags pkts bytes remain : Nat) : Bytes :=
  natBE 4 ue ++ natBE 1 bearer ++ natBE 1 flags ++ natBE 2 pkts ++ natBE 4 bytes ++ natBE 4 remain

/-- A leg's queue and QBYTES as an ANSWER sees them: without the enqueues of its cycle (R24). -/
def State.seenLeg (s : State) (l : Nat) : FLegX := match s.undo? l with | some u => u.leg | none => s.fLeg l
def State.seenBytes (s : State) (l : Nat) : Nat := match s.undo? l with | some u => u.qbytes | none => s.rd FLeg.QBYTES l

/-- MORE, as an ANSWER sees a leg's queue. -/
def State.moreFlag (s : State) (l : Nat) : Nat :=
  let x := s.seenLeg l
  if x.audio = [] && x.rtx = [] && x.video = [] then 0 else 32

/-- Apply a selection to a leg (R143): the entry's bytes and the state after. -/
def State.commitQueue (s : State) (f slot qid entry l ovh st : Nat) (e : QEntry) : Bytes × State :=
  let x := s.fLeg l
  let q := select x st ovh e.scope e.budget
  let w := x.video.take x.win.2.2
  let aT := places x.audio q.aTake
  let aG := places x.audio q.aGone
  let xT := if q.xTake then x.rtx.take 1 else []
  let xG := if q.xGone then x.rtx.take 1 else []
  let vT := places w q.vTake
  let vG := places w q.vGone
  let vE := vG.filter (fun v => expired v.dl st)
  let vR := vG.filter (fun v => !expired v.dl st)
  let cs : List (CopyX × Option Nat × Nat × Bool) :=
    aT.map (fun i => (i.copy, s.subOf i.copy, 0, false)) ++ xT.map (fun i => (i.copy, none, 1, false)) ++
      (vT.map (fun v => v.copies.map (fun c => (c, some v.sub, 2, v.base)))).flatten
  let s := s.fLegUpd l (fun x => { x with
    audio := without x.audio (q.aTake ++ q.aGone)
    rtx := if q.xTake || q.xGone then x.rtx.drop 1 else x.rtx
    video := without x.video (q.vTake ++ q.vGone)
    win := (x.win.1 - (aT.length + aG.length), x.win.2.1 - (xT.length + xG.length), x.win.2.2 - (vT.length + vG.length)) })
  let s := vT.foldl (fun s v => (s.subDelivered v.sub v.s v.fn).fLegUpd l (fun x => { x with video := x.video.map (fun u =>
    if u.sub = v.sub then { u with refs := u.refs.filter (· != (v.s, v.fn)) } else u) })) s
  let s := vG.foldl (fun s v =>
    let s := s.loseFrame l v
    if v.base then s.refreshSub v.sub false else s) s
  let gone := sumOf (aG.map (·.size)) + sumOf (xG.map (·.size)) + sumOf (vG.map (·.size))
  let took := sumOf (cs.map (fun c => c.1.ipLen))
  let bytes := e.budget - q.left
  let s := s.drop FLeg.QBYTES l (gone + took)
  let s := (s.bump FLeg.EXPIRED l (aG.length + xG.length + vE.length)).bump FLeg.TRIMMED l vR.length
  let s := (s.bump FLeg.COMMIT_PKTS l cs.length).bump FLeg.COMMIT_BYTES l bytes
  let s := s.genBump l
  let s := s.commitCopies f slot qid entry cs
  let flags := (if vR = [] then 0 else 8) + (if aG = [] && xG = [] && vE = [] then 0 else 16) + s.moreFlag l
  (answerEntry e.ue e.bearer flags cs.length bytes (s.rd FLeg.QBYTES l), s)

/-- The commit of an entry, before the enqueues of its cycle (R24). -/
def State.commitSel (s : State) (f slot qid entry l ovh st : Nat) (e : QEntry) : Bytes × State :=
  let u := s.unlist l
  let r := u.2.commitQueue f slot qid entry l ovh st e
  (r.1, u.1.foldl (fun s e => s.enlist l e) r.2)

/-- One entry of a QUERY with STATUS 0 (R141, R142). A leg whose summary is being rebuilt commits nothing and carries
MORE (R445). -/
def State.answerOne (s : State) (f slot qid entry st : Nat) (e : QEntry) : Bytes × State :=
  match s.binding f e.ue e.bearer with
  | none => (answerEntry e.ue e.bearer (1 + (if e.bad then 4 else 0)) 0 0 0, s)
  | some l =>
    let remain := s.seenBytes l
    if e.bad then (answerEntry e.ue e.bearer (4 + s.moreFlag l) 0 0 remain, s)
    else if 2 ≤ s.rd FLeg.FSTATE l then (answerEntry e.ue e.bearer (2 + s.moreFlag l) 0 0 remain, s)
    else if (s.fLeg l).stale then (answerEntry e.ue e.bearer 32 0 0 remain, s)
    else s.commitSel f slot qid entry l (s.rd Fret.PKT_OVH f) st e

/-- Entry i of a QUERY. -/
def queryEntry (m : Bytes) (i : Nat) : QEntry :=
  let o := 16 + 12 * i
  let fl := byteAt m (o + 5)
  { ue := beAt m o 4, bearer := byteAt m (o + 4), scope := fl % 4,
    bad := fl % 4 == 3 || fl / 4 != 0 || beAt m (o + 6) 2 != 0, budget := beAt m (o + 8) 4 }

/-- A QUERY: resolved, selected, committed and answered (R140 to R144). ENTRIES counts the entries of those answered with
STATUS 0, and an answer sent again is not stored anew (DESIGN CHOICE, log 163). `ns` is how long the ANSWER took; the leg summaries
that meet a parity error are lost until SUMMARY_REFILL rebuilds them (R445). -/
def query (f : Nat) (m : Bytes) (ns : Nat) (parity : List Nat) (s : State) : State :=
  let s := parity.foldl (fun s l => (s.parityError 2 0 toPlatform).fLegUpd l (fun x => { x with stale := true })) s
  let slot := beAt m 8 4
  let qid := beAt m 12 2
  let count := byteAt m 14
  let s := s.bump Fret.QUERIES f
  let s := s.wr Fret.ANSWER_MAX f (max (s.rd Fret.ANSWER_MAX f) (min ns 65535))
  match (s.fPort f).answers.find? (fun a => a.1 == qid && a.2.1 == slot) with
  | some (_, _, body) =>
    (s.bump Fret.REPEATS f).fretSend f 2 (body.take 7 ++ [3] ++ body.drop 8)
  | none =>
    let start := s.slotStart f slot s.ns
    let status := if !s.slotValid f slot then 4 else if start ≤ (s.ns : Int) then 1
      else if (s.ns : Int) + (s.rd Fret.MAX_LEAD f * 1000 : Nat) < start then 2 else 0
    let st := dlUnits start.toNat
    let r := (List.range count).foldl (fun (a : Bytes × State) i =>
        let e := queryEntry m i
        if status ≠ 0 then (a.1 ++ answerEntry e.ue e.bearer 0 0 0 0, a.2)
        else let b := a.2.answerOne f slot qid i st e; (a.1 ++ b.1, b.2)) ([], s)
    let s := if status = 0 then r.2.bump Fret.ENTRIES f count else r.2.bump Fret.STALE f
    let body := natBE 4 slot ++ natBE 2 qid ++ natBE 1 count ++ natBE 1 status ++ r.1
    (s.fPortUpd f (fun x => { x with answers := ((qid, slot, body) :: x.answers).take 16 })).fretSend f 2 body

/-! DATA (R146). -/

/-- The 24 bytes before the packet of a DATA frame. -/
def DataX.header (d : DataX) (seq : Nat) : Bytes :=
  fretHeader 3 (24 + d.copy.ipLen) seq ++ natBE 4 d.slot ++ natBE 2 d.queryId ++ natBE 1 d.entry ++ natBE 1 d.dflags ++
    natBE 4 d.ue ++ natBE 1 d.bearer ++ natBE 1 d.layer ++ natBE 2 d.index

/-! LINK (R147). -/

/-- One entry of a LINK message. -/
def State.linkEntry (s : State) (f : Nat) (m : Bytes) (i : Nat) : State :=
  let o := 16 + 12 * i
  match s.binding f (beAt m o 4) (byteAt m (o + 4)) with
  | none => s.bump Fret.RX_DISCARD f
  | some l => s.fLegUpd l (fun x => { x with
      rates := x.rates ++ [beAt m (o + 8) 4]
      outage := x.outage || byteAt m (o + 5) % 2 == 1
      linkAt := some s.phys })

def link (f : Nat) (m : Bytes) (s : State) : State :=
  (List.range (beAt m 12 2)).foldl (fun s i => s.linkEntry f m i) s

/-- CEIL_LAYER takes its value; a change of it is one to the summary (R24, R139). -/
def State.setCeil (s : State) (l v : Nat) : State :=
  if s.rd Leg.CEIL_LAYER l = v then s else (s.wr Leg.CEIL_LAYER l v).genBump l

/-- ceiling of R148 for one ACTIVE radio leg. -/
def State.radioCeiling (s : State) (l : Nat) : State :=
  let f := s.rd Leg.PORT l
  let x := s.fLeg l
  let silent := match x.linkAt with | some c => decide (s.rd Fret.LINK_TIMEOUT f * cycMs ≤ s.since c) | none => true
  let r := if silent || x.outage then 0
    else if x.rates ≠ [] then sumOf x.rates / x.rates.length else s.rd FLeg.LINK_KBPS l
  let cand := s.candidate l r (s.rd Fret.HEADROOM f) (s.rd Fret.AUDIO_RES f)
  let (ceil, up) := ceilingStep cand (s.rd FLeg.LINE_CEIL l) x.up (s.rd Fret.UP_WINDOWS f)
  let s := s.fLegUpd l (fun x => { x with up := up, rates := [], outage := false })
  ((s.wr FLeg.LINK_KBPS l r).wr FLeg.LINE_CEIL l ceil).setCeil l (lowerLayer (s.rd Leg.CAP_LAYER l) ceil)

/-! SLOT (R151). -/

/-- Arguments of FRET_SLOT_MISMATCH: the difference in ns as an I32, saturated. -/
def slotArgs (d : Int) : Nat := ofInt 32 (satInt 32 d)

/-- A SLOT message (R151). One whose SLOT names no slot is a mismatch (DESIGN CHOICE, log 237). -/
def slotMessage (f : Nat) (m : Bytes) (s : State) : State :=
  let slot := beAt m 8 4
  let tai := beAt m 14 10
  let d : Int := ((ofTime80 tai / nsU : Nat) : Int) - s.slotStart f slot s.ns
  if s.slotValid f slot && byteAt m 12 = s.rd FSlot.MU f && d.natAbs ≤ s.rd Fret.SLOT_TOL f then s
  else
    let s := s.bump Fret.SLOT_MISMATCH f
    let room := match (s.fPort f).mismatchAt with | some c => decide (cycS ≤ s.since c) | none => true
    if room then (s.fPortUpd f (fun x => { x with mismatchAt := some s.phys })).raise Ev.FRET_SLOT_MISMATCH f toPlatform (slotArgs d)
    else s

/-- PEER_TIMEOUT without a valid frame (R151). -/
def peerTimeout (f : Nat) (s : State) : State :=
  if s.rd Fret.PEER f = 1 && s.rd Fret.PEER_TIMEOUT f * cycMs ≤ s.since (s.fPort f).heardAt then
    (s.wr Fret.PEER f 0).raise Ev.FRET_PEER_LOST f toPlatform 0
  else s

/-! BEARER (R152 to R154). -/

/-- Is a binding held by an ACTIVE radio leg other than l? -/
def State.bindingTaken (s : State) (l f ue bearer : Nat) : Bool :=
  match s.binding f ue bearer with | some k => k != l | none => false

/-- REMAP of a leg onto a binding. Onto the same binding it is a no-op, which leaves FSTATE 2 or 3 too (R153; DESIGN CHOICE,
log 236). -/
def State.remap (s : State) (l f ue bearer : Nat) : State :=
  let old := s.rd Leg.PORT l
  if old = f && s.rd Leg.RADIO_UE l = ue && s.rd FLeg.BEARER l = bearer then s
  else
    let s := (((s.wr Leg.PORT l f).wr Leg.RADIO_UE l ue).wr FLeg.BEARER l bearer).wr FLeg.FSTATE l 1
    (s.genBump l).raise Ev.FRET_REMAP old (s.legOwner l) (l + 2 ^ 32 * f)

/-- One BEARER operation on port f: its STATUS and the state after. A NEW_BEARER above 31 answers 4 (DESIGN CHOICE, log 235). -/
def State.bearerOp (s : State) (f : Nat) (m : Bytes) (o : Nat) : Nat × State :=
  let op := byteAt m o
  let resv := beAt m (o + 2) 2 != 0 || beAt m (o + 10) 2 != 0 || beAt m (o + 17) 3 != 0
  if op = 0 || 4 < op || resv then (4, s)
  else match s.binding f (beAt m (o + 4) 4) (byteAt m (o + 8)) with
    | none => (1, s)
    | some l =>
      let st := s.rd FLeg.FSTATE l
      match op with
      | 1 => if st = 3 then (4, s) else if st = 1 then (0, (s.wr FLeg.FSTATE l 2).genBump l) else (0, s)
      | 2 => if st = 3 then (4, s) else if st = 2 then (0, (s.wr FLeg.FSTATE l 1).genBump l) else (0, s)
      | 3 =>
        let nf := byteAt m (o + 9)
        let ue := beAt m (o + 12) 4
        let b := byteAt m (o + 16)
        if 31 < b then (4, s)
        else if 1 < nf || !s.on Fret.ENABLE nf then (3, s)
        else if s.bindingTaken l nf ue b then (2, s)
        else (0, s.remap l nf ue b)
      | _ => if st = 3 then (0, s)
        else (0, ((s.wr FLeg.FSTATE l 3).genBump l).raise Ev.FRET_RELEASED f (s.legOwner l) l)

/-- A BEARER frame: its operations in order, and the echo with ACK and a STATUS per entry. -/
def bearer (f : Nat) (m : Bytes) (s : State) : State :=
  let r := (List.range (byteAt m 8)).foldl (fun (a : Bytes × State) i =>
    let o := 16 + 20 * i
    let b := a.2.bearerOp f m o
    (a.1 ++ slice m o 1 ++ natBE 1 b.1 ++ slice m (o + 2) 18, b.2)) ([], s)
  r.2.fretSend f 7 (slice m 8 1 ++ [1] ++ slice m 10 6 ++ r.1)

/-- A host's write of RADIO_UE to an ACTIVE radio leg (R154); on an OPEN leg it is only stored. -/
def radioUeWrite (l v : Nat) (s : State) : Except Status State :=
  let st := s.rd Leg.STATE l
  if st = 0 || st = 3 then .error .eState
  else if st = 2 && s.radio l then
    if s.bindingTaken l (s.rd Leg.PORT l) v (s.rd FLeg.BEARER l) then .error .eState
    else .ok (s.remap l (s.rd Leg.PORT l) v (s.rd FLeg.BEARER l))
  else .ok (s.wr Leg.RADIO_UE l v)

/-! Windows (R139). -/

/-- SUMMARY_REFILL: the window of leg l is refilled. A summary lost to a parity error is rebuilt by it (R445). -/
def summaryRefill (l : Nat) (s : State) : State :=
  let n := (s.fLeg l).video.length
  let s := ((s.settleQueue l).fLegUpd l (fun x => { x with stale := false })).refill l
  if (s.fLeg l).video.length = n then s else s.genBump l

/-! Enabling and disabling a port (R156, R157). -/

/-- ENABLE = 1. The port's tick stream starts with it. -/
def fretEnable (f : Nat) (s : State) : Except Status State :=
  if !s.on Clk.TIME_VALID 0 || !s.hbmUp then .error .eState
  else if s.on Fret.ENABLE f then .ok s
  else
    let s := (s.wr Fret.ENABLE f 1).demand netPart
    .ok ({ s with tim := { s.tim with slot := Tbl.set {} s.tim.slot f (TickX.start (s.fretGrid f) s.ns) } } : State)

/-- ENABLE = 0: no Fret frame is taken any more; what QUERYs have committed is still sent. -/
def fretDisable (f : Nat) (s : State) : Except Status State :=
  let s := s.wr Fret.ENABLE f 0
  .ok ({ s with tim := { s.tim with slot := Tbl.set {} s.tim.slot f {} } } : State)

/-! Writes of chapter 6 that have no row of their own. -/

/-- A write to an object of 0x2700, and to BEARER of a leg. -/
def fretWrite (col el v : Nat) (s : State) : Except Status State :=
  if col = Fret.ENABLE then (if v = 1 then fretEnable el s else fretDisable el s)
  else if col = Fret.ETYPE || col = Fret.MEDIUM then
    (if s.on Fret.ENABLE el then .error .eState else .ok (s.wr col el v))
  else if col = FLeg.BEARER then
    (if s.rd Leg.STATE el = 1 then .ok (s.wr col el v) else .error .eState)
  else .ok (s.wr col el v)

/-! The commands. -/

def execQuery (f : Fin 2) (message : Bytes) (answerNs : Nat) (parity : List Nat) (s : State) : Out :=
  live (fretFrame 1 f message (query f message answerNs parity)) s

def execLink (f : Fin 2) (message : Bytes) (s : State) : Out := live (fretFrame 4 f message (link f message)) s

def execSlot (f : Fin 2) (message : Bytes) (s : State) : Out := live (fretFrame 6 f message (slotMessage f message)) s

def execPeerTimeout (f : Fin 2) (s : State) : Out := live (peerTimeout f) s

def execBearerSuspend (f : Fin 2) (message : Bytes) (s : State) : Out := live (fretFrame 7 f message (bearer f message)) s

def execBearerResume (f : Fin 2) (message : Bytes) (s : State) : Out := live (fretFrame 7 f message (bearer f message)) s

def execBearerRemap (f : Fin 2) (message : Bytes) (s : State) : Out := live (fretFrame 7 f message (bearer f message)) s

def execBearerRelease (f : Fin 2) (message : Bytes) (s : State) : Out := live (fretFrame 7 f message (bearer f message)) s

def execFretEnable (h f : Nat) (s : State) : Out := live (hostWrite h Fret.ENABLE f 1 (fretEnable f)) s

def execFretDisable (h f : Nat) (s : State) : Out := live (hostWrite h Fret.ENABLE f 0 (fretDisable f)) s

def execRadioUeWrite (h l ue : Nat) (s : State) : Out := live (hostWrite h Leg.RADIO_UE l ue (radioUeWrite l ue)) s

def execSummaryRefill (l : Nat) (s : State) : Out := live (summaryRefill l) s

def execQueueDeadlineAbandon (l : Nat) (s : State) : Out := live (deadlineAbandon l) s

end Sys2Proof.Machine
end

