-- ==== Sys2Proof/Machine/Forward.lean ====
section
/-! DEFINITION. Layer-aware forwarding (chapter 5, R104 to R120): the decision on each layer frame, the rewrite toward a
wired or a radio leg, fan-out, RTCP termination and reports, retransmissions, upstream NACKs and refresh requests. -/

namespace Sys2Proof.Machine

/-! The operating point (R109, R110). -/

/-- The layers a climb may reach, highest id first: present, and within the target in both dimensions. -/
def State.climbTo (s : State) (src tgt : Nat) : List Nat :=
  [11, 10, 9, 8, 7, 6, 5, 4, 3, 2, 1, 0].filter (fun l => s.layerPresent src l && l / 4 ≤ tgt / 4 && l % 4 ≤ tgt % 4)

/-- The operating point after a layer frame whose switch points are `sw`; 0xFF stands for none. -/
def State.operatingPoint (s : State) (h : Nat) (sw : Nat → Bool) : Nat :=
  let tgt := s.bestLayer h
  let cur := s.curLayer h
  let c := if cur = 0xFF then 0xFF else 4 * min (cur / 4) (tgt / 4) + min (cur % 4) (tgt % 4)
  match (s.climbTo (s.rd Sub.SOURCE h) tgt).find? (fun x =>
      (c == 0xFF || (c / 4 ≤ x / 4 && c % 4 ≤ x % 4 && x != c)) && sw x) with
  | some x => x
  | none => c

/-- CUR_LAYER takes its new value; a change counts in SWITCHES. -/
def State.setCur (s : State) (h c : Nat) : State :=
  if s.rd Sub.CUR_LAYER h = c then s else (s.wr Sub.CUR_LAYER h c).bump SubFwd.SWITCHES h

/-- What LAYERS = 0 made of CUR_LAYER is settled before a packet makes a layer of the source present again (R60). -/
def State.settleCur (s : State) (src : Nat) : State :=
  if s.layersOf src ≠ 0 then s else (s.subsOfSource src).foldl (fun s h => s.setCur h 0xFF) s

/-- Is a layer frame a switch point for layer x of a subscription (Table 5.1)? -/
def TagX.isSwitch (t : TagX) (started : Bool) (x : Nat) : Bool :=
  t.switchFor.contains x || (t.first && !started && x == 0)

/-- Is a layer frame deliverable to the subscription's leg (R107)? On a radio leg a reference still queued counts. -/
def State.deliverable (s : State) (h : Nat) (t : TagX) : Bool :=
  let x := s.subX h
  let l := s.rd Sub.LEG h
  let held (r : Nat × Nat) : Bool := s.radio l &&
    (match (s.fLeg l).frame? h r.1 r.2 with | some v => !v.bad | none => false)
  if t.cumulative then t.irap || !(x.lostT.any (fun u => if t.tsa then u < t.t else u ≤ t.t))
  else if t.previous then !x.prevBad
  else t.refs.all (fun r => x.deliv.contains r || held r)

/-- The frames that a layer frame references and that may still be queued on a radio leg. -/
def State.queuedRefs (s : State) (h : Nat) (t : TagX) : List (Nat × Nat) :=
  let l := s.rd Sub.LEG h
  if t.cumulative then
    if t.irap then []
    else (((s.fLeg l).video.filter (fun v => v.sub == h && (if t.tsa then v.t < t.t else v.t ≤ t.t) &&
      Tbl.get 0 (s.subX h).clearAt v.t ≤ v.fn + 1))).map (fun v => (v.s, v.fn))
  else if t.previous then (((s.fLeg l).video.filter (fun v => v.sub == h && v.fn + 1 == t.fn)).map (fun v => (v.s, v.fn)))
  else t.refs

/-- A switch point restarts the frames counted by temporal id: every id at an IRAP or IDR picture, its own at a TSA. -/
def State.clearLost (s : State) (h : Nat) (t : TagX) : State :=
  if !t.cumulative then s
  else if t.irap then s.subUpd h (fun x => { x with
    lostT := []
    clearAt := [0, 1, 2, 3, 4, 5, 6, 7].foldl (fun c k => Tbl.set 0 c k (t.fn + 1)) x.clearAt })
  else if t.tsa then s.subUpd h (fun x => { x with
    lostT := x.lostT.filter (· != t.t), clearAt := Tbl.set 0 x.clearAt t.t (t.fn + 1) })
  else s

/-- The lowest spatial layer forwarded at operating point c. -/
def State.baseSpatial (s : State) (src c : Nat) : Nat :=
  if s.smode src = 1 then c / 4
  else (([0, 1, 2].filter (fun x => x ≤ c / 4 && [0, 1, 2, 3].any (fun t => s.layerPresent src (4 * x + t)))).head?).getD 0

/-- What a subscription keeps when its operating point becomes c (R314): on a device-produced source with SMODE 1, one moved up to
another spatial layer keeps the point that it had, until a deliverable frame of the new layer. -/
def State.keptAt (s : State) (h c : Nat) (t : TagX) : Option Nat :=
  let src := s.rd Sub.SOURCE h
  let cur := s.curLayer h
  if c = 0xFF || cur = 0xFF || s.smode src ≠ 1 || s.rd Src.LEG src ≠ 0xFFFFFFFF then none
  else
    let k := if cur / 4 < c / 4 then some ((s.subX h).keep.getD cur) else (s.subX h).keep
    match k with
    | some k => if c / 4 ≤ k / 4 || (t.s = c / 4 && t.t ≤ c % 4 && s.deliverable h t) then none else some (4 * (k / 4) + min (k % 4) (c % 4))
    | none => none

/-- R110 on one layer frame, at its first packet. -/
def State.decideFrame (s : State) (h : Nat) (t : TagX) : Decided × State :=
  let src := s.rd Sub.SOURCE h
  let started := (s.subX h).started
  let c := s.operatingPoint h (t.isSwitch started)
  let kept := s.keptAt h c t
  let s := s.setCur h c
  let at_ := kept.getD c
  let ok := c != 0xFF && covered (s.smode src) at_ (4 * t.s + t.t) && s.deliverable h t
  let d : Decided := ⟨t.s, t.fn, ok, at_ / 4, t.t = 0 && t.s = s.baseSpatial src at_⟩
  let s := s.clearLost h t
  let s := s.subUpd h (fun x => { x with decided := d :: x.decided, started := true, keep := kept })
  if ok then (d, if s.radio (s.rd Sub.LEG h) then s else s.subDelivered h t.s t.fn)
  else (d, s.subLost h t.s t.fn t.t)

/-- The decision already taken on a layer frame, or the one taken now; true where this packet is the frame's first
that the subscription meets (R110; DESIGN CHOICE, log 234). -/
def State.decision (s : State) (h : Nat) (t : TagX) : Decided × Bool × State :=
  match (s.subX h).decided.find? (fun d => d.s == t.s && d.fn == t.fn) with
  | some d => (d, false, s)
  | none => let r := s.decideFrame h t; (r.1, true, r.2)

/-! What leaves a logical port. -/

/-- A copy handed to the MAC of a logical port: emitted, its history entry marked, and its number kept 1 s for RFC 8888. -/
def State.sentWire (s : State) (p : Nat) (c : CopyX) (bytes : Nat) : State :=
  let (ip, s) := s.ipHead c
  let s := (s.emit (.wire p (s.dscpOf c) (s.ecnOf c.leg) ip c)).histSent c
  if c.isRtcp then s
  else
    let x := s.legEg c.leg
    let live := x.line.sent.filter (fun e => s.since e.atC < cycS)
    s.legEgSet c.leg { x with line := { x.line with sent := ⟨c.ssrc, c.seq % 65536, bytes, s.phys⟩ :: live } }

/-- A copy just queued that found its class queue empty and its shapers holding enough tokens is handed to the MAC cut-through
(R161); the pointers move as for a pick (DEDUCED, log 165). -/
def State.cutThrough (s : State) (l cls : Nat) : State :=
  let p := s.rd Leg.PORT l
  if s.on Lp.LINK p && ((s.legEg l).q cls).length == 1 && s.headFits p cls l then
    let r := s.take p cls l
    match r.2 with | some c => r.1.sentWire p c (s.charged p c) | none => r.1
  else s

/-- A copy that needs no history reaches its class queue, and leaves at once where R161 lets it. -/
def State.egressSend (s : State) (c : CopyX) : State :=
  let r := s.egressAdmit c
  if r.2 then r.1.cutThrough c.leg c.cls else r.1

/-! The rewrite (R112, R113). -/

/-- The output number of an input packet on a wired leg, extended. -/
def State.outExt (s : State) (h inExt : Nat) : Int :=
  let w := ((s.subX h).withheld.filter (fun e => e < inExt)).length
  (inExt : Int) - (w : Nat) + (s.rd SubFwd.SEQ_OFFSET h : Nat)

/-- What a subscription adds to its output numbers to form SRTP indices: on a new stream the roll-over counter starts at
0, on a reused stream numbering continues above the indices used (R179). -/
def State.indexBase (s : State) (h : Nat) (out : Int) : Int :=
  match (s.subX h).base with
  | some b => b
  | none =>
    let low := out % 65536
    match ((s.ctxX (txCtx (s.rd Sub.LEG h))).stream? (s.rd Sub.OUT_SSRC h)).bind (·.sentI) with
    | some i => (i + 1 : Nat) + ((low - (i + 1 : Nat)) % 65536) - out
    | none => low - out

/-- The copy that a packet becomes on a subscription. -/
def State.rewrite (s : State) (h pkt : Nat) (p : PktX) (d : Option Decided) : CopyX :=
  let l := s.rd Sub.LEG h
  let video := d.isSome
  let base := match d with | some d => d.base | none => false
  { leg := l
    cls := if !video then 0 else if base then 2 else 3
    colour := p.colour
    video := video
    src := p.src
    frame := match p.tag with | some t => (t.s, t.fn) | none => (0, 0)
    layer := match p.tag with | some t => 4 * t.s + t.t | none => 0xFF
    ipLen := s.copyLen l p 0
    octets := p.payLen
    ssrc := s.rd Sub.OUT_SSRC h
    pt := p.pt
    ts := (p.ts + s.rd SubFwd.TS_OFFSET h) % 2 ^ 32
    marker := match p.tag, d with | some t, some d => t.eof && t.s == d.opS | _, _ => p.marker
    exts := s.legExts l p.exts
    holds := [pkt]
    body := .media pkt }

/-- A packet withheld on a subscription leaves no gap (R113). -/
def State.withhold (s : State) (h ext : Nat) : State :=
  s.subUpd h (fun x => { x with withheld := if x.withheld.contains ext then x.withheld else ext :: x.withheld })

/-- A copy of a layer frame was dropped on a wired leg: the frame is not delivered (R166). -/
def State.lostCopy (s : State) (h : Nat) (p : PktX) : State :=
  match p.tag with
  | some t => s.subLost h t.s t.fn t.t
  | none => s

/-- The source's first packet after an override follows the last override packet (R348). -/
def State.rebased (s : State) (h inExt : Nat) : State :=
  if !(s.subX h).rebase then s
  else
    let c := txCtx (s.rd Sub.LEG h)
    let ssrc := s.rd Sub.OUT_SSRC h
    let s := s.subUpd h (fun x => { x with rebase := false, withheld := [] })
    match ((s.ctxX c).stream? ssrc).bind (·.sentI) with
    | none => s
    | some _ =>
      let n := s.nextIndex c ssrc 0
      let off := ofInt 16 ((n : Int) - (inExt : Nat))
      (s.wr SubFwd.SEQ_OFFSET h off).subUpd h (fun x => { x with base := some ((n : Int) - ((inExt + off : Nat) : Int)) })

/-- Where numbering passes 2^48 - 1 (R188): under a generation later than the one exhausted, indices go on at 0; under it, the
packet stands at the index that is never used. -/
def State.indexWrap (s : State) (h : Nat) (i base : Int) : Int × State :=
  let c := txCtx (s.rd Sub.LEG h)
  let ssrc := s.rd Sub.OUT_SSRC h
  if i < (indexLast false : Nat) then (base, s)
  else match (s.ctxX c).stream? ssrc with
    | some t =>
      if t.mayWrap (s.ctxGen c) false then
        (base - (2 ^ 48 : Nat), (s.subUpd h (fun x => { x with sent := [] })).streamUpd c ssrc (fun u => { u with
          sentI := none, exhGen := 0, fullGen := 0 }))
      else (base - (i - (indexLast false : Nat)), s)
    | none => (base, s)

/-- A wired copy: numbered, protected and queued. A packet ahead of the stream's first in sequence order would have a negative
SRTP index: it is dropped and counted in LATE (DESIGN CHOICE, log 157). -/
def State.forwardWired (s : State) (h pkt : Nat) (p : PktX) (d : Option Decided) : State :=
  let s := s.rebased h p.seq
  let out := s.outExt h p.seq
  let base := s.indexBase h out
  let (base', s) := s.indexWrap h (out + base) base
  let s := s.subUpd h (fun x => { x with base := some (if (indexLast false : Nat) ≤ out + base' then base else base') })
  let base := base'
  let i := out + base
  if i < 0 || (s.subX h).sent.contains i.toNat then s.bump SubFwd.LATE h
  else
    let c : CopyX := { s.rewrite h pkt p d with seq := i.toNat }
    if c.tooLong then (s.dropCopy c c.leg (s.rd Leg.PORT c.leg)).lostCopy h p
    else
      let r := s.protect (txCtx c.leg) c.ssrc i.toNat false
      if !r.2 then
        let x := r.1.legEg c.leg
        let s := if c.video then r.1.legEgSet c.leg { x with dropped := c.layerFrame :: x.dropped } else r.1
        s.lostCopy h p
      else
        let c := r.1.sealCopy c
        let r := r.1.egressAdmit c
        if !r.2 then r.1.lostCopy h p
        else
          let s := r.1.subUpd h (fun x => { x with sent := i.toNat :: x.sent })
          ((s.histAdd c h).countOut h c p.atNs).cutThrough c.leg c.cls

/-- A copy for a radio leg: appended to its downlink queue. -/
def State.forwardRadio (s : State) (h pkt : Nat) (p : PktX) (d : Option Decided) (first : Bool) : State :=
  let c := s.rewrite h pkt p d
  let f := s.rd Leg.PORT c.leg
  match p.tag, d with
  | some t, some d =>
    s.radioVideo c h t.t (deadline p.atNs (s.rd Fret.DL_VIDEO f)) first t.eof d.base (s.queuedRefs h t)
  | _, _ => s.radioItem c (deadline p.atNs (s.rd Fret.DL_AUDIO f))

/-- Does a source carry the Rosette layer already: the output of an encode session fed inline by a RUNNING composition
(R347)? -/
def State.carriesRosette (s : State) (src : Nat) : Bool :=
  (s.elemsWith Enc.OUT_SOURCE src).any (fun e =>
    s.rd Enc.STATE e != 0 && s.rd Enc.INPUT e == 0 && s.rd Outp.STATE (s.rd Enc.INPUT_ID e) == 1)

/-- override_entry of R347. -/
def State.overrideEntry (s : State) (h : Nat) : Option Nat :=
  let src := s.rd Sub.SOURCE h
  let cur := s.curLayer h
  let w := if cur = 0xFF then 0 else s.rd Layer.WIDTH (16 * src + cur)
  let v := if cur = 0xFF then 0 else s.rd Layer.HEIGHT (16 * src + cur)
  let f := if w ≤ 640 && v ≤ 360 then 0 else if w ≤ 1280 && v ≤ 720 then 1 else if w ≤ 1920 && v ≤ 1080 then 2 else 3
  let order := (List.range (f + 1)).reverse ++ (List.range 4).filter (fun g => f < g)
  (order.filterMap (fun g => (List.range 64).find? (fun e =>
    s.on Store.READY e && (!s.ros.playing || (Tbl.get none s.ros.play e).isSome) && s.rd Store.KIND e == 2 && s.rd Store.CODEC e == s.rd Src.CODEC src && s.rd Store.FAMILY e == g))).head?

/-- Is a subscription cut off from its source: audio while the override is engaged, video once the override streams play
(R347)? -/
def State.overridden (s : State) (h : Nat) : Bool :=
  let src := s.rd Sub.SOURCE h
  if s.rd Src.MEDIA src = 0 then s.ros.at_.isSome
  else s.ros.playing && ((Tbl.get none s.ros.subs h).isSome || !s.carriesRosette src)

/-- One packet on one subscription. Intra alternatives go to mosaics alone (R122). -/
def State.forwardTo (s : State) (pkt : Nat) (p : PktX) (h : Nat) : State :=
  let l := s.rd Sub.LEG h
  if s.rd Leg.STATE l ≠ 2 then s
  else if s.overridden h then s.withhold h p.seq
  else match p.tag with
    | none =>
      let s := s.wr Sub.CUR_LAYER h 0
      if s.radio l then s.forwardRadio h pkt p none true else s.forwardWired h pkt p none
    | some t =>
      if t.ia then s.withhold h p.seq
      else
        let (d, first, s) := s.decision h t
        if !d.fwd then s.withhold h p.seq
        else if s.radio l then s.forwardRadio h pkt p (some d) first
        else s.forwardWired h pkt p (some d)

/-- Packets that something still refers to (R19): egress and downlink copies, DATA waiting, and NACK histories. -/
def State.heldPkts (s : State) : List Nat :=
  s.egr.legs.flatMap (fun r => r.2.all.flatMap (·.holds)) ++
  s.fret.legs.flatMap (fun r => (r.2.audio ++ r.2.rtx).flatMap (·.copy.holds) ++
    r.2.video.flatMap (fun v => v.copies.flatMap (·.holds))) ++
  s.fret.ports.flatMap (fun r => r.2.data.flatMap (·.copy.holds)) ++
  s.fwd.legs.flatMap (fun r => (s.histLive r.1).flatMap (·.copy.holds))

/-- Fan-out: copies in ascending subscription order (R22). -/
def State.fanOut (s : State) (pkt : Nat) (p : PktX) : State :=
  (s.subsOfSource p.src).foldl (fun s h => s.forwardTo pkt p h) s

/-! RTCP toward a leg (R115, R118, R119, R170). -/

/-- The CNAME of a leg as the number of its text: CNAME, or "bxn-" and the leg ID as 8 hexadecimal digits. -/
def State.cname (s : State) (l : Nat) : Nat :=
  let c := s.rd LegFb.CNAME l
  if c ≠ 0 then c
  else
    let digit (k : Nat) : Byte := let d := l / 16 ^ k % 16; BitVec.ofNat 8 (if d < 10 then 0x30 + d else 0x37 + d)
    leNat ([0x62, 0x78, 0x6E, 0x2D] ++ [7, 6, 5, 4, 3, 2, 1, 0].map digit)

/-- Send a compound SRTCP packet to a leg; its stream is that of the first packet's SSRC, MIX_SSRC. -/
def State.sendRtcp (s : State) (l : Nat) (parts : List Rtcp) : State :=
  let ssrc := s.rd LegMix.MIX_SSRC l
  let c : CopyX := { leg := l, cls := 0, ipLen := s.rtcpCopyLen l parts, ssrc := ssrc, pt := 0, body := .rtcp parts }
  if s.radio l then s.radioItem c (deadline s.ns (s.rd Fret.DL_AUDIO (s.rd Leg.PORT l)))
  else if c.tooLong then s.dropCopy c l (s.rd Leg.PORT l)
  else
    let r := s.protectRtcp (txCtx l) ssrc
    if r.2 then r.1.egressSend (r.1.sealCopy (s.stampRtcp c)) else r.1

/-- A compound packet whose own part is one feedback message of the device. -/
def State.sendFeedback (s : State) (l : Nat) (fb : Rtcp) : State :=
  let m := s.rd LegMix.MIX_SSRC l
  s.sendRtcp l [.rr m [], .sdes m (s.cname l), fb]

/-- RTP clock rates (R8). -/
def rtpRate (codec : Nat) : Nat :=
  if 16 ≤ codec then 90000 else match codec with | 0 => 48000 | 1 => 16000 | 2 => 16000 | _ => 8000

/-- NTP time of local time: UTC through UTC_OFFSET, 64 bits. -/
def State.ntp (s : State) : Nat :=
  let sec : Int := ((s.clk / secU : Nat) : Int) - s.rdI Clk.UTC_OFFSET 0 + 2208988800
  (sec % (2 ^ 32 : Nat)).toNat * 2 ^ 32 + s.ns % 1000000000 * 2 ^ 32 / 1000000000

/-- The RTP field of an SR on a subscription (R115). -/
def State.srRtp (s : State) (h : Nat) : Nat :=
  let src := s.rd Sub.SOURCE h
  let rate := rtpRate (s.rd Src.CODEC src)
  let off := s.rd SubFwd.TS_OFFSET h
  if s.rd Src.LEG src = 0xFFFFFFFF then
    ((if rate = 90000 then rtp90k s.ns (s.srcX src).rtpOffset else rtpAudio rate s.ns (s.srcX src).rtpOffset) + off) % 2 ^ 32
  else match (s.srcX src).sr with
    | some (ntp, rtp, _) =>
      let d := toInt 64 (ofInt 64 ((s.ntp : Int) - ntp))
      ofInt 32 ((rtp : Int) + d * rate / (2 ^ 32 : Nat) + off)
    | none => match (s.subX h).lastTs with
      | some (ts, at_) => (ts + (s.ns - at_) * rate / 1000000000) % 2 ^ 32
      | none => 0

/-- The report block of a received source (RFC 3550): loss since the last report, highest number, jitter, LSR, DLSR. -/
def State.rrBlock (s : State) (src : Nat) : RrBlock × State :=
  let x := s.srcX src
  let top := x.top.getD 0
  let expected := if x.rcvd = 0 then 0 else top + 1 - x.firstExt
  let ei := expected - x.expPrior
  let ri := x.rcvd - x.rcvPrior
  let lost := ei - ri
  let cum : Int := (expected : Int) - x.rcvd
  let lsr := match x.sr with | some (n, _, _) => n / 65536 % 2 ^ 32 | none => 0
  let dlsr := match x.sr with | some (_, _, t) => (s.ns - t) * 65536 / 1000000000 % 2 ^ 32 | none => 0
  (⟨s.rd Src.SSRC src, if ei = 0 then 0 else min 255 (lost * 256 / ei), ofInt 24 (satInt 24 cum), top % 2 ^ 32, x.jitter16 / 16 % 2 ^ 32, lsr, dlsr⟩,
   s.srcUpd src (fun x => { x with expPrior := expected, rcvPrior := x.rcvd }))

/-- Index of the RTCP interval now running on a leg: the phase is (L mod RTCP_INTERVAL) ms after the block grid. -/
def State.rtcpIndex (s : State) (l : Nat) : Nat :=
  let n := s.rd LegFb.RTCP_INTERVAL l
  (s.ns / 1000000 + n - l % n) / n

/-- The SRs that fit in one packet, and those put off. -/
def fitSrs (room : Nat) : List (Rtcp × Rtcp) → List (Rtcp × Rtcp) × List (Rtcp × Rtcp)
  | [] => ([], [])
  | a :: as =>
    let n := rtcpLen a.1 + rtcpLen a.2
    if n ≤ room then let r := fitSrs (room - n) as; (a :: r.1, r.2) else ([], a :: as)

/-- The SSRC of an SR. -/
def srSsrc : Rtcp → Nat | .sr ssrc _ _ _ _ _ => ssrc | _ => 0

/-- The compound report of an ACTIVE leg, once per RTCP_INTERVAL at its phase, in the order of R115's list; an RR without
blocks is sent only where no SR opens the packet. -/
def rtcpReport (l : Nat) (s : State) : State :=
  if s.rd Leg.STATE l ≠ 2 || s.rtcpIndex l = (s.legX l).rtcpAt then s
  else
    let m := s.rd LegMix.MIX_SSRC l
    let cn := s.cname l
    let r := (s.sourcesOf l).foldl (fun (a : List RrBlock × State) src =>
      let b := a.2.rrBlock src; (a.1 ++ [b.1], b.2)) ([], s)
    let s := r.2
    let x := s.legX l
    let mix : Rtcp := .sr m s.ntp
      (rtpAudio (rtpRate (s.rd ACfg.CODEC (s.rd Leg.AUDIO_CFG l))) s.ns ((Tbl.get {} s.aud.legs l).rtpOff.getD 0)) (x.mixPkts % 2 ^ 32) (x.mixBytes % 2 ^ 32) r.1
    let due := (s.subsOfLeg l).filter (fun h => (s.subX h).mediaSince || x.rtcpLeft.contains (s.rd Sub.OUT_SSRC h))
    let all := due.map (fun h =>
      let ssrc := s.rd Sub.OUT_SSRC h
      (Rtcp.sr ssrc s.ntp (s.srRtp h) ((s.subX h).sentPkts % 2 ^ 32) ((s.subX h).sentBytes % 2 ^ 32) [], Rtcp.sdes ssrc cn))
    let head : List Rtcp := if x.mixSent then [mix] else []
    let blocks : List Rtcp := if x.mixSent || (r.1 = [] && all ≠ []) then [] else [.rr m r.1]
    let f := fitSrs (9216 - s.rtcpCopyLen l (head ++ blocks ++ [.sdes m cn])) all
    let s := due.foldl (fun s h => s.subUpd h (fun y => { y with mediaSince := false })) s
    let s := s.legUpd l (fun y => { y with
      rtcpAt := s.rtcpIndex l
      rtcpLeft := f.2.map (fun a => srSsrc a.1)
      mixSent := false })
    s.sendRtcp l (head ++ f.1.map (·.1) ++ blocks ++ [.sdes m cn] ++ f.1.map (·.2))

/-! Received RTCP (Table 5.3). -/

/-- The subscription of a leg that sends on an SSRC. -/
def State.subBySsrc (s : State) (l ssrc : Nat) : Option Nat :=
  (s.subsOfLeg l).find? (fun h => s.rd Sub.OUT_SSRC h == ssrc)
def State.subByRtx (s : State) (l ssrc : Nat) : Option Nat :=
  (s.subsOfLeg l).find? (fun h => s.rd SubFwd.OUT_RTX_SSRC h == ssrc)

/-- The source of a leg that sends on an SSRC, and on a retransmission SSRC. -/
def State.srcBySsrc (s : State) (l ssrc : Nat) : Option Nat :=
  (s.sourcesOf l).find? (fun x => s.rd Src.SSRC x == ssrc)
def State.srcByRtx (s : State) (l ssrc : Nat) : Option Nat :=
  (s.sourcesOf l).find? (fun x => s.rd Src.RTX_SSRC x == ssrc)

def State.rtcpOther (s : State) (l : Nat) : State := s.bump LegFb.RTCP_OTHER l

/-- Send one retransmission of a history entry (R116). -/
def State.sendRtx (s : State) (e : HistX) : State :=
  let l := e.copy.leg
  let c : CopyX := { e.copy with
    cls := 1
    colour := e.colour
    ipLen := e.copy.ipLen + 2
    charged := 0
    ssrc := s.rd SubFwd.OUT_RTX_SSRC e.sub
    pt := s.rd SubFwd.OUT_RTX_PT e.sub
    seq := 0
    video := false
    body := .rtx e.copy.ssrc e.seq }
  let s := s.legUpd l (fun x => { x with hist := x.hist.map (fun y =>
    if y.copy.ssrc = e.copy.ssrc && y.seq = e.seq then { y with lastSent := s.phys } else y) })
  if s.radio l then
    let t := match s.pkt? e.pkt with | some p => p.atNs | none => s.ns
    s.radioItem c (deadline t (s.rd Fret.DL_RTX (s.rd Leg.PORT l)))
  else
    let (first, s) := s.draw 16
    let i := s.nextIndex (txCtx l) c.ssrc first
    let c := { c with seq := i }
    if c.tooLong then s.dropCopy c l (s.rd Leg.PORT l)
    else
      let r := s.protect (txCtx l) c.ssrc i false
      if r.2 then r.1.egressSend (r.1.sealCopy c) else r.1

/-- One NACKed sequence number. -/
def State.nackOne (s : State) (l ssrc seq : Nat) : State :=
  let s := s.bump LegFb.NACK_RX l
  match (s.histLive l).find? (fun e => e.copy.ssrc == ssrc && e.seq == seq) with
  | none => s.bump LegFb.NACK_MISS l
  | some e =>
    if e.sent && s.rd Sub.STATE e.sub == 1 && s.rd SubFwd.OUT_RTX_PT e.sub != 0xFF &&
        decide (s.rd LegFb.NACK_HOLD l * cycMs ≤ s.since e.lastSent) then s.sendRtx e
    else s.bump LegFb.NACK_MISS l

/-- A PLI or FIR from a receiver. -/
def State.refreshFrom (s : State) (l ssrc : Nat) (fir : Bool) : State :=
  match (s.subBySsrc l ssrc).orElse (fun _ => s.subByRtx l ssrc) with
  | none => s.rtcpOther l
  | some h => s.refreshSub h fir

/-- TMMBR: the lowest entry that names an OUT_SSRC of the leg is held and answered (R170, R172). -/
def State.tmmbr (s : State) (l : Nat) (es : List (Nat × Nat × Nat)) : State :=
  match (es.filter (fun e => (s.subBySsrc l e.1).isSome)).foldl (fun (b : Option (Nat × Nat × Nat)) e =>
      match b with | none => some e | some x => if e.2.1 < x.2.1 then some e else some x) none with
  | none => if es.any (fun e => (s.subByRtx l e.1).isSome) then s else s.rtcpOther l
  | some e =>
    let s := if s.radio l then s
      else s.wr Line.TMMBR_KBPS l (if e.2.1 = 0 then s.rd Line.MIN_KBPS l else min (e.2.1 / 1000) 0xFFFFFFFE)
    (s.bump Line.TMMBN_TX l).sendFeedback l (.tmmbn [e])

/-- Is sequence number a later than b, in 16-bit serial arithmetic? -/
def seqLater (a b : Nat) : Bool := a != b && (a + 65536 - b) % 65536 < 32768

/-- One sequence number sent, as an RFC 8888 report covers it: received, lost, or left uncounted (R170). -/
def lineCount (rs : List CcReport) (x : LineX) (e : SentX) : LineX :=
  match rs.find? (fun r => r.ssrc == e.ssrc && r.seq == e.seq) with
  | none => x
  | some r =>
    let done := { x with sent := x.sent.filter (fun y => !(y.ssrc == e.ssrc && y.seq == e.seq)) }
    if r.received then { done with rxBytes := x.rxBytes + e.bytes, rcvd := x.rcvd + 1, ce := x.ce + r.ce.toNat }
    else if rs.any (fun q => q.ssrc == e.ssrc && q.received && seqLater q.seq e.seq) then { done with lost := x.lost + 1 }
    else x

/-- An RFC 8888 report. What it says of foreign SSRCs is discarded, and so is a report on those alone (Table 7.6). -/
def State.ccfb (s : State) (l : Nat) (rs : List CcReport) : State :=
  let s := s.bump Line.FB_RX l
  if s.radio l then s
  else
    let asked := rs
    let strange := (distinct (rs.map (·.ssrc))).filter (fun ssrc => (s.subBySsrc l ssrc).isNone)
    let s := s.bump LegFb.RTCP_OTHER l strange.length
    let rs := rs.filter (fun r => (s.subBySsrc l r.ssrc).isSome)
    let x := s.legEg l
    let live := x.line.sent.filter (fun e => s.since e.atC < cycS)
    let line := live.foldl (lineCount rs) { x.line with sent := live }
    if rs = [] && asked ≠ [] then s
    else s.legEgSet l { x with line := { line with reports := line.reports + 1, from_ := s.phys } }

/-- The round-trip time of a report block that arrives now (RFC 3550): arrival less LSR less DLSR, in 1/65,536 s; none before
the receiver has had an SR. -/
def State.roundTrip (s : State) (b : RrBlock) : Option Nat :=
  if b.lsr = 0 then none else some (ofInt 32 ((s.ntp / 65536 % 2 ^ 32 : Nat) - (b.lsr : Int) - (b.dlsr : Int)))

/-- Report blocks on a leg's own streams are kept: loss, jitter and round-trip time (Table 5.3). -/
def State.takeBlocks (s : State) (l : Nat) (bs : List RrBlock) : State :=
  bs.foldl (fun s b => match s.subBySsrc l b.ssrc with
    | some h => s.subUpd h (fun x => { x with rr := some b, rtt := s.roundTrip b })
    | none => s) s

/-- Is an SSRC one of a leg's sources, on its main or retransmission SSRC? -/
def State.knownSender (s : State) (l ssrc : Nat) : Option Nat :=
  (s.srcBySsrc l ssrc).orElse (fun _ => s.srcByRtx l ssrc)

/-- One part of a compound packet received from a leg (Table 5.3). The report blocks of an SR from an SSRC that is no source of the leg
are still taken (DESIGN CHOICE, log 233). -/
def State.rtcpPart (s : State) (l : Nat) (r : Rtcp) : State :=
  match r with
  | .sr ssrc ntp rtp _ _ bs =>
    let s := s.takeBlocks l bs
    (match s.knownSender l ssrc with
     | none => s.rtcpOther l
     | some src => if s.rd Src.SSRC src = ssrc then s.srcUpd src (fun x => { x with sr := some (ntp, rtp, s.ns) }) else s)
  | .rr _ bs => s.takeBlocks l bs
  | .sdes ssrc cname =>
    (match s.knownSender l ssrc with
     | none => s.rtcpOther l
     | some src => s.srcUpd src (fun x => { x with cname := cname }))
  | .bye ssrc =>
    (match s.knownSender l ssrc with
     | none => s.rtcpOther l
     | some src => (s.wr SrcFwd.BYE src 1).raise Ev.SOURCE_BYE 0 (s.srcOwner src) src)
  | .nack _ media seqs =>
    if ((s.subBySsrc l media).orElse (fun _ => s.subByRtx l media)).isNone then s.rtcpOther l
    else seqs.foldl (fun s q => s.nackOne l media q) s
  | .pli _ media => s.refreshFrom l media false
  | .fir _ media _ => s.refreshFrom l media true
  | .tmmbr es => s.tmmbr l es
  | .ccfb rs => s.ccfb l rs
  | .tmmbn _ => s.rtcpOther l
  | .other => s.rtcpOther l

/-! Upstream (R118, R119). -/

/-- The missing numbers of a source that are due are NACKed to its leg, once each. -/
def upNack (src : Nat) (s : State) : State :=
  let l := s.rd Src.LEG src
  let due := (s.srcX src).missing.filter (fun m => m.2.1 ≤ s.phys && !m.2.2)
  if due = [] || s.rd Src.STATE src ≠ 1 || l = 0xFFFFFFFF || s.rd Leg.STATE l ≠ 2 || !s.on LegFb.UP_NACK l then s
  else
    let s := s.srcUpd src (fun x => { x with missing := x.missing.map (fun m => if m.2.1 ≤ s.phys then (m.1, m.2.1, true) else m) })
    let s := s.bump SrcFwd.NACK_TX src due.length
    s.sendFeedback l (.nack (s.rd LegMix.MIX_SSRC l) (s.rd Src.SSRC src) (due.map (fun m => m.1 % 65536)))

/-- A merged refresh request is sent: to the encoder of a device-produced source, else as a PLI or FIR to the source's
leg, once PLI_MIN has passed since the last and the leg is ACTIVE. -/
def refreshSend (src : Nat) (s : State) : State :=
  let x := s.srcX src
  let l := s.rd Src.LEG src
  let held := match x.refreshAt with | some c => decide (s.since c < s.rd SrcFwd.PLI_MIN src * cycMs) | none => false
  if !x.refreshPend || s.rd Src.STATE src ≠ 1 || held then s
  else if l = 0xFFFFFFFF then
    let s := s.srcUpd src (fun x => { x with refreshPend := false, refreshFir := false, refreshAt := some s.phys })
    { s with fwd := { s.fwd with encReq := s.fwd.encReq ++ [(src, x.refreshFir)] } }
  else if s.rd Leg.STATE l ≠ 2 then s
  else
    let m := s.rd LegMix.MIX_SSRC l
    let ssrc := s.rd Src.SSRC src
    let s := s.srcUpd src (fun y => { y with
      refreshPend := false
      refreshFir := false
      refreshAt := some s.phys
      firSeq := if x.refreshFir then (y.firSeq + 1) % 256 else y.firSeq })
    if x.refreshFir then (s.bump SrcFwd.FIR_TX src).sendFeedback l (.fir m ssrc ((x.firSeq + 1) % 256))
    else (s.bump SrcFwd.PLI_TX src).sendFeedback l (.pli m ssrc)

/-! What leaves the device. -/

/-- Packets no longer referred to are released (R19); decode and audio inputs hold theirs. -/
def State.release (s : State) (more : List Nat) : State :=
  let held := s.heldPkts ++ more
  { s with fwd := { s.fwd with store := s.fwd.store.filter (fun r => held.contains r.1) } }

/-- A copy whose bytes meet a parity error of the packet store (`parity` 1) or of a data path (2) is discarded, and its layer
frame is not delivered (R445). -/
def State.parityCopy (s : State) (c : CopyX) (parity unit : Nat) : State :=
  let s := s.parityError (if parity = 1 then 1 else 8) unit toPlatform
  if !c.video then s
  else
    let x := s.legEg c.leg
    let s := if s.radio c.leg then s else s.legEgSet c.leg { x with dropped := c.layerFrame :: x.dropped }
    match s.subOf c with
    | some h => s.subLost h c.frame.1 c.frame.2 (c.layer % 4)
    | none => s

/-- EGRESS_PICK: the port's MAC takes the next copy. -/
def egressPick (p parity : Nat) (s : State) : State :=
  if !s.on Lp.ENABLE p then s
  else
    let r := s.pick p
    match r.2 with
    | none => r.1
    | some c => if parity ≠ 0 then r.1.parityCopy c parity p else r.1.sentWire p c (r.1.charged p c)

/-- FRET_DATA_SEND: the oldest committed packet of a port is encrypted and sent (R146). Its context may have been erased
since; then it is dropped and counted there. -/
def dataSend (f parity : Nat) (s : State) : State :=
  match (s.fPort f).data with
  | [] => s
  | d :: rest =>
    let s := s.fPortUpd f (fun x => { x with data := rest })
    let copy := if d.copy.isRtcp then { d.copy with e := s.srtcpEnc (txCtx d.leg) } else d.copy
    let d := { d with copy := s.sealCopy copy }
    let r := s.protectCommitted (txCtx d.leg) d.copy.ssrc d.copy.seq d.copy.isRtcp
    if !r.2 then r.1
    else if parity ≠ 0 then r.1.parityCopy d.copy parity (16 + f)
    else
      let seq := (r.1.fPort f).txSeq
      let s := (r.1.fPortUpd f (fun x => { x with txSeq := (x.txSeq + 1) % 2 ^ 32 })).bump Fret.DATA_TX f
      (s.emit (.fretData f (s.fretEther f ++ d.header seq) d.copy)).histSent d.copy

/-! Writes of chapter 5 to source and subscription forwarding objects. -/

/-- Would an SSRC repeat among a leg's subscriptions other than h? -/
def State.ssrcTaken (s : State) (l h ssrc : Nat) : Bool :=
  (s.subsOfLeg l).any (fun k => k != h && s.rd Sub.OUT_SSRC k == ssrc)

/-- The streams that a leg's send context holds or will need: those it has, its mix and RTCP, and each subscription's own
and retransmission stream (R179). -/
def State.sendStreams (s : State) (l : Nat) : List Nat :=
  distinct (s.rd LegMix.MIX_SSRC l :: (s.ctxX (txCtx l)).streams.map (·.ssrc) ++
    (s.subsOfLeg l).flatMap (fun h => [s.rd Sub.OUT_SSRC h, s.rd SubFwd.OUT_RTX_SSRC h]))

/-- A state in which a leg needs no stream beyond its send context's limit; E_CAPACITY otherwise (R179). -/
def withinStreams (l : Nat) (s : State) : Except Status State :=
  if streamMax (txCtx l) < (s.sendStreams l).length then .error .eCapacity else .ok s

/-- A free value of 32 bits that is none of the values taken: the drawn one, or the next above it that is free. -/
def State.pick32 (s : State) (taken : List Nat) : Nat × State :=
  let (v, s) := s.draw 32
  ((((List.range (taken.length + 1)).map (fun i => (v + i) % 2 ^ 32)).find? (fun w => !taken.contains w)).getD v, s)

/-- The device picks OUT_SSRC and OUT_RTX_SSRC of a subscription: two values that no other stream toward its leg has. -/
def State.pickSsrcs (s : State) (h : Nat) : State :=
  let l := s.rd Sub.LEG h
  let taken := s.rd LegMix.MIX_SSRC l :: ((s.subsOfLeg l).filter (· != h)).flatMap
    (fun k => [s.rd Sub.OUT_SSRC k, s.rd SubFwd.OUT_RTX_SSRC k])
  let (a, s) := s.pick32 taken
  let (r, s) := s.pick32 (a :: taken)
  ((s.wr Sub.OUT_SSRC h a).wr SubFwd.OUT_RTX_SSRC h r).subUpd h (fun x => { x with base := none })

/-- A write of OUT_SSRC, OUT_RTX_SSRC or SSRC_AUTO (R51, R179). SSRC_AUTO set on an ACTIVE subscription: the device picks
both values at the write. -/
def subSsrcWrite (col h v : Nat) (s : State) : Except Status State :=
  let l := s.rd Sub.LEG h
  let active := s.rd Sub.STATE h = 1
  if col = Sub.SSRC_AUTO then
    if active && v = 1 && !s.on Sub.SSRC_AUTO h then withinStreams l ((s.wr col h v).pickSsrcs h) else .ok (s.wr col h v)
  else if s.on Sub.SSRC_AUTO h then .error .eState
  else if active && col = Sub.OUT_SSRC && s.ssrcTaken l h v then .error .eState
  else (if active then withinStreams l else .ok) (if active && col = Sub.OUT_SSRC && s.rd col h ≠ v then (s.wr col h v).subUpd h (fun x => { x with base := none })
    else s.wr col h v)

/-! The commands. -/

def execRtcpReportSend (leg : Nat) (s : State) : Out := live (rtcpReport leg) s

def execUpNackSend (source : Nat) (s : State) : Out := live (upNack source) s

def execRefreshRequestSend (source : Nat) (s : State) : Out := live (refreshSend source) s

def execEgressPick (port : Fin 16) (parity : Fin 3) (s : State) : Out := live (egressPick port parity) s

def execFretDataSend (f : Fin 2) (parity : Fin 3) (s : State) : Out := live (dataSend f parity) s

end Sys2Proof.Machine
end

