-- ==== Sys2Proof/Machine/Dsp.lean ====
section
/-! DEFINITION. A media DSP core (R248 to R265): registers, bundles, arithmetic, addressing, repeats, windows, and the
run of a work item to its end. Register values are numbers below 2^width; accumulators are integers. -/

namespace Sys2Proof.Machine

/-- What confines an item (R260, R265): the word address of its argument header, code range, X and Y limits, and its
windows' places in shared memory as (first word, words), counted from the header. -/
structure ItemEnv where
  base : Nat
  codeLo : Nat
  codeHi : Nat
  xlim : Nat
  ylim : Nat
  wins : List (Nat × Nat)
  deriving DecidableEq, Repr

/-- How a step of a core ends. Faults are coded as for DSP_FAULT: 0 illegal bundle, 1 X or Y limit, 2 code range,
3 window. -/
inductive Bundle where
  | go (r : CoreR)
  | done (r : CoreR)
  | fault (f : Nat) (r : CoreR)
  deriving DecidableEq, Repr

/-- The registers a step ends with. -/
def Bundle.regs : Bundle → CoreR
  | .go r => r
  | .done r => r
  | .fault _ r => r

/-! Numbers. -/

/-- The 32-bit and 16-bit signed values of a register and of its halves. -/
def s32 (v : Nat) : Int := toInt 32 v
def half (v : Nat) (hi : Bool) : Int := toInt 16 (if hi then v / 65536 else v)

/-- A value clamped to the 32-bit range, and whether it was. -/
def clamp32 (i : Int) : Int × Bool := (satInt 32 i, satInt 32 i != i)

/-- A value reduced to 40-bit two's complement, and whether it left the range. -/
def wrap40 (i : Int) : Int × Bool := (toInt 40 (ofInt 40 i), toInt 40 (ofInt 40 i) != i)

/-- A value times 2^n, floored for negative n. -/
def shiftI (i : Int) (n : Int) : Int := if 0 ≤ n then i * (2 : Int) ^ n.toNat else i / (2 : Int) ^ (-n).toNat

/-- product of R254. -/
def product (a b : Int) (f s : Bool) : Int × Bool :=
  if f then (if s && a == -32768 && b == -32768 then (2 ^ 31 - 1, true) else (2 * (a * b), false)) else (a * b, false)

/-- accumulate of R254: 0 mpy, 1 mac, 2 msu. The new accumulator, SAT and OVF. -/
def accumulate (acc p : Int) (op : Nat) (s : Bool) : Int × Bool × Bool :=
  let t := match op with | 0 => p | 1 => acc + p | _ => acc - p
  if s then let c := clamp32 t; (c.1, c.2, false) else let w := wrap40 t; (w.1, false, w.2)

/-- rnd of R255 on a 40-bit value: the high half, and SAT. -/
def roundHigh (v : Int) (t : Bool) : Int × Bool :=
  let c := clamp32 (if t then v else v + 32768)
  (c.1 / 65536, c.2)

/-- The complex product of R256. -/
def cproduct (a b : Nat) (cj f : Bool) : Int × Int :=
  let bi := if cj then -half b true else half b true
  let re := half a false * half b false - half a true * bi
  let im := half a false * bi + half a true * half b false
  if f then (2 * re, 2 * im) else (re, im)

/-! Addressing (R257). -/

/-- Least k with 2^k ≥ n, and floor(log2 n). -/
def ceilLog2 (n : Nat) : Nat := if n ≤ 1 then 0 else (n - 1).log2 + 1

/-- The k low bits of a number in reverse order. -/
def revBits (k v : Nat) : Nat := (List.range k).foldl (fun a i => a * 2 + v / 2 ^ i % 2) 0

/-- Post-update of an address by Table 11.7; STEP 0 leaves it unchanged (R271). -/
def postUpdate (a upd mod : Nat) : Nat :=
  let len := mod / 65536
  let st := toInt 16 mod
  let base := a / 2 ^ ceilLog2 len * 2 ^ ceilLog2 len
  match upd with
  | 0 => a
  | 1 => (a + 1) % 16384
  | 2 =>
    if st = 0 then a
    else if len = 0 then (((a : Int) + st) % 16384).toNat
    else (base + ((((a - base : Nat) : Int) + st) % (len : Int)).toNat) % 16384
  | _ =>
    if st = 0 || len = 0 then a
    else
      let k := len.log2
      -- a carry from bit k - 1 downward is an addition on the reversed bits
      base + revBits k ((revBits k (a - base) + revBits k (st % (2 ^ k : Nat)).toNat) % 2 ^ k)

/-! Bundles (R252, R253). -/

/-- The fields of a 64-bit bundle. -/
def arithOf (w : Nat) : Nat := bitsOf w 34 30
def xmoveOf (w : Nat) : Nat := bitsOf w 17 17
def ymoveOf (w : Nat) : Nat := bitsOf w 0 17
def opcOf (w : Nat) : Nat := bitsOf (arithOf w) 24 6

/-- The format of an opcode (Table 11.6). -/
inductive Fmt where
  | n | r3 | i | m | c | e | a | s | b | p | l
  deriving DecidableEq, Repr

def fmtOf (opc : Nat) : Option Fmt :=
  if opc = 0x00 || opc = 0x3E then some .n
  else if 0x01 ≤ opc && opc ≤ 0x0A then some .r3
  else if opc = 0x0B || opc = 0x0C || opc = 0x22 then some .i
  else if 0x10 ≤ opc && opc ≤ 0x12 then some .m
  else if opc = 0x13 || opc = 0x14 || opc = 0x1B then some .e
  else if opc = 0x15 || opc = 0x16 then some .a
  else if 0x18 ≤ opc && opc ≤ 0x1A then some .c
  else if opc = 0x20 then some .b
  else if opc = 0x21 then some .p
  else if opc = 0x28 || opc = 0x29 then some .s
  else if opc = 0x30 || opc = 0x31 then some .l
  else none

/-- Is an arithmetic slot legal: a listed opcode, no reserved value, every reserved field 0, the right kind of
accumulator? setlc has no destination register: its D is 0. -/
def arithOk (v : Nat) : Bool :=
  let opc := bitsOf v 24 6
  match fmtOf opc with
  | none => false
  | some f => match f with
    | .n => bitsOf v 0 24 == 0
    | .r3 => bitsOf v 5 7 == 0
    | .i => bitsOf v 16 4 == 0 && (opc != 0x22 || bitsOf v 20 4 == 0)
    | .m => bitsOf v 0 10 == 0
    | .c => bitsOf v 0 13 == 0
    | .e => bitsOf v 0 16 == 0 && (if opc = 0x1B then bitsOf v 17 3 == 4 || bitsOf v 17 3 == 5 else bitsOf v 17 3 < 4)
    | .a => bitsOf v 6 11 == 0 && (if opc = 0x15 then bitsOf v 21 3 < 4 else bitsOf v 21 3 ≤ 5)
    | .s => bitsOf v 0 15 == 0 && bitsOf v 19 5 ≤ 25
    | .b => bitsOf v 0 4 == 0 && bitsOf v 21 3 ≤ 5
    | .p => bitsOf v 16 7 == 0
    | .l => true

/-- Is a move slot legal? -/
def moveOk (v : Nat) : Bool := bitsOf v 15 2 != 3 && bitsOf v 0 3 == 0

/-- May a bundle be repeated (R259)? -/
def repeatable (w : Nat) : Bool := !([0x20, 0x21, 0x3E, 0x30, 0x31].contains (opcOf w))

/-- Is a bundle legal? -/
def bundleOk (w : Nat) : Bool := arithOk (arithOf w) && moveOk (xmoveOf w) && moveOk (ymoveOf w)

/-! Register access. -/

def CoreR.dv (r : CoreR) (k : Nat) : Nat := r.d.getD k 0
def CoreR.setD (r : CoreR) (k v : Nat) : CoreR := { r with d := r.d.set k (v % 2 ^ 32) }
def CoreR.setDI (r : CoreR) (k : Nat) (i : Int) : CoreR := r.setD k (ofInt 32 i)
def CoreR.addSat (r : CoreR) (b : Bool) : CoreR := { r with sat := r.sat || b }
def CoreR.addOvf (r : CoreR) (b : Bool) : CoreR := { r with ovf := r.ovf || b }

/-- Read a special register by its number (format S). -/
def CoreR.getS (r : CoreR) (k : Nat) : Nat :=
  if k < 8 then r.x.getD k 0 else if k < 16 then r.y.getD (k - 8) 0 else if k < 24 then r.m.getD (k - 16) 0
  else if k = 24 then r.lc else r.sat.toNat + 2 * r.ovf.toNat

/-- Write a special register; none where the value is illegal (R253). Bits [15:14] of an address register read as 0. -/
def CoreR.setS (r : CoreR) (k v : Nat) : Option CoreR :=
  if k < 8 then some { r with x := r.x.set k (v % 16384) }
  else if k < 16 then some { r with y := r.y.set (k - 8) (v % 16384) }
  else if k < 24 then (if 16384 < v / 65536 then none else some { r with m := r.m.set (k - 16) v })
  else if k = 24 then some { r with lc := v % 65536 }
  else some { r with sat := v % 2 == 1, ovf := v / 2 % 2 == 1 }

/-! The arithmetic slot. -/

/-- The window that holds shared word `a`: its number and the offset in it. The argument header lies in none. -/
def ItemEnv.window (e : ItemEnv) (a : Nat) : Option (Nat × Nat) :=
  ((e.wins.zipIdx).find? (fun w => e.base + w.1.1 ≤ a && a < e.base + w.1.1 + w.1.2)).map (fun w => (w.2, a - e.base - w.1.1))

/-- A store enters the write buffer of 16 entries; a full one lets its oldest entry out first (R261). -/
def CoreR.store (r : CoreR) (a v : Nat) : CoreR :=
  if r.buf.length < 16 then { r with buf := r.buf ++ [(a, v)] }
  else { r with drained := r.drained ++ r.buf.take 1, buf := r.buf.drop 1 ++ [(a, v)] }

/-- A shared word as the core reads it: its own latest store of the word, else what shared memory holds. -/
def CoreR.shared (r : CoreR) (load : Nat → Nat) (a : Nat) : Nat :=
  match (r.drained ++ r.buf).reverse.find? (fun p => p.1 == a) with
  | some p => p.2
  | none => load a

/-- What an arithmetic slot does beyond writing registers. -/
inductive Act where
  | next
  | jump (target : Nat)
  | repeatNext (n : Nat)
  | finish
  | fault (f : Nat)
  deriving DecidableEq, Repr

/-- The R3 operations. -/
def r3op (opc a b sh : Nat) : Int × Bool :=
  match opc with
  | 0x01 => ((a : Int) + b, false)
  | 0x02 => clamp32 (s32 a + s32 b)
  | 0x03 => ((a : Int) - b, false)
  | 0x04 => clamp32 (s32 a - s32 b)
  | 0x05 => ((a &&& b : Nat), false)
  | 0x06 => ((a ||| b : Nat), false)
  | 0x07 => ((a ^^^ b : Nat), false)
  | 0x08 => ((a * 2 ^ sh : Nat), false)
  | 0x09 => (s32 a / (2 : Int) ^ sh, false)
  | _ => ((a / 2 ^ sh : Nat), false)

/-- Does a branch condition hold, given lc after its reduction (COND 5)? -/
def condHolds (cond a lc : Nat) : Bool :=
  match cond with
  | 0 => true | 1 => a == 0 | 2 => a != 0 | 3 => decide (s32 a < 0) | 4 => decide (0 ≤ s32 a) | _ => lc != 0

/-- Run the arithmetic slot. Sources are read from r0, the registers at the start of the bundle; `load` reads a word of the
cluster's shared memory. -/
def arith (e : ItemEnv) (load : Nat → Nat) (v : Nat) (r0 : CoreR) : CoreR × Act :=
  let opc := bitsOf v 24 6
  match fmtOf opc with
  | none => (r0, .fault 0)
  | some f => match f with
    | .n => (r0, if opc = 0x3E then .finish else .next)
    | .r3 =>
      let t := r3op opc (r0.dv (bitsOf v 16 4)) (r0.dv (bitsOf v 12 4)) (bitsOf v 0 5)
      ((r0.setDI (bitsOf v 20 4) t.1).addSat t.2, .next)
    | .i =>
      let k := bitsOf v 20 4
      let imm := bitsOf v 0 16
      if opc = 0x0B then (r0.setDI k (toInt 16 imm), .next)
      else if opc = 0x0C then (r0.setD k (imm * 65536 + r0.dv k % 65536), .next)
      else ({ r0 with lc := imm }, .next)
    | .m =>
      let i := bitsOf v 22 2
      let p := product (half (r0.dv (bitsOf v 18 4)) (bitOf v 13)) (half (r0.dv (bitsOf v 14 4)) (bitOf v 12)) (bitOf v 11) (bitOf v 10)
      let t := accumulate (r0.acc.getD i 0) p.1 (opc - 0x10) (bitOf v 10)
      (({ r0 with acc := r0.acc.set i t.1 }.addSat (p.2 || t.2.1)).addOvf t.2.2, .next)
    | .c =>
      let i := bitsOf v 23 1
      let q := cproduct (r0.dv (bitsOf v 19 4)) (r0.dv (bitsOf v 15 4)) (bitOf v 14) (bitOf v 13)
      let c := r0.cacc.getD i (0, 0)
      let re := accumulate c.1 q.1 (opc - 0x18) false
      let im := accumulate c.2 q.2 (opc - 0x18) false
      ({ r0 with cacc := r0.cacc.set i (re.1, im.1) }.addOvf (re.2.2 || im.2.2), .next)
    | .e =>
      let src := bitsOf v 17 3
      let k := bitsOf v 20 4
      if opc = 0x1B then
        let c := r0.cacc.getD (src - 4) (0, 0)
        let re := roundHigh c.1 (bitOf v 16)
        let im := roundHigh c.2 (bitOf v 16)
        ((r0.setD k (ofInt 16 re.1 + 65536 * ofInt 16 im.1)).addSat (re.2 || im.2), .next)
      else
        let a := r0.acc.getD src 0
        let t := if opc = 0x13 then roundHigh a (bitOf v 16) else clamp32 a
        ((r0.setDI k t.1).addSat t.2, .next)
    | .a =>
      let dst := bitsOf v 21 3
      let sh := toInt 6 (bitsOf v 0 6)
      if opc = 0x15 then
        let t := wrap40 (shiftI (s32 (r0.dv (bitsOf v 17 4))) sh)
        ({ r0 with acc := r0.acc.set dst t.1 }.addOvf t.2, .next)
      else if dst < 4 then
        let t := wrap40 (shiftI (r0.acc.getD dst 0) sh)
        ({ r0 with acc := r0.acc.set dst t.1 }.addOvf t.2, .next)
      else
        let c := r0.cacc.getD (dst - 4) (0, 0)
        let re := wrap40 (shiftI c.1 sh)
        let im := wrap40 (shiftI c.2 sh)
        ({ r0 with cacc := r0.cacc.set (dst - 4) (re.1, im.1) }.addOvf (re.2 || im.2), .next)
    | .s =>
      let k := bitsOf v 19 5
      let g := bitsOf v 15 4
      if opc = 0x28 then (match r0.setS k (r0.dv g) with | some r => (r, .next) | none => (r0, .fault 0))
      else (r0.setD g (r0.getS k), .next)
    | .b =>
      let cond := bitsOf v 21 3
      let lc := if cond = 5 then (r0.lc + 65535) % 65536 else r0.lc
      ({ r0 with lc := lc }, if condHolds cond (r0.dv (bitsOf v 17 4)) lc then .jump (bitsOf v 4 13) else .next)
    | .p => (r0, .repeatNext (if bitOf v 23 then r0.lc else bitsOf v 0 16))
    | .l =>
      let a := (r0.dv (bitsOf v 16 4) + bitsOf v 0 16) % 2 ^ 32
      let k := bitsOf v 20 4
      match e.window a with
      | none => (r0, .fault 3)
      | some (w, _) =>
        if opc = 0x30 then
          if w < 4 || w = 8 then ({ r0.setD k (r0.shared load a) with ready := (k, r0.cycles + 12) :: r0.ready }, .next)
          else (r0, .fault 3)
        else if (4 ≤ w && w < 8) || w = 9 then (r0.store a (r0.dv k), .next)
        else (r0, .fault 3)

/-! Moves. -/

/-- The address a move uses, and whether it lies within the limit. -/
def moveFault (v lim : Nat) (regs : List Nat) : Bool := bitsOf v 15 2 != 0 && lim ≤ regs.getD (bitsOf v 12 3) 0

/-- The X move, reading from r0 and writing into r. -/
def xmove (v : Nat) (r0 r : CoreR) : CoreR :=
  let k := bitsOf v 15 2
  if k = 0 then r
  else
    let a := bitsOf v 12 3
    let adr := r0.x.getD a 0
    let g := bitsOf v 3 4
    let r := if k = 1 then r.setD g (Tbl.get 0 r0.xm adr) else { r with xm := Tbl.set 0 r.xm adr (r0.dv g) }
    if bitsOf v 10 2 = 0 then r else { r with x := r.x.set a (postUpdate adr (bitsOf v 10 2) (r0.m.getD (bitsOf v 7 3) 0)) }

/-- The Y move. -/
def ymove (v : Nat) (r0 r : CoreR) : CoreR :=
  let k := bitsOf v 15 2
  if k = 0 then r
  else
    let a := bitsOf v 12 3
    let adr := r0.y.getD a 0
    let g := bitsOf v 3 4
    let r := if k = 1 then r.setD g (Tbl.get 0 r0.ym adr) else { r with ym := Tbl.set 0 r.ym adr (r0.dv g) }
    if bitsOf v 10 2 = 0 then r else { r with y := r.y.set a (postUpdate adr (bitsOf v 10 2) (r0.m.getD (bitsOf v 7 3) 0)) }

/-! One bundle. -/

/-- The data registers that a bundle uses, for the lds stall of R260. -/
def usesOf (w : Nat) : List Nat :=
  let v := arithOf w
  let ofMove (m : Nat) : List Nat := if bitsOf m 15 2 = 2 then [bitsOf m 3 4] else []
  let ar := match fmtOf (opcOf w) with
    | some .r3 => [bitsOf v 16 4, bitsOf v 12 4]
    | some .i => if opcOf w = 0x0C then [bitsOf v 20 4] else []
    | some .m => [bitsOf v 18 4, bitsOf v 14 4]
    | some .c => [bitsOf v 19 4, bitsOf v 15 4]
    | some .a => if opcOf w = 0x15 then [bitsOf v 17 4] else []
    | some .s => if opcOf w = 0x28 then [bitsOf v 15 4] else []
    | some .b => [bitsOf v 17 4]
    | some .l => if opcOf w = 0x31 then [bitsOf v 16 4, bitsOf v 20 4] else [bitsOf v 16 4]
    | _ => []
  ar ++ ofMove (xmoveOf w) ++ ofMove (ymoveOf w)

/-- The cycle at which a bundle can issue: an lds result it uses has arrived. -/
def CoreR.issueAt (r : CoreR) (w : Nat) : Nat :=
  (r.ready.filter (fun p => (usesOf w).contains p.1)).foldl (fun c p => max c p.2) r.cycles

/-- One bundle (R251): sources are read at its start; the arithmetic result, the X move and the Y move are written at its
end, in this order. -/
def bundle (e : ItemEnv) (fetch load : Nat → Nat) (r : CoreR) : Bundle :=
  if r.pc < e.codeLo || e.codeHi < r.pc then .fault 2 r
  else
    let w := fetch r.pc
    let xv := xmoveOf w
    let yv := ymoveOf w
    if !bundleOk w || (r.rep.isSome && !repeatable w) then .fault 0 r
    else if moveFault xv e.xlim r.x || moveFault yv e.ylim r.y then .fault 1 r
    else
      let c := r.issueAt w
      let r0 := { r with cycles := c, ready := r.ready.filter (fun p => c < p.2) }
      let t := arith e load (arithOf w) r0
      let r1 := ymove yv r0 (xmove xv r0 t.1)
      match t.2 with
      | .fault f => .fault f r0
      | .finish => .done { r1 with cycles := c + 4 }
      | .jump target => .go { r1 with pc := target, cycles := c + 3 }
      | .repeatNext n =>
        .go (if n = 0 then { r1 with pc := r.pc + 2, cycles := c + 1 }
          else { r1 with pc := r.pc + 1, cycles := c + 1, rep := some n })
      | .next =>
        match r.rep with
        | some (k + 1) =>
          .go (if k = 0 then { r1 with pc := r.pc + 1, cycles := c + 1, rep := none }
            else { r1 with cycles := c + 1, rep := some k })
        | _ => .go { r1 with pc := r.pc + 1, cycles := c + 1 }

/-- A run: at most `fuel` bundles, and no bundle issues once `limit` cycles are used. 4: run beyond the limit. -/
def runCore (e : ItemEnv) (fetch load : Nat → Nat) (limit : Nat) : Nat → CoreR → Bundle
  | 0, r => .fault 4 r
  | k + 1, r =>
    if limit ≤ r.cycles then .fault 4 r
    else match bundle e fetch load r with
      | .go r' => runCore e fetch load limit k r'
      | .done r' => if limit < r'.cycles then .fault 4 r' else .done r'
      | .fault f r' => .fault f r'

end Sys2Proof.Machine
end

