-- ==== Sys2Proof/Machine/Signal.lean ====
section
/-! DEFINITION. Audio samples (R210, R212 to R214, R219, R221, R264): 24-bit sample arithmetic, ramps, the duck, the limiter,
bridge filters, levels, and what the nodes of a route graph do with one block. A sample is an integer; a block is the list
of its samples, first sample first. -/

namespace Sys2Proof.Machine

/-! Domains (Table 9.5). -/

/-- Samples per second, and per 1 ms block, of a domain. -/
def domHz (d : Nat) : Nat := match d with | 0 => 8000 | 1 => 16000 | _ => 48000
def domBlock (d : Nat) : Nat := domHz d / 1000

/-- A bridge's delay in samples of its higher rate, that rate, and its cost in 0.1 M cycles/s (Table 9.5). -/
def bridgeOf (a b : Nat) : Nat × Nat × Nat :=
  let hi := max a b
  let lo := min a b
  if hi = 2 && lo = 1 then (48, 48000, 16) else if hi = 2 then (72, 48000, 12) else (24, 16000, 4)

/-! Blocks. -/

def zeros (n : Nat) : List Int := List.replicate n 0
/-- The last n of a list, zeros before it where it is shorter. -/
def lastN (n : Nat) (l : List Int) : List Int := zeros (n - l.length) ++ l.drop (l.length - n)
/-- The first n of a list, zeros after it where it is shorter. -/
def firstN (n : Nat) (l : List Int) : List Int := l.take n ++ zeros (n - l.length)
/-- A function of a state and a sample, over a block. -/
def scan {σ : Type} (f : σ → Int → Int × σ) : σ → List Int → List Int × σ
  | t, [] => ([], t)
  | t, x :: xs => let r := f t x; let q := scan f r.2 xs; (r.1 :: q.1, q.2)

/-! Numbers (R212). -/

/-- A quotient: exact where it is, else one of the two integers beside it. -/
def quot (x : Int) (d : Nat) : Int := x / d + (if x % d = 0 then 0 else ((Config.roundsUp x d).toNat : Int))

/-- A value as a 24-bit sample; what becomes of one outside the range is a free value. -/
def fit24 (x : Int) : Int := if satInt 24 x = x then x else toInt 24 (Config.overflow24 x).toNat

/-- The 16-bit samples that bytes of G.711 stand for: µ-law (codec 4), A-law (5) (PRESUMED, log 209). -/
def g711 (codec : Nat) (b : Byte) : Int :=
  let v := if codec = 4 then 255 - b.toNat else (b ^^^ 0x55).toNat
  let e := v / 16 % 8
  let m := v % 16
  let neg : Bool := if codec = 4 then 128 ≤ v else v < 128
  let a : Nat := if codec = 4 then 4 * ((2 * m + 33) * 2 ^ e - 33)
    else 8 * (if e = 0 then 2 * m + 1 else (2 * m + 33) * 2 ^ (e - 1))
  if neg then -(a : Int) else a

/-- The length of a frame in ms: G.711 and G.722 hold 8 bytes a millisecond. -/
def frameMs (codec : Nat) (payload : Bytes) : Nat :=
  match codec with
  | 0 => (Config.opusMs payload).toNat + 1
  | 1 => 20
  | 2 => 20
  | _ => payload.length / 8

/-- A decoder in a state takes a frame: the 16-bit samples that it puts out, and its state after. Comfort noise is no G.711 code
word. -/
def decodeFrame (codec dom state : Nat) (cn : Bool) (payload : Bytes) : List Int × Nat :=
  (if 4 ≤ codec && !cn then payload.map (g711 codec)
    else (List.range (frameMs codec payload * domBlock dom)).map (fun i =>
      toInt 16 (Config.decodedSample codec dom state payload i).toNat),
   Config.decodedState codec dom state payload)

/-- A decoder in a state conceals one block (R203). -/
def concealBlock (codec dom state : Nat) : List Int × Nat :=
  ((List.range (domBlock dom)).map (fun i => toInt 16 (Config.concealedSample codec dom state i).toNat),
   Config.concealedState codec dom state)

/-- A decoded 16-bit sample as a 24-bit one, and a 24-bit sample rounded to 16 bits with saturation. -/
def up16 (x : Int) : Int := 256 * satInt 16 x
def round16 (x : Int) : Int :=
  satInt 16 (x / 256 + (if x % 256 < 128 then 0 else if x % 256 = 128 then ((Config.roundsUp x 256).toNat : Int) else 1))

/-- A sum in a 40-bit accumulator. -/
def sum40 (l : List Int) : Int := (wrap40 (l.foldl (· + ·) 0)).1

/-- A sample at p 64ths of full scale (R210, R235). -/
def rampTo (p : Nat) (x : Int) : Int := if 64 ≤ p then x else quot (x * p) 64

/-- A block whose ramp stands at p at its first sample, going up or down. -/
def rampBlock (p : Nat) (rising : Bool) (xs : List Int) : List Int :=
  xs.zipIdx.map (fun x => rampTo (if rising then p + x.2 else p - x.2) x.1)
/-- Where the ramp stands after n samples. -/
def rampAfter (p : Nat) (rising : Bool) (n : Nat) : Nat := if rising then min 64 (p + n) else p - n

def npow (b e : Nat) : Nat := b ^ e

/-- The largest whole number that is not above a magnitude with a gain in 0.01 dB: a factor of 10^(centi / 2,000). -/
def gainFloor (centi : Int) (a : Nat) : Nat :=
  (List.range 40).foldl (fun t i =>
    let u := t + 2 ^ (39 - i)
    if npow u 2000 * npow 10 (-centi).toNat ≤ npow a 2000 * npow 10 centi.toNat then u else t) 0

/-- Is that number the product itself? -/
def gainExact (centi : Int) (a t : Nat) : Bool := npow t 2000 * npow 10 (-centi).toNat == npow a 2000 * npow 10 centi.toNat

/-- A gain in 0.01 dB, rounded to one of the two whole numbers beside the product; that of an edge, where -32,768 mutes. -/
def gainOf (centi : Int) (x : Int) : Int :=
  if centi = 0 then x
  else
    let t := gainFloor centi x.natAbs
    let m := t + (!gainExact centi x.natAbs t && Config.gainsUp centi x.natAbs).toNat
    fit24 (if x < 0 then -(m : Int) else m)
def edgeGain (g : Nat) (x : Int) : Int := let v := toInt 16 g; if v = -32768 then 0 else gainOf v x

/-! The announcement's duck (R221): 3,277/32,768, released over 64 samples. As parts of 2^21. -/

def duckOf (on : Bool) (ended : Option Nat) (k n i : Nat) : Nat :=
  if on then 3277 * 64
  else match ended with
    | some b => let j := (k - b) * n + i; if b ≤ k && j < 64 then 3277 * 64 + 29491 * j else 2 ^ 21
    | none => 2 ^ 21
def ducked (d : Nat) (x : Int) : Int := if d = 2 ^ 21 then x else quot (x * d) (2 ^ 21)

/-! Levels: of full scale 2^23. -/

/-- The largest magnitude at or below a level in 0.01 dBFS (at most 0). -/
def dbLimit (centi : Int) : Nat :=
  (List.range 24).foldl (fun t i =>
    let u := t + 2 ^ (23 - i)
    if npow u 2000 * npow 10 (-centi).toNat ≤ npow (2 ^ 23) 2000 then u else t) 0

/-- The sum of squares of a block to the tenth power, and that of a block of n samples at d dBFS, scaled alike. -/
def powers (xs : List Int) (d : Int) : Nat × Nat :=
  let p := (xs.foldl (fun a x => a + x.natAbs * x.natAbs) 0) ^ 10
  let f := (max 1 xs.length * 2 ^ 46) ^ 10
  if 0 ≤ d then (p, f * 10 ^ d.toNat) else (p * 10 ^ (-d).toNat, f)
/-- Is the RMS level of a block at least, or above, d dBFS? -/
def atLeastDb (xs : List Int) (d : Int) : Bool := decide ((powers xs d).2 ≤ (powers xs d).1)
def aboveDb (xs : List Int) (d : Int) : Bool := decide ((powers xs d).2 < (powers xs d).1)

/-- The RMS level of a block in whole dBFS, rounded down; at least -127. -/
def levelOf (xs : List Int) : Int :=
  match (List.range 127).find? (fun (i : Nat) => atLeastDb xs (-(i : Int))) with | some i => -(i : Int) | none => -127

/-! The limiter (R212, type 0x09): instant attack; how the gain recovers within the release is free. -/

/-- One sample at threshold t: the gain falls at once to what the threshold needs, else it recovers. -/
def limitStep (t ms hz : Nat) (g : Nat) (x : Int) : Int × Nat :=
  let a := x.natAbs
  let need := if t < a then t * 65536 / a else 65536
  let r := if g < 65536 then min 65536 (g + (Config.release ms hz g).toNat) else g
  if need < r then (if x < 0 then -(t : Int) else t, need)
  else
    let y := if r = 65536 then x else quot (x * r) 65536
    (max (-(t : Int)) (min t y), r)

def limitBlock (t ms hz g : Nat) (xs : List Int) : List Int × Nat := scan (limitStep t ms hz) g xs

/-- The limiter's release at a mix output, in ms; its threshold is -1 dBFS. -/
abbrev mixRelease : Nat := 50

/-! Bridges (R213). -/

/-- The FIR of the bridge from domain a to b at one output; u is its input at the higher rate, newest first. -/
def firAt (a b : Nat) (u : Nat → Int) : Int :=
  let d := (bridgeOf a b).1
  fit24 (quot ((List.range (2 * d + 1)).foldl (fun t j =>
    t + toInt 24 (Config.bridgeTap a b (min j (2 * d - j))).toNat * u j) 0) (2 ^ 23))

/-- A block through a bridge: its output and the input samples to keep. -/
def bridgeBlock (a b : Nat) (hist xs : List Int) : List Int × List Int :=
  let d2 := 2 * (bridgeOf a b).1
  if b < a then
    let r := domBlock a / domBlock b
    let u := lastN d2 hist ++ xs
    ((List.range (domBlock b)).map (fun m => firAt a b (fun j => u.getD (d2 + r * m - j) 0)), lastN d2 u)
  else
    let r := domBlock b / domBlock a
    let u := lastN (d2 / r) hist ++ xs
    ((List.range (domBlock b)).map (fun n => firAt a b (fun j =>
      if (n + d2 - j) % r = 0 then u.getD ((n + d2 - j) / r) 0 else 0)), lastN (d2 / r) u)

/-! The announcement (R221, R345): 48 kHz mono samples packed R32, in a loop. -/

def annSample (b : Bytes) (i : Nat) : Int := toInt 24 (leAt b (4 * (i % (b.length / 4))) 3)

/-- A block of it in a domain, blocks after its first. -/
def annBlock (b : Bytes) (dom blocks : Nat) : List Int :=
  let n := domBlock dom
  if b = [] then zeros n
  else if n = 48 then (List.range 48).map (fun i => annSample b (48 * blocks + i))
  else (List.range n).map (fun m =>
    let i := 48 * blocks + (48 / n) * m
    firAt 2 dom (fun j => if j ≤ i then annSample b (i - j) else 0))

/-! A mix (R208, R210, R212, R221). -/

/-- The sum of contributions (ramp, rising, samples) in one block of n samples, ducked, with the announcement, limited: the
samples and the limiter's gain after. -/
def mixBlock (hz n : Nat) (contribs : List (Nat × Bool × List Int)) (duck : Nat → Nat) (ann : List Int) (gain : Nat) : List Int × Nat :=
  let cs := contribs.map (fun c => rampBlock c.1 c.2.1 (firstN n c.2.2))
  limitBlock (dbLimit (-100)) mixRelease hz gain ((List.range n).map (fun i =>
    (wrap40 (ducked (duck i) (sum40 (cs.map (fun c => c.getD i 0))) + ann.getD i 0)).1))

/-! Node types (Table 9.8). -/

/-- The fields of a CUSTOM node's P2. -/
def GNode.ins (n : GNode) : Nat := bitsOf n.p2 56 8
def GNode.outs (n : GNode) : Nat := bitsOf n.p2 48 8
def GNode.xWords (n : GNode) : Nat := bitsOf n.p2 32 16
def GNode.yWords (n : GNode) : Nat := bitsOf n.p2 16 16
def GNode.latency (n : GNode) : Nat := bitsOf n.p2 0 16

/-- Inputs and outputs a node has. -/
def GNode.inputs (n : GNode) : Nat :=
  match n.ty with
  | 0x01 => 0 | 0x02 => 0 | 0x03 => 0 | 0x06 => 16 | 0x0C => n.ins | _ => 1
def GNode.outputs (n : GNode) : Nat :=
  match n.ty with
  | 0x04 => 0 | 0x0A => 0 | 0x0B => 0 | 0x0C => n.outs | _ => 1
def GNode.isSink (n : GNode) : Bool := n.ty == 0x04 || n.ty == 0x0A || n.ty == 0x0B
/-- The domain of a node's inputs: a bridge's is its source domain. -/
def GNode.inDom (n : GNode) : Nat := if n.ty = 0x0D then n.p0 else n.dom

/-- A custom node's own code: from its first bundle to the next custom node's, or the end. -/
def customCode (ns : List GNode) (code : List Nat) (n : GNode) : List Nat :=
  let ends := (ns.filter (fun m => m.ty == 0x0C && n.p0 < m.p0)).map (·.p0)
  slice0 code n.p0 ((ends.foldl min code.length) - n.p0)
where slice0 (l : List Nat) (o n : Nat) : List Nat := (l.drop o).take n

/-! Custom nodes (R264, Table 11.10). -/

/-- Words of a memory, as a table. -/
def wordsTbl (l : List Nat) : Tbl Nat := (l.zipIdx.filter (fun p => p.1 != 0)).map (fun p => (p.2, p.1))

/-- A custom node's run of block k on the code that stands in the custom region, and how it ends. -/
def customRun (own : List Nat) (n : GNode) (k : Nat) (st : NodeX) (ins : List (List Int)) : Bundle :=
  let w := domBlock n.dom
  let i0 := n.ins * w
  let o0 := n.outs * w
  let env : ItemEnv :=
    { base := 0, codeLo := 6144, codeHi := 6144 + own.length - 1, xlim := i0 + n.xWords, ylim := o0 + n.yWords, wins := [] }
  let entry : CoreR :=
    { d := [w, k % 2 ^ 32] ++ List.replicate 14 0
      x := [0, 0, 0, 0, i0, 0, 0, 0]
      y := [0, 0, 0, 0, o0, 0, 0, 0]
      pc := 6144
      xm := wordsTbl (((List.range n.ins).map (fun j => (firstN w (ins.getD j [])).map (ofInt 32))).flatten ++ st.xm)
      ym := wordsTbl (List.replicate o0 0 ++ st.ym) }
  runCore env (fun a => own.getD (a - 6144) 0) (fun _ => 0) (2 * n.p1) (2 * n.p1 + 1) entry

/-- What a custom node's run that reached done leaves: its outputs, clamped to the 24-bit range, and its state. -/
def customOut (n : GNode) (r : CoreR) : List (List Int) :=
  (List.range n.outs).map (fun j => (List.range (domBlock n.dom)).map (fun i =>
    satInt 24 (toInt 32 (Tbl.get 0 r.ym (j * domBlock n.dom + i)))))
def customKeep (n : GNode) (st : NodeX) (r : CoreR) : NodeX :=
  { st with
    xm := (List.range n.xWords).map (fun i => Tbl.get 0 r.xm (n.ins * domBlock n.dom + i))
    ym := (List.range n.yWords).map (fun i => Tbl.get 0 r.ym (n.outs * domBlock n.dom + i)) }

/-! A node in a block (R214). -/

/-- What a block brings to a graph: its number, decoded sources for a wanted domain with the domain their codec decodes in,
port inputs by port and slot, conference sums, the duck by domain and sample, and the announcement by domain. -/
structure BlockEnv where
  k : Nat
  src : Nat → Nat → Nat × List Int
  port : Nat → Nat → List Int
  conf : Nat → List Int
  duck : Nat → Nat → Nat
  ann : Nat → List Int

/-- A sink's block: its ramp after a program switch, then the announcement's stage. -/
def sinkBlock (e : BlockEnv) (dom up : Nat) (xs : List Int) : List Int :=
  let ys := rampBlock up true xs
  ys.zipIdx.map (fun x => fit24 (ducked (e.duck dom x.2) x.1 + (e.ann dom).getD x.2 0))

/-- BIQUAD: hist holds the last two inputs, past the last two outputs, oldest first. -/
def biquadBlock (n : GNode) (st : NodeX) (xs : List Int) : List Int × NodeX :=
  let r := scan (fun (t : List Int × List Int) x =>
    let y := fit24 (Config.biquad n.dom n.p0 n.p1 n.p2 x (t.1.getD 1 0) (t.1.getD 0 0) (t.2.getD 1 0) (t.2.getD 0 0))
    (y, ([t.1.getD 1 0, x], [t.2.getD 1 0, y]))) (st.hist, st.past) xs
  (r.1, { st with hist := r.2.1, past := r.2.2 })

/-- A node's outputs for a block, its state after, and the run of a custom node. -/
def GNode.run (e : BlockEnv) (own : List Nat) (n : GNode) (st : NodeX) (ins : List (List Int)) :
    List (List Int) × NodeX × Option Bundle :=
  let w := domBlock n.dom
  let x := firstN (domBlock n.inDom) (ins.getD 0 [])
  match n.ty with
  | 0x01 =>
    let d := e.src n.p1 n.dom
    if d.1 = n.dom then ([firstN w d.2], st, none)
    else let r := bridgeBlock d.1 n.dom st.hist (firstN (domBlock d.1) d.2); ([r.1], { st with hist := r.2 }, none)
  | 0x02 => ([firstN w (e.port n.p0 n.p1)], st, none)
  | 0x03 => ([firstN w (e.conf n.p1)], st, none)
  | 0x05 => ([x.map (gainOf (toInt 32 n.p1))], st, none)
  | 0x06 => ([(List.range w).map (fun i => fit24 (sum40 (ins.map (fun c => c.getD i 0))))], st, none)
  | 0x07 => let r := biquadBlock n st x; ([r.1], r.2, none)
  | 0x08 => let l := lastN n.p1 st.hist ++ x; ([l.take w], { st with hist := l.drop w }, none)
  | 0x09 => let r := limitBlock (dbLimit (toInt 32 n.p1)) n.p0 (domHz n.dom) st.gain x; ([r.1], { st with gain := r.2 }, none)
  | 0x0C =>
    match customRun own n e.k st ins with
    | .done r => (customOut n r, customKeep n st r, some (.done r))
    | b => (List.replicate n.outs (zeros w), st, some b)
  | 0x0D => let r := bridgeBlock n.p0 n.dom st.hist x; ([r.1], { st with hist := r.2 }, none)
  | _ =>
    let o := sinkBlock e n.dom st.up x
    ([], { st with up := rampAfter st.up true w, out := if n.ty = 0x0B then st.out ++ o.map round16 else o }, none)

/-! A program in a block (R215, R217). -/

/-- What drives input j of node i. -/
def Prog.input (p : Prog) (vals : Tbl (List Int)) (i j : Nat) : List Int :=
  match p.edges.find? (fun e => e.dst == i && e.dstIn == j) with
  | some e => (Tbl.get [] vals (4 * e.src + e.srcOut)).map (edgeGain e.gain)
  | none => []

/-- Every node once, in the program's order: the nodes' outputs (4 * node + output), their states after, and the runs of
custom nodes. -/
def Prog.pass (p : Prog) (e : BlockEnv) (old : Tbl NodeX) (vals : Tbl (List Int)) :
    Tbl (List Int) × Tbl NodeX × List (Nat × Bundle) :=
  p.order.foldl (fun r i => match p.nodes[i]? with
    | none => r
    | some n =>
      let q := n.run e (customCode p.nodes p.code n) (Tbl.get {} old i) ((List.range n.inputs).map (p.input r.1 i))
      (q.1.zipIdx.foldl (fun v o => Tbl.set [] v (4 * i + o.2) o.1) r.1, Tbl.set {} r.2.1 i q.2.1,
        r.2.2 ++ (match q.2.2 with | some b => [(i, b)] | none => []))) (vals, [], [])

/-- The block of a program. Where a DELAY closes a loop, each pass settles at least one more sample of the loop, since the
DELAY is one sample or more; 48 passes settle the block. -/
def Prog.block (p : Prog) (e : BlockEnv) (old : Tbl NodeX) : Tbl (List Int) × Tbl NodeX × List (Nat × Bundle) :=
  let settle : Nat → Tbl (List Int) := fun n => (List.range n).foldl (fun v _ => (p.pass e old v).1) []
  p.pass e old (settle (if p.loops then 48 else 0))

/-- The state of a program's nodes as it takes over: that of the kept nodes, zero for the others, and ramps at sinks whose
source changes where the program asks for them. -/
def Prog.takeOver (p : Prog) (before : Option Prog) (kept : List Nat) (old : Tbl NodeX) : Tbl NodeX :=
  let feed (q : Prog) (i : Nat) : List (Option GNode × GEdge) :=
    (q.edges.filter (fun e => e.dst == i)).map (fun e => (q.nodes[e.src]?, e))
  (List.range p.nodes.length).foldl (fun t i => match p.nodes[i]? with
    | none => t
    | some n =>
      let st : NodeX := if kept.contains i then Tbl.get {} old i else {}
      let same := kept.contains i && (match before with | some q => feed q i == feed p i | none => false)
      Tbl.set {} t i (if n.isSink && p.ramp && !same then { st with up := 0 } else st)) []

end Sys2Proof.Machine
end

