-- ==== Sys2Proof/Machine/Sched.lean ====
section
/-! DEFINITION. The hardware task scheduler (R272 to R287) and the end of work items on a core (R262, R266 to R268). -/

namespace Sys2Proof.Machine

/-! The descriptor (Table 12.1). -/

def prioOf (d : Bytes) : Nat := byteAt d 1 % 8
def missingOk (d : Bytes) : Bool := bitOf (byteAt d 1) 3
def isCustom (d : Bytes) : Bool := bitOf (byteAt d 1) 4
def affinityOf (d : Bytes) : Nat := byteAt d 2
def ndepOf (d : Bytes) : Nat := byteAt d 3
def tagOf (d : Bytes) : Nat := leAt d 4 4
def budgetOf (d : Bytes) : Nat := leAt d 8 4
def kernelOf (d : Bytes) : Nat := leAt d 22 2
def codeImgOf (d : Bytes) : Nat := leAt d 24 4
def depOf (d : Bytes) (j : Nat) : Nat := leAt d (32 + 4 * j) 4
/-- The handles used. -/
def depsOf (d : Bytes) : List Nat := (List.range (ndepOf d)).map (depOf d)
/-- Window w: HBM byte address and words. -/
def winOf (d : Bytes) (w : Nat) : Nat × Nat := (64 * leAt d (56 + 8 * w) 4, leAt d (60 + 8 * w) 4)
/-- Staging s, as its 64 bits. -/
def stageOf (d : Bytes) (k : Nat) : Nat := leAt d (136 + 8 * k) 8

/-- One staging copy: to state-out, Y rather than X, core word, window, window offset, words. -/
structure Stage where
  out : Bool
  toY : Bool
  at_ : Nat
  win : Nat
  off : Nat
  words : Nat
  deriving DecidableEq, Repr

def stageFields (v : Nat) : Stage := ⟨bitOf v 63, bitOf v 62, bitsOf v 48 14, bitsOf v 44 4, bitsOf v 26 17 + bitsOf v 43 1 * 131072, bitsOf v 12 14⟩

/-- The staging copies in use. -/
def stagesOf (d : Bytes) : List Stage := ((List.range 4).map (fun k => stageFields (stageOf d k))).filter (fun t => t.words != 0)

/-- May a window be read, or written, by its item? -/
def winReadable (w : Nat) : Bool := w < 4 || w == 8
def winWritable (w : Nat) : Bool := (4 ≤ w && w < 8) || w == 9

/-- The used windows of a kind, as HBM byte ranges. -/
def ranges (d : Bytes) (p : Nat → Bool) : List (Nat × Nat) :=
  ((List.range 10).filter (fun w => p w && (winOf d w).2 != 0)).map (fun w => ((winOf d w).1, (winOf d w).1 + 4 * (winOf d w).2))

def overlap (a b : Nat × Nat) : Bool := a.1 < b.2 && b.1 < a.2
def anyOverlap (as bs : List (Nat × Nat)) : Bool := as.any (fun a => bs.any (fun b => overlap a b))

/-! Accessors. -/

def State.coreX (s : State) (n : Nat) : CoreX := Tbl.get {} s.sch.cores n
def State.coreUpd (s : State) (n : Nat) (f : CoreX → CoreX) : State :=
  { s with sch := { s.sch with cores := Tbl.upd {} s.sch.cores n f } }
def State.cluX (s : State) (c : Nat) : CluX := Tbl.get {} s.sch.clus c
def State.cluUpd (s : State) (c : Nat) (f : CluX → CluX) : State :=
  { s with sch := { s.sch with clus := Tbl.upd {} s.sch.clus c f } }
def State.item? (s : State) (ssn : Nat) : Option ItemX := s.sch.items.find? (fun i => i.ssn == ssn)
def State.itemUpd (s : State) (ssn : Nat) (f : ItemX → ItemX) : State :=
  { s with sch := { s.sch with items := s.sch.items.map (fun i => if i.ssn = ssn then f i else i) } }
/-- The item running on a core. -/
def State.onCore (s : State) (n : Nat) : Option ItemX := s.sch.items.find? (fun i => i.phase == 2 && i.core == n)
def State.coreFree (s : State) (n : Nat) : Bool := s.rd Core.STATE n == 0 && (s.onCore n).isNone

/-- READY of a priority. -/
def State.readyCount (s : State) (p : Nat) : Nat := (s.sch.items.filter (fun i => i.phase == 1 && prioOf i.desc == p)).length

/-! The trace (R285, R286). -/

/-- Records the ring holds. -/
def State.trcCap (s : State) : Nat := s.rd Trc.RING_MIB 0 * mib / 32

/-- One record into the ring. -/
def State.trcPut (s : State) (kind flags ssn core cause kernel tag arg : Nat) : State :=
  let n := s.rd Trc.WR_INDEX 0
  let r := natLE 10 s.now80 ++ natLE 1 kind ++ natLE 1 flags ++ natLE 4 ssn ++ natLE 1 core ++ natLE 1 cause ++
    natLE 2 kernel ++ natLE 4 tag ++ natLE 4 arg ++ natLE 4 n
  (s.hbmWrite 15 (traceRingAt + n % s.trcCap * 32) r).bump Trc.WR_INDEX 0

/-- A scheduling decision is recorded where its KIND is enabled; in MODE 1 a full ring loses it, and the first record
after a loss is a LOST record, itself a KIND of FILTER. -/
def State.trace (s : State) (kind flags ssn core cause kernel tag arg : Nat) : State :=
  if !s.on Trc.ENABLE 0 || !bitOf (s.rd Trc.FILTER 0) kind || !s.hbmUp then s
  else
    let full (s : State) : Bool := s.rd Trc.MODE 0 == 1 && s.rd Trc.RD_INDEX 0 + s.trcCap ≤ s.rd Trc.WR_INDEX 0
    let lose (s : State) : State :=
      ({ s with sch := { s.sch with trcLost := s.sch.trcLost + 1 } } : State).bump Trc.LOST 0
    if full s then lose s
    else
      let lost := s.sch.trcLost
      let s := if lost = 0 then s
        else
          let s := if bitOf (s.rd Trc.FILTER 0) 9 then s.trcPut 9 0 0 0xFF 0 0 0 (lost % 2 ^ 32) else s
          { s with sch := { s.sch with trcLost := 0 } }
      if full s then lose s else s.trcPut kind flags ssn core cause kernel tag arg

/-- A decision on an item. -/
def State.traceItem (s : State) (i : ItemX) (kind core cause arg : Nat) : State :=
  s.trace kind (prioOf i.desc + (if i.missing ≠ 0 then 8 else 0)) i.ssn core cause (kernelOf i.desc) (tagOf i.desc) arg

/-! Leaving the scheduler. -/

/-- Words of shared memory that an item's images and header take. -/
def itemWords (d : Bytes) : Nat := 1 + sumOf ((List.range 10).map (fun w => (winOf d w).2))

/-- Where a descriptor's images go in its cluster: the word address of the header. -/
def itemBase (d : Bytes) : Nat := Config.itemBase d % (262144 - itemWords d + 1)

/-- A running item gives back its core and its buffers: they are its while it runs. -/
def State.unplace (s : State) (i : ItemX) : State :=
  if i.phase ≠ 2 then s
  else s.cluUpd (i.core / 16) (fun x => { x with workAt := s.phys })

/-- An item leaves: its outcome is kept for the last 2^20 SSNs. -/
def State.leave (s : State) (i : ItemX) (outcome : Nat) : State :=
  let s := s.unplace i
  let old := (i.ssn + 2 ^ 30 - 2 ^ 20) % 2 ^ 30
  let s := { s with sch := { s.sch with
    items := s.sch.items.filter (fun j => j.ssn != i.ssn)
    outcome := Tbl.set 0 (Tbl.set 0 s.sch.outcome old 0) i.ssn outcome } }
  s.drop Sch.IN_FLIGHT 0 1

/-- An item is abandoned: 1 fault, 2 no core, 3 missing. -/
def State.abandonItem (s : State) (i : ItemX) (cause : Nat) : State :=
  let s := ((s.leave i 2).bump Sch.ABANDONED 0).traceItem i 6 0xFF cause 0
  let due := match s.sch.abandonAt with | some c => decide (cycS ≤ s.since c) | none => true
  if due then
    ({ s with sch := { s.sch with abandonAt := some s.phys } } : State).raise Ev.SCHED_ABANDON 0 toPlatform (cause + 2 ^ 32 * i.ssn)
  else s

/-- One dependence resolved for an item (R275, R276). -/
def ItemX.drop (i : ItemX) (handle : Nat) (missing : Bool) : ItemX :=
  if !i.wait.contains handle then i
  else
    let bits := sumOf ((List.range (ndepOf i.desc)).map (fun j => if depOf i.desc j = handle then 2 ^ j else 0))
    { i with wait := i.wait.filter (· != handle), missing := if missing then i.missing + bits else i.missing }

/-- A waiting item whose counter is 0 becomes ready. -/
def State.makeReady (s : State) (ssn : Nat) : State :=
  match s.item? ssn with
  | some i =>
    if i.phase = 0 && i.wait = [] then
      let s := s.itemUpd ssn (fun j => { j with phase := 1 })
      s.traceItem i 2 0xFF 0 0
    else s
  | none => s

/-- Resolve handles in turn; what is abandoned resolves its own dependants. -/
def State.resolve : Nat → List (Nat × Bool) → State → State
  | 0, _, s => s
  | _ + 1, [], s => s
  | k + 1, (h, miss) :: rest, s =>
    let s : State := { s with sch := { s.sch with items := s.sch.items.map (fun i => i.drop h miss) } }
    let doomed := s.sch.items.filter (fun i => i.phase == 0 && i.missing != 0 && !missingOk i.desc)
    let s := doomed.foldl (fun s i => s.abandonItem i 3) s
    let s := ((s.sch.items.filter (fun i => i.phase == 0 && i.wait == [])).map (·.ssn)).foldl (fun s n => s.makeReady n) s
    s.resolve k (rest ++ doomed.map (fun i => (i.ssn, true)))

/-- Resolve everything that follows from a list of handles: each item is abandoned at most once. -/
def State.resolveAll (s : State) (l : List (Nat × Bool)) : State := s.resolve (l.length + s.sch.items.length + 1) l

/-- The item is abandoned and its dependants resolved. -/
def State.abandonNow (s : State) (i : ItemX) (cause : Nat) : State := (s.abandonItem i cause).resolveAll [(i.ssn, true)]

/-! Tick completions (R76, R274, R276). -/

/-- How far tick h lies back of tick n, modulo 2^25. -/
def ticksBack (n h : Nat) : Nat := (n + 2 ^ 25 - h % 2 ^ 25) % 2 ^ 25

/-- Is a tick handle of a stream satisfied by posted tick n? -/
def tickMet (stream n h : Nat) : Bool := bitsOf h 30 2 == 1 && bitsOf h 25 5 == stream && ticksBack n h < 2 ^ 24

/-- Was tick h posted as one of the `sk` passed over before tick n? -/
def tickSkipped (n sk h : Nat) : Bool := 1 ≤ ticksBack n h && ticksBack n h ≤ sk

/-- Tick n of a stream is posted; `sk` ticks before it were passed over by a forward step, of which the comparison's window
sees 2^24 - 1. -/
def State.postTick (s : State) (stream n sk : Nat) : State :=
  let n := n % 2 ^ 25
  let sk := min sk (2 ^ 24 - 1)
  let s : State := { s with sch := { s.sch with
    ticks := Tbl.set 0 s.sch.ticks stream (n + 1)
    skips := Tbl.upd [] s.sch.skips stream (fun (l : List (Nat × Nat)) =>
      (if sk = 0 then [] else [(n, sk)]) ++ l.filter (fun p => ticksBack n p.1 < 2 ^ 24)) } }
  let s := s.trace 8 0 0 0xFF 0 0 0 (2 ^ 30 + stream * 2 ^ 25 + n)
  let hs := distinct ((s.sch.items.map (fun i => i.wait.filter (tickMet stream n))).flatten)
  s.resolveAll (hs.map (fun h => (h, tickSkipped n sk h)))

/-! Submission (R272 to R274, R277). -/

/-- Is a tick stream active? -/
def State.streamOn (s : State) (k : Nat) : Bool :=
  if k = 0 then s.tim.block.active
  else if k ≤ 16 then (Tbl.get {} s.tim.frame (k - 1)).active
  else if k ≤ 18 then (Tbl.get {} s.tim.slot (k - 17)).active
  else false

/-- How far back an SSN lies of the next one. -/
def State.ssnBack (s : State) (h : Nat) : Nat := (s.rd Sch.NEXT_SSN 0 + 2 ^ 30 - h % 2 ^ 30) % 2 ^ 30

/-- Is a handle of a new descriptor already satisfied, and missing: an abandoned item, or a tick posted as SKIPPED? -/
def State.handleMet (s : State) (h : Nat) : Bool × Bool :=
  if bitsOf h 30 2 = 1 then
    let t := Tbl.get 0 s.sch.ticks (bitsOf h 25 5)
    (t != 0 && tickMet (bitsOf h 25 5) (t - 1) h,
      (Tbl.get [] s.sch.skips (bitsOf h 25 5)).any (fun p => tickSkipped p.1 p.2 h))
  else ((s.item? h).isNone, Tbl.get 0 s.sch.outcome h == 2)

/-- The first check of R273 that a descriptor fails. A copy to state-out that names another window lies outside its window:
check 7 (DESIGN CHOICE, log 186). -/
def State.rejects (s : State) (d : Bytes) : Option Nat :=
  let reserved := byteAt d 0 != 1 || byteAt d 1 / 32 != 0 || d.length != 192 ||
    leAt d 12 2 / 8192 != 0 || leAt d 14 2 / 8192 != 0 || leAt d 16 2 / 8192 != 0 || 16384 < leAt d 18 2 ||
    16384 < leAt d 20 2 || leAt d 28 4 != 0 || !allZero (slice d 168 24) ||
    (List.range 4).any (fun k => bitsOf (stageOf d k) 0 12 != 0) ||
    (List.range 10).any (fun w => 65536 < (winOf d w).2) ||
    (List.range 6).any (fun j => ndepOf d ≤ j && depOf d j != 0)
  let clusters := (List.range 8).filter (fun c => bitOf (affinityOf d) c)
  let deps := depsOf d
  let itemDeps := deps.filter (fun h => bitsOf h 30 2 == 0)
  let tickDeps := deps.filter (fun h => bitsOf h 30 2 == 1)
  let stageBad (t : Stage) : Bool := 9 < t.win || (winOf d t.win).2 < t.off + t.words ||
    (if t.toY then leAt d 20 2 else leAt d 18 2) < t.at_ + t.words || (t.out && t.win != 9)
  let wr := ranges d winWritable
  let rdR := ranges d winReadable
  let clash (i : ItemX) : Bool := anyOverlap wr (ranges i.desc winWritable) || anyOverlap wr (ranges i.desc winReadable) ||
    (!itemDeps.contains i.ssn && anyOverlap rdR (ranges i.desc winWritable))
  if reserved then some 1
  else if clusters.all (fun c => s.rd Clu.IN_SERVICE c == 0) then some 2
  else if 6 < ndepOf d || deps.any (fun h => 2 ≤ bitsOf h 30 2) then some 3
  else if itemDeps.any (fun h => s.ssnBack h = 0 || 2 ^ 20 ≤ s.ssnBack h || s.sch.given < s.ssnBack h) then some 4
  else if tickDeps.any (fun h => !s.streamOn (bitsOf h 25 5)) then some 5
  else if budgetOf d = 0 || leAt d 12 2 < leAt d 14 2 || leAt d 16 2 < leAt d 12 2 then some 6
  else if (stagesOf d).any stageBad then some 7
  else if anyOverlap wr rdR || s.sch.items.any clash then some 8
  else none

/-- A descriptor is taken, with what its submission names: rejected, or given its SSN. -/
def State.accept (s : State) (j : ItemX) : State :=
  let d := j.desc
  match s.rejects d with
  | some k => ((s.bump Sch.REJECTED 0).trace 7 (prioOf d) 0 0xFF k (kernelOf d) (tagOf d) 0).raise Ev.SCHED_REJECT 0 toPlatform k
  | none =>
    let ssn := s.rd Sch.NEXT_SSN 0
    let hs := distinct (depsOf d)
    let open_ := hs.filter (fun h => !(s.handleMet h).1)
    let missing := sumOf ((List.range (ndepOf d)).map (fun j =>
      if (s.handleMet (depOf d j)).1 && (s.handleMet (depOf d j)).2 then 2 ^ j else 0))
    let i : ItemX := { j with ssn := ssn, wait := open_, missing := missing }
    let s := { s with sch := { s.sch with items := s.sch.items ++ [i], given := s.sch.given + 1 } }
    let s := ((s.wr Sch.NEXT_SSN 0 ((ssn + 1) % 2 ^ 30)).bump Sch.SUBMITTED 0).bump Sch.IN_FLIGHT 0
    let s := s.wr Sch.PEAK 0 (max (s.rd Sch.PEAK 0) (s.rd Sch.IN_FLIGHT 0))
    let s := s.traceItem i 1 0xFF 0 open_.length
    if missing ≠ 0 && !missingOk d then s.abandonNow i 3 else s.makeReady ssn

/-- Descriptors held back are taken as items leave. -/
def State.pump : Nat → State → State
  | 0, s => s
  | k + 1, s =>
    match s.sch.held with
    | [] => s
    | d :: rest =>
      if 131072 ≤ s.rd Sch.IN_FLIGHT 0 then s
      else State.pump k (({ s with sch := { s.sch with held := rest } } : State).accept d)

/-- Take every descriptor held back that there is room for. -/
def State.pumpAll (s : State) : State := State.pump s.sch.held.length s

/-- What firmware submits beside the descriptor: a custom node's graph and number, the packets of the store that input windows
name, and the bytes of the store for outputs that become packets (R264, R280). -/
def newItem (d : Bytes) (graph node : Nat) (pkts : List Nat) (egress : Nat) : ItemX :=
  { ssn := 0, desc := d, wait := [], graph := graph, node := node, pkts := pkts, egress := egress }

/-- SUBMIT: a descriptor enters the submission queue, from which descriptors are taken while fewer than 131,072 items are in
flight. -/
def submit (i : ItemX) (s : State) : State :=
  ({ s with sch := { s.sch with held := s.sch.held ++ [i] } } : State).pumpAll

/-! Dispatch (R279, R280). -/

/-- The rank of a cluster's power state: running, clock-gated, power-gated. -/
def State.powerRank (s : State) (c : Nat) : Nat := 2 - min 2 (s.rd Clu.POWER c)

/-- choose_core: the first candidate by cluster power, resident image, and number. -/
def State.chooseCore (s : State) (i : ItemX) (used : List Nat) : Option Nat :=
  let rank (n : Nat) : Nat :=
    (s.powerRank (n / 16) * 2 + (if codeImgOf i.desc = 0 || (s.coreX n).resident = codeImgOf i.desc then 0 else 1)) * 128 + n
  (((List.range 128).filter (fun n => bitOf (affinityOf i.desc) (n / 16) && s.coreFree n && !i.excluded.contains n)).foldl
    (fun (b : Option Nat) n => match b with
      | none => some n
      | some m => if rank n < rank m then some n else some m) none).bind
    (fun n => if used.contains (n / 16) then none else some n)

/-- 32-bit words of bytes, little-endian. -/
def toWords : Nat → Bytes → List Nat
  | 0, _ => []
  | k + 1, bs => leNat (bs.take 4) :: toWords k (bs.drop 4)

/-- Where the windows' images lie, counted from the header: one after another from window 0. -/
def winPlaces (d : Bytes) : Nat → Nat → List (Nat × Nat)
  | 0, _ => []
  | k + 1, first =>
    let w := 10 - (k + 1)
    (first, (winOf d w).2) :: winPlaces d k (first + (winOf d w).2)

/-- What confines a descriptor's item. -/
def itemEnv (d : Bytes) : ItemEnv :=
  { base := itemBase d
    codeLo := leAt d 14 2
    codeHi := leAt d 16 2
    xlim := leAt d 18 2
    ylim := leAt d 20 2
    wins := winPlaces d 10 1 }

/-- The word address of window w's image. -/
def imageAt (d : Bytes) (w : Nat) : Nat := itemBase d + ((winPlaces d 10 1).getD w (0, 0)).1

/-- A shared word of a cluster. -/
def State.shmWord (s : State) (c a : Nat) : Nat := leNat (s.shmGet c (4 * a) 4)

/-- One staging copy into X or Y, out of the window's image. -/
def State.stageIn (s : State) (c : Nat) (d : Bytes) (t : Stage) (m : Tbl Nat) : Tbl Nat :=
  (List.range t.words).foldl (fun m k => Tbl.set 0 m (t.at_ + k) (s.shmWord c (imageAt d t.win + t.off + k))) m

/-- The node of a custom node's item. -/
def State.itemNode (s : State) (i : ItemX) : Option GNode :=
  if isCustom i.desc then
    match (Tbl.get {} s.aud.graphs i.graph).running with
    | some p => p.nodes[i.node]?
    | none => none
  else none

/-- The registers and memories at entry (Table 11.2, for a custom node Table 11.10). Words of X and Y that nothing staged read
0, so that an item's outputs depend on its inputs alone (R263). -/
def State.entry (s : State) (i : ItemX) (c : Nat) : CoreR :=
  let ins := (stagesOf i.desc).filter (fun t => !t.out)
  let r : CoreR :=
    { d := [itemBase i.desc, tagOf i.desc] ++ List.replicate 14 0
      pc := leAt i.desc 12 2
      xm := (ins.filter (fun t => !t.toY)).foldl (fun m t => s.stageIn c i.desc t m) []
      ym := (ins.filter (fun t => t.toY)).foldl (fun m t => s.stageIn c i.desc t m) [] }
  match s.itemNode i with
  | some n => { r with
      d := r.d.set 0 (domBlock n.dom)
      x := r.x.set 4 (n.ins * domBlock n.dom)
      y := r.y.set 4 (n.outs * domBlock n.dom) }
  | none => r

/-- The stage engine's copies into shared memory: the images of the readable windows, and the header with the MISSING mask. -/
def State.imageItem (s : State) (i : ItemX) (c : Nat) (rs : List Nat) : State :=
  (rs.foldl (fun s w => s.shmPut c (4 * imageAt i.desc w) (s.hbmGet (winOf i.desc w).1 (4 * (winOf i.desc w).2))) s).shmPut c
    (4 * itemBase i.desc) (natLE 4 i.missing)

/-- An item's code goes into the custom region where it is not resident: 2,048 bundles. -/
def State.loadCode (s : State) (img n : Nat) : State :=
  if img = 0 || (s.coreX n).resident = img then s
  else
    let (bs, s) := s.hbmRead (4 + n / 16) (64 * img) 16384
    s.coreUpd n (fun x => { x with
      resident := img, im := wordsTbl ((List.range 2048).map (fun k => leAt bs (8 * k) 8)) })

/-- An item takes a core: its cluster is woken, and the dispatch is recorded. -/
def State.seize (s : State) (i : ItemX) (n : Nat) : State :=
  let s := (s.demand (cluPart (n / 16))).cluUpd (n / 16) (fun x => { x with workAt := s.phys })
  let s := if i.missing ≠ 0 && i.excluded = [] then s.bump Sch.MISSING_RUNS 0 else s
  (s.itemUpd i.ssn (fun j => { j with phase := 2, core := n, at_ := s.phys })).traceItem i 3 n 0 0

/-- Place an item on a core: its windows are imaged, its code loaded, X, Y and the registers set. A poisoned window ends it. -/
def State.place (s : State) (i : ItemX) (n : Nat) : State :=
  let c := n / 16
  let d := i.desc
  let rs := (List.range 10).filter (fun w => winReadable w && (winOf d w).2 != 0)
  let bad := rs.any (fun w => s.poisonedAt (winOf d w).1 (4 * (winOf d w).2))
  let s := s.seize i n
  let s := rs.foldl (fun s w => (s.touch (4 + c) (winOf d w).1 (4 * (winOf d w).2)).meetPoison (winOf d w).1 (4 * (winOf d w).2)) s
  let s := (s.imageItem i c rs).loadCode (codeImgOf d) n
  let s := s.coreUpd n (fun x => { x with regs := s.entry i c })
  if bad then
    match s.item? i.ssn with
    | some j => s.abandonNow j 1
    | none => s
  else s

/-- Is the shared memory free that an item's buffers take in a cluster? -/
def State.bufsFree (s : State) (d : Bytes) (c : Nat) : Bool :=
  itemWords d ≤ 262144 && s.sch.items.all (fun j => j.phase != 2 || j.core / 16 != c ||
    !overlap (itemBase d, itemBase d + itemWords d) (itemBase j.desc, itemBase j.desc + itemWords j.desc))

/-- One place where an item may go: its core and its buffers, in a cluster not yet used in this cycle. -/
def State.tryPlace (st : State × List Nat) (i : ItemX) : State × List Nat :=
  let s := st.1
  if 8 ≤ st.2.length || (s.item? i.ssn).isNone then st
  else match s.chooseCore i st.2 with
    | none => st
    | some n => if s.bufsFree i.desc (n / 16) then (s.place i n, (n / 16) :: st.2) else st

/-- dispatch_cycle of R279. -/
def dispatchCycle (s : State) : State :=
  let ready := (List.range 8).map (fun p => s.sch.items.filter (fun i => i.phase == 1 && prioOf i.desc == p))
  (ready.flatten.foldl State.tryPlace (s, [])).1.pumpAll

/-- Packets of the store that running items' input windows name (R19, R280). -/
def State.itemPkts (s : State) : List Nat := (s.sch.items.filter (fun i => i.phase == 2)).flatMap (·.pkts)

/-- Bytes of the store held for the outputs of running items. -/
def State.egressHeld (s : State) : Nat := sumOf ((s.sch.items.filter (fun i => i.phase == 2)).map (·.egress))

/-! The run of an item (R262). -/

/-- The bundle at an address of a core's I memory: the device's firmware below 6,144, custom code above. Firmware is no
part of the spec: its bundles are free values. -/
def CoreX.fetch (x : CoreX) (a : Nat) : Nat :=
  if a < 6144 then (Config.freeWord 64 (2 ^ 64 + a)).toNat else Tbl.get 0 x.im (a - 6144)

/-- The run of a running item on its core, up to a number of cycles. -/
def State.runTo (s : State) (i : ItemX) (limit : Nat) : Bundle :=
  let x := s.coreX i.core
  runCore (itemEnv i.desc) x.fetch (s.shmWord (i.core / 16)) limit (limit + 1) x.regs

/-- Its whole run, with `stalls` cycles lost to banks and the write buffer: twice the budget at most. -/
def State.runItem (s : State) (i : ItemX) (stalls : Nat) : Bundle := s.runTo i (2 * budgetOf i.desc - stalls)

/-- Stores reach the cluster's shared memory, in issue order. -/
def State.drain (s : State) (c : Nat) (l : List (Nat × Nat)) : State :=
  l.foldl (fun s p => s.shmPut c (4 * p.1) (natLE 4 p.2)) s

/-- A core stops with registers r: its buffer is discarded, and the cycles spent count in BUSY. -/
def State.stopCore (s : State) (n : Nat) (r : CoreR) (cycles : Nat) : State :=
  ((s.drain (n / 16) r.drained).coreUpd n (fun x => { x with
    regs := { r with buf := [], drained := [], ready := [] } })).bump Core.BUSY n cycles

/-- Core cycles of 0.5 ns since an item's dispatch. -/
def State.itemAge (s : State) (i : ItemX) : Nat := s.since i.at_ * 5 / 4

/-- A running item's core stops before its run has ended. -/
def State.stopNow (s : State) (i : ItemX) : State := s.stopCore i.core (s.runTo i (s.itemAge i)).regs (s.itemAge i)

/-- What a run that reached done writes: its stores, through to HBM, and X and Y words staged to state-out. -/
def State.publish (s : State) (i : ItemX) (r : CoreR) : State :=
  let req := 4 + i.core / 16
  let s := (r.drained ++ r.buf).foldl (fun s p =>
    match (itemEnv i.desc).window p.1 with
    | some (w, o) => s.hbmWrite req ((winOf i.desc w).1 + 4 * o) (natLE 4 p.2)
    | none => s) (s.drain (i.core / 16) (r.drained ++ r.buf))
  ((stagesOf i.desc).filter (fun t => t.out)).foldl (fun s t =>
    s.hbmWrite req ((winOf i.desc 9).1 + 4 * t.off)
      ((List.range t.words).map (fun k => natLE 4 (Tbl.get 0 (if t.toY then r.ym else r.xm) (t.at_ + k)))).flatten) s

/-! Retirement of cores and clusters (R267, R268, R447, R448). -/

/-- One more error within 24 h. -/
def State.addDay (s : State) (l : List Nat) : List Nat := s.phys :: l.filter (fun c => s.since c < cycDay)

/-- UNIT_RETIRED (Table 20.3). -/
def State.unitRetired (s : State) (kind unit cause inService cap : Nat) : State :=
  s.raise Ev.UNIT_RETIRED unit toAll (kind + 2 ^ 8 * cause + 2 ^ 16 * inService + 2 ^ 32 * (cap % 2 ^ 32))

/-- A running item returns to the ready list (R283): 1 fault, 2 retired. Its core has stopped. -/
def State.redispatch (s : State) (i : ItemX) (cause : Nat) : State :=
  let n := i.core
  let s := s.unplace i
  let s := (s.itemUpd i.ssn (fun j => { j with phase := 1, core := 0xFF, doomed := false, excluded := n :: j.excluded })).bump
    Sch.REDISPATCHED 0
  let s := s.traceItem i 5 n cause 0
  match s.item? i.ssn with
  | none => s
  | some j =>
    if (List.range 128).any (fun k => bitOf (affinityOf j.desc) (k / 16) && s.rd Core.STATE k == 0 && !j.excluded.contains k)
    then s else s.abandonNow j 2

/-- A core is retired. The item it was running is re-dispatched as the cycle ends (State.settleCores): a completion of the same
cycle stands (R284). -/
def State.retireCore (s : State) (n cause : Nat) : State :=
  if s.rd Core.STATE n ≠ 0 then s
  else
    let c := n / 16
    let s := ((s.wr Core.STATE n 1).wr Core.CAUSE n cause).wr Core.RETIRED_AT n s.now80
    let s := s.drop Clu.IN_SERVICE c 1
    let s := s.coreUpd n (fun x => { x with regs := { x.regs with buf := [] } })
    let s := match s.onCore n with | some i => s.itemUpd i.ssn (fun j => { j with doomed := true }) | none => s
    -- an item whose clusters hold no core in service any more cannot run
    let stuck := s.sch.items.filter (fun j => j.phase != 2 && !(List.range 128).any (fun k =>
      bitOf (affinityOf j.desc) (k / 16) && s.rd Core.STATE k == 0 && !j.excluded.contains k))
    let s := stuck.foldl (fun s j => if (s.item? j.ssn).isSome then s.abandonNow j 2 else s) s
    s.unitRetired 1 n cause s.coresIn (s.cap .dsp)

/-- A cluster is retired with its cores; one already retired stays so. -/
def State.retireCluster (s : State) (c : Nat) (cause : Nat := 6) : State :=
  if s.rd Clu.IN_SERVICE c = 0 then s
  else
  let s := (List.range 16).foldl (fun s k => s.retireCore (16 * c + k) 6) s
  s.unitRetired 2 c cause ((List.range 8).filter (fun k => s.rd Clu.IN_SERVICE k != 0)).length (s.cap .dsp)

/-- A cluster without a core in service is power-gated (R268). -/
def State.gateClusters (s : State) : State :=
  (List.range 8).foldl (fun s c =>
    if s.rd Clu.IN_SERVICE c = 0 && s.part (cluPart c) ≠ 0 then s.setPart (cluPart c) 0 else s) s

/-- The cycle in which cores were retired ends: what they still ran is re-dispatched, and a cluster without a core in service
is power-gated. -/
def State.settleCores (s : State) : State :=
  let l := s.sch.items.filter (·.doomed)
  (if l = [] then s else (l.foldl (fun s i => (s.stopNow i).redispatch i 2) s).pumpAll).gateClusters

/-! The end of an item. -/

/-- An item is complete: ITEMS and BUSY of its core, the outcome, the trace, and what waits on it. -/
def State.complete (s : State) (i : ItemX) (r : CoreR) (used : Nat) : State :=
  let n := i.core
  let s := (s.stopCore n { r with drained := [] } used).bump Core.ITEMS n
  let s := ((s.bump Sch.COMMITTED 0).leave i 1).traceItem i 4 n 0 (used % 2 ^ 32)
  s.resolveAll [(i.ssn, false)]

/-- An overrun is counted against the core that ran the item first (Table 11.11). -/
def State.countOverrun (s : State) (n : Nat) : State :=
  let l := s.addDay (s.coreX n).overAt
  let s := (s.bump Core.OVERRUNS n).coreUpd n (fun x => { x with overAt := l })
  if 2 ≤ l.length then s.retireCore n 4 else s

/-- WORK_ITEM_COMMIT: the completion of the item on core n, whose run reached done. -/
def commitItem (n stalls : Nat) (s : State) : State :=
  match s.onCore n with
  | none => s
  | some i =>
    match s.runItem i stalls with
    | .done r =>
      let s := (s.publish i r).complete i r (r.cycles + stalls)
      let s := match i.overBy with | some m => s.countOverrun m | none => s
      s.pumpAll
    | _ => s

/-- R219 for a custom node: the item ends, its outputs of the block are zero, and the graph's owner hears of it. -/
def State.customFault (s : State) (i : ItemX) (fault : Nat) : State :=
  let outs := match s.itemNode i with | some n => n.outs * domBlock n.dom | none => 0
  let s := s.coreUpd i.core (fun x => { x with
    regs := { x.regs with ym := (List.range outs).foldl (fun m k => Tbl.set 0 m k 0) x.regs.ym } })
  let s := (s.bump Core.CUSTOM i.core).raise Ev.CUSTOM_FAULT i.graph (toSlot (s.rd Graph.OWNER i.graph)) (i.node + 256 * fault)
  s.abandonNow i 1

/-- DSP_FAULT. -/
def State.dspFault (s : State) (i : ItemX) (fault : Nat) : State :=
  s.raise Ev.DSP_FAULT i.core toPlatform (fault + 2 ^ 32 * i.ssn)

/-- A parity error that a running item meets (Table 11.11): 5 in I, 6 in X or Y, 7 in a word of the shared memory. -/
def State.parityFault (s : State) (i : ItemX) (fault word : Nat) : State :=
  let n := i.core
  let s := s.stopNow i
  if fault = 5 then
    let l := s.addDay (s.coreX n).iAt
    let s := (((s.bump Core.PAR_I n).coreUpd n (fun x => { x with iAt := l, resident := 0, im := [] })).dspFault i 5).redispatch i 1
    if 2 ≤ l.length then s.retireCore n 2 else s
  else if fault = 6 then
    let l := s.addDay (s.coreX n).xyAt
    let s := (((s.bump Core.PAR_XY n).coreUpd n (fun x => { x with xyAt := l })).dspFault i 6).redispatch i 1
    if 3 ≤ l.length then s.retireCore n 3 else s
  else
    let c := n / 16
    let l := s.addDay (s.cluX c).shmAt
    let s := ((s.bump Clu.SHM_PAR c).cluUpd c (fun x => { x with shmAt := l })).dspFault i 7
    let s := if i.shmErr.contains word then s.abandonNow i 1
      else (s.itemUpd i.ssn (fun j => { j with shmErr := word :: j.shmErr })).redispatch i 1
    if 3 ≤ l.length then s.retireCluster c else s

/-- A fault that a running item's own run meets (Table 11.11): 0 illegal bundle, 1 X or Y limit, 2 code range, 3 window, 4 run
beyond twice the budget. -/
def State.ownFault (s : State) (i : ItemX) (fault : Nat) : State :=
  let n := i.core
  if isCustom i.desc then s.customFault i fault
  else if fault = 4 then
    match i.overBy with
    | none => (s.itemUpd i.ssn (fun j => { j with overBy := some n })).redispatch i 1
    | some _ => (s.raise Ev.DSP_OVERRUN n toPlatform i.ssn).abandonNow i 1
  else
    let l := s.addDay (s.coreX n).faultAt
    let s := (((s.bump Core.FAULTS n).coreUpd n (fun x => { x with faultAt := l })).dspFault i fault).redispatch i 1
    if 2 ≤ l.length then s.retireCore n 5 else s

/-- WORK_ITEM_FAULT: an item-ending fault on core n (Table 11.11), coded as for DSP_FAULT. Faults 0 to 4 are those that the
item's own run meets; 5 to 7 are parity errors, 7 that of a shared word. -/
def itemFault (n fault stalls word : Nat) (s : State) : State :=
  match s.onCore n with
  | none => s
  | some i =>
    if 5 ≤ fault then (s.parityFault i fault word).pumpAll
    else match s.runItem i stalls with
      | .fault f r => if f = fault then ((s.stopCore n r (r.cycles + stalls)).ownFault i fault).pumpAll else s
      | _ => s

/-! A custom node's own work item (R264). -/

/-- The descriptor of the item that runs a custom node of a graph for block k; the node has no window. -/
def customDesc (g i k : Nat) (n : GNode) (len : Nat) : Bytes :=
  [1, 0x13, 0xFF, 0] ++ natLE 4 k ++ natLE 4 n.p1 ++ natLE 2 6144 ++ natLE 2 6144 ++ natLE 2 (6144 + len - 1) ++
    natLE 2 (n.ins * domBlock n.dom + n.xWords) ++ natLE 2 (n.outs * domBlock n.dom + n.yWords) ++ natLE 2 0 ++
    natLE 4 (Config.codeImage g i).toNat ++ List.replicate 164 0

/-- The core that a custom node's item runs on: that of choose_core; where none is free within the block, the one that becomes
free first, which is a free value. -/
def State.customCore (s : State) (i : ItemX) : Nat × State :=
  match s.chooseCore i [] with
  | some n => (n, s)
  | none =>
    let l := (List.range 128).filter (fun n => s.rd Core.STATE n == 0)
    let (v, s) := s.draw 7
    (l.getD (v % l.length) 0, s)

/-- The item of custom node i of graph g in block k, whose run is b: submitted, dispatched, and complete or faulted. -/
def State.customItem (s : State) (g i k : Nat) (n : GNode) (own : List Nat) (b : Bundle) : State :=
  let ssn := s.rd Sch.NEXT_SSN 0
  let s := s.accept (newItem (customDesc g i k n own.length) g i [] 0)
  match s.item? ssn with
  | none => s
  | some j =>
    let (c, s) := s.customCore j
    let s := (s.seize j c).coreUpd c (fun x => { x with resident := codeImgOf j.desc, im := wordsTbl own })
    match s.item? ssn, b with
    | some j, .done r => s.complete j r r.cycles
    | some j, .fault f r => (s.stopCore c r r.cycles).customFault j f
    | _, _ => s

/-- SLOT_TICK: the slot completion of an enabled Fret port. -/
def slotTick (f : Nat) (s : State) : State :=
  let k := Tbl.get {} s.tim.slot f
  if !k.due (s.fretGrid f) s.ns then s
  else
    let s := { s with tim := { s.tim with slot := Tbl.set {} s.tim.slot f k.post } }
    (s.postTick (17 + f) k.next k.skipped).pumpAll

/-! Writes of chapter 12. -/

/-- A write to a trace object (Table 12.7). -/
def traceWrite (col v : Nat) (s : State) : Except Status State :=
  if col = Trc.RING_MIB then
    if 2 ^ v.log2 ≠ v then .error .eRange else if s.on Trc.ENABLE 0 then .error .eState else .ok (s.wr col 0 v)
  else if col = Trc.FILTER then (if v % 2 = 1 || 1024 ≤ v then .error .eRange else .ok (s.wr col 0 v))
  else if col = Trc.RD_INDEX then (if s.rd Trc.WR_INDEX 0 < v then .error .eRange else .ok (s.wr col 0 v))
  else if col = Trc.ENABLE && v = 1 && !s.on Trc.ENABLE 0 then
    .ok ({ ((s.wr col 0 v).wr Trc.WR_INDEX 0 0).wr Trc.RD_INDEX 0 0 with sch := { s.sch with trcLost := 0 } })
  else .ok (s.wr col 0 v)

/-! The commands. -/

def execSubmit (descriptor : Bytes) (graph node : Nat) (pkts : List Nat) (egress : Nat) (s : State) : Out :=
  live (submit (newItem descriptor graph node pkts egress)) s

def execDispatchCycle (s : State) : Out := live dispatchCycle s

def execWorkItemCommit (core : Fin 128) (stalls : Nat) (s : State) : Out := live (commitItem core stalls) s

def execWorkItemFault (core : Fin 128) (fault : Fin 8) (stalls word : Nat) (s : State) : Out :=
  live (itemFault core fault stalls word) s

def execSlotTick (f : Fin 2) (s : State) : Out := live (slotTick f) s

end Sys2Proof.Machine
end

