-- ==== Sys2Proof/Machine/Audio.lean ====
section
/-! DEFINITION. Audio of conferences (chapter 9, R203 to R213, R220, R221; R149, R150): loudness and candidates, decoding,
talkers, modes and mixes, codec frames, silence, and HINT frames. -/

namespace Sys2Proof.Machine

/-! Levels (R205). -/

def State.aSrc (s : State) (src : Nat) : ASrcX := Tbl.get {} s.aud.srcs src
def State.aSrcUpd (s : State) (src : Nat) (f : ASrcX → ASrcX) : State :=
  { s with aud := { s.aud with srcs := Tbl.upd {} s.aud.srcs src f } }
def State.confX (s : State) (c : Nat) : ConfX := Tbl.get {} s.aud.confs c
def State.confUpd (s : State) (c : Nat) (f : ConfX → ConfX) : State :=
  { s with aud := { s.aud with confs := Tbl.upd {} s.aud.confs c f } }
def State.aLeg (s : State) (l : Nat) : ALegX := Tbl.get {} s.aud.legs l
def State.aLegUpd (s : State) (l : Nat) (f : ALegX → ALegX) : State :=
  { s with aud := { s.aud with legs := Tbl.upd {} s.aud.legs l f } }

/-- Loudness of an RFC 6464 byte: 127 less its level, or 0 without voice. -/
def loudnessOf (b : Nat) : Nat := if bitOf b 7 then 127 - b % 128 else 0

/-- JB_MS of the conference that a source's leg is in. -/
def State.jbMs (s : State) (src : Nat) : Nat :=
  let l := s.rd Src.LEG src
  if l = 0xFFFFFFFF || s.rd Leg.CONF l = 0xFFFF then 0 else s.rd Mix.JB_MS (s.rd Leg.CONF l)

/-- The block that plays a time-stamp of a source. -/
def State.playBlock (s : State) (src ts : Nat) : Int :=
  match (s.aSrc src).play with
  | some (t0, b0) => (b0 : Int) + toInt 32 (ts + 2 ^ 32 - t0) * 1000 / rtpRate (s.rd Src.CODEC src)
  | none => 0

/-- A packet of an audio source is committed: its level, and its place in the jitter buffer. The first packet, the first
after 200 ms without one, and one whose time-stamp leaves that line by more than 200 ms, plays JB_MS after the block it came
in; the others by their time-stamps from there (log 174). -/
def State.audioCommit (s : State) (src pkt ts : Nat) (level : Option Nat) : State :=
  let from_ := s.ns / 1000000 + s.jbMs src
  let fresh := match (s.aSrc src).at_ with
    | some c => decide (200 * cycMs ≤ s.since c) || decide (200 < (s.playBlock src ts - from_).natAbs)
    | none => true
  s.aSrcUpd src (fun x => { x with
    play := if fresh || x.play.isNone then some (ts, from_) else x.play
    at_ := some s.phys
    loud := match level with | some b => loudnessOf b | none => 0
    level := match level with | some b => b % 128 | none => 127
    byLevel := level.isSome
    jb := x.jb.filter (fun n => (s.pkt? n).isSome) ++ [pkt] })

/-- Packets in the jitter buffers: those committed less than JB_MS ago, and those whose block has not ended. -/
def State.jitterPkts (s : State) : List Nat :=
  (s.aud.srcs.map (fun r =>
    r.2.jb.filter (fun n => match s.pkt? n with
      | some p => decide (s.ns - p.atNs ≤ s.jbMs r.1 * 1000000) || decide ((s.tim.block.next : Int) ≤ s.playBlock r.1 p.ts + 1)
      | none => false))).flatten

/-- The packet whose frame a source's decoder takes in block k (R27), and the block that plays it: of those in the jitter
buffer that play after the frame taken last, the one that plays latest, not after k. -/
def State.jitterPick (s : State) (src k : Nat) (after : Option Int) : Option (PktX × Int) :=
  (s.aSrc src).jb.foldl (fun (b : Option (PktX × Int)) n => match s.pkt? n with
    | some p =>
      let t := s.playBlock src p.ts
      let late : Bool := (match after with | some a => decide (t ≤ a) | none => false) ||
        (match b with | some q => decide (t < q.2) | none => false)
      if (k : Int) < t || late then b else some (p, t)
    | none => b) none

/-- A source's loudness now. -/
def State.loudness (s : State) (src : Nat) : Nat :=
  let x := s.aSrc src
  match x.at_ with
  | none => 0
  | some c =>
    if 100 * cycMs ≤ s.since c then 0
    else if x.byLevel then x.loud
    else match x.dec with
      | some d => (max 0 (min 127 (127 + d))).toNat
      | none => 0

/-! Members and sources. -/

/-- The legs that take part in a conference's audio: members that are not CLOSING. -/
def State.audLegs (s : State) (c : Nat) : List Nat :=
  (s.members c).filter (fun l => s.rd Leg.STATE l == 1 || s.rd Leg.STATE l == 2)

/-- Is there audio work: a running graph, or a conference that is not SILENT with a candidate or a mix? -/
def State.audioWork (s : State) : Bool :=
  s.aud.graphs.any (fun r => r.2.running.isSome) ||
    (s.elemsWith Conf.STATE 1).any (fun c => !s.on Mix.SILENT c &&
      ((s.confX c).cand != [] || (s.audLegs c).any (fun l => s.rd LegMix.MODE l != 0)))

/-- Audio sources of a conference's legs that may be decoded, in ascending order. -/
def State.audSources (s : State) (c : Nat) : List Nat :=
  let ms := s.audLegs c
  (s.elemsWith Src.STATE 1).filter (fun x => s.rd Src.MEDIA x == 0 && s.rd Src.E2E x == 0 && ms.contains (s.rd Src.LEG x))

/-- Put a value into a list sorted by a rank, lowest rank first. -/
def insertBy (rank : Nat → List Int) (a : Nat) : List Nat → List Nat
  | [] => [a]
  | b :: bs => if lexLtI (rank a) (rank b) then a :: b :: bs else b :: insertBy rank a bs
where
  lexLtI : List Int → List Int → Bool
    | [], [] => false
    | [], _ => true
    | _, [] => false
    | a :: as, b :: bs => if a = b then lexLtI as bs else decide (a < b)

def sortBy (rank : Nat → List Int) (l : List Nat) : List Nat := l.foldl (fun r a => insertBy rank a r) []

/-- candidates of R205 at a tick. Talkers whose source has left the conference are talkers no more. -/
def State.candidates (s : State) (c : Nat) : State :=
  let srcs := s.audSources c
  let s := srcs.foldl (fun s x =>
    let l := s.loudness x
    s.aSrcUpd x (fun y => { y with energy := y.energy - y.energy / 8 + l })) s
  let talkers := (s.confX c).talkers.filter (fun x => srcs.contains x)
  let th := 8 * (127 - s.rd Mix.CAND_LEVEL c)
  let elig := srcs.filter (fun x => th ≤ (s.aSrc x).energy || talkers.contains x)
  let rank (x : Nat) : List Int := [if talkers.contains x then 0 else 1, -((s.aSrc x).energy : Int), x]
  let cand := (sortBy rank elig).take (s.rd Conf.CAND_MAX c)
  (s.confUpd c (fun x => { x with talkers := talkers, cand := cand })).wr Mix.CANDS c cand.length

/-! Decoding (R203, R207, R213). -/

/-- The domain in which a source's codec decodes for a wanted one: Opus and EVS decode into any (Table 9.1). -/
def State.codecDom (s : State) (src want : Nat) : Nat :=
  match s.rd Src.CODEC src with | 0 => want | 1 => want | 2 => 1 | 3 => 1 | _ => 0

/-- A source's decoder into a domain, and what it puts out in block k: nothing where it did not run in it. -/
def State.decX? (s : State) (src dom : Nat) : ADecX := Tbl.get {} s.aud.decs (4 * src + dom)
def State.decoded (s : State) (k src dom : Nat) : List Int :=
  let x := s.decX? src dom
  if x.at_ = some k then x.now else zeros (domBlock dom)

/-- A decoder puts out block k. It goes on where it ran within the last 200 ms, and else starts from reset state; a source
that returns later ramps in over 64 samples (R207). Of a frame that comes late, what should have played before is left out;
where no frame is left the block is concealed (R203). -/
def State.decodeStep (s : State) (k src dom : Nat) : State :=
  let n := domBlock dom
  let codec := s.rd Src.CODEC src
  let had := s.decX? src dom
  let again : Bool := match had.at_ with | some b => decide (b + 201 < k) | none => false
  let x := if again then { up := 0 } else had
  let x := match s.jitterPick src k x.from_ with
    | some (p, t) =>
      let r := decodeFrame codec dom x.st p.cn p.payload
      { x with st := r.2, from_ := some t, left := r.1.drop (((k : Int) - t).toNat * n) }
    | none => x
  let q := if x.left = [] then concealBlock codec dom x.st else (x.left, x.st)
  let x := { x with
    st := q.2
    left := x.left.drop n
    at_ := some k
    now := rampBlock x.up true ((firstN n q.1).map up16)
    up := rampAfter x.up true n }
  let s : State := { s with aud := { s.aud with decs := Tbl.set {} s.aud.decs (4 * src + dom) x } }
  if again then s.aSrcUpd src (fun y => { y with hist := [] }) else s

/-- A candidate's block in its conference's domain, through a bridge where its codec decodes in another. -/
def State.candSignal (s : State) (k c src : Nat) : List Int × List Int :=
  let want := s.rd Mix.MIX_RATE c
  let dom := s.codecDom src want
  let xs := s.decoded k src dom
  if dom = want then (xs, []) else bridgeBlock dom want (s.aSrc src).hist xs

/-! Talkers (R206). -/

/-- A candidate's score from its decoded level; none below TALK_FLOOR. -/
def State.score (s : State) (c src : Nat) (level : Int) : Option Nat :=
  if level < s.rdI Mix.TALK_FLOOR c then none
  else some ((s.aSrc src).energy + if (s.confX c).talkers.contains src then 8 * s.rd Mix.HYST_DB c else 0)

/-- The TALKERS object: 16 source IDs in rank order. -/
def talkersValue (l : List Nat) : Nat := leNat ((List.range 16).map (fun i => natLE 4 (l.getD i 0xFFFFFFFF))).flatten

/-- talkers of R206 in block k: the set in force from block k + 1. `levels` are the decoded levels of block k. -/
def State.chooseTalkers (s : State) (c k : Nat) (level : Nat → Int) : State :=
  let x := s.confX c
  let scored := x.cand.filter (fun a => (s.score c a (level a)).isSome)
  let sc (a : Nat) : Nat := (s.score c a (level a)).getD 0
  let rank (a : Nat) : List Int := [-(sc a : Int), if x.talkers.contains a then 0 else 1, a]
  let ranked := sortBy rank scored
  let held := x.talkers.filter (fun a => scored.contains a && k + 1 - Tbl.get 0 x.since a < s.rd Mix.HOLD_MS c)
  let topk := s.rd Conf.TOPK c
  let kept := (ranked.filter (fun a => held.contains a)).take topk
  let new := kept ++ ((ranked.filter (fun a => !kept.contains a)).take (topk - kept.length))
  let new := sortBy rank new
  let since := new.foldl (fun t a => if x.talkers.contains a then t else Tbl.set 0 t a (k + 1)) x.since
  (s.confUpd c (fun y => { y with talkers := new, since := since })).wr Mix.TALKERS c (talkersValue new)

/-! Modes (R209). -/

/-- A leg whose conference or configuration changed is in group mode of its new one, or in none. -/
def State.settleLeg (s : State) (l : Nat) : State :=
  let st := s.rd Leg.STATE l
  let conf := if st = 1 || st = 2 then s.rd Leg.CONF l else 0xFFFF
  let cfg := s.rd Leg.AUDIO_CFG l
  let x := s.aLeg l
  let on := conf != 0xFFFF && cfg != 0xFFFF
  if x.conf = conf && x.cfg = cfg then s
  else (s.aLegUpd l (fun y => { y with conf := conf, cfg := cfg })).wr LegMix.MODE l (if on then 1 else 0)

/-- Every leg with a mix, or that should have one. -/
def State.mixLegs (s : State) : List Nat := distinct ((s.column LegMix.MODE).map (·.1) ++ (s.column Leg.CONF).map (·.1))

/-- c.private. -/
def State.privateCount (s : State) (c : Nat) : Nat := ((s.audLegs c).filter (fun l => s.rd LegMix.MODE l == 2)).length

/-- Is an audio source of the leg a talker of the conference? -/
def State.talks (s : State) (c l : Nat) : Bool := (s.confX c).talkers.any (fun a => s.rd Src.LEG a == l)

/-- Who names a mix output: an encode group by its configuration, a private leg as 256 + leg, CONF_MIX as 131,328. -/
abbrev whoLeg (l : Nat) : Nat := 256 + l
abbrev whoConf : Nat := 256 + 131072

/-- A private encoder starts as a copy of its group's, and its mix where the group's stands. -/
def State.copyEncoder (s : State) (c l : Nat) : State :=
  let g := s.rd Leg.AUDIO_CFG l
  s.confUpd c (fun x => { x with
    outs := Tbl.set {} x.outs (whoLeg l) { Tbl.get {} x.outs g with frame := [] }
    encs := Tbl.set 0 x.encs (whoLeg l) (Tbl.get 0 x.encs g) })

/-- block_start of R209 at block b. -/
def State.blockStart (s : State) (c b : Nat) : State :=
  let ms (s : State) (l : Nat) : Nat := s.rd ACfg.FRAME_MS (s.rd Leg.AUDIO_CFG l)
  let s := ((s.audLegs c).filter (fun l => s.rd LegMix.MODE l == 2)).foldl (fun s l =>
    if !s.talks c l && b % ms s l = 0 then s.wr LegMix.MODE l 1 else s) s
  ((s.audLegs c).filter (fun l => s.rd LegMix.MODE l == 1)).foldl (fun s l =>
    if s.talks c l && b % ms s l = 0 && s.privateCount c < s.rd Conf.TOPK c then
      ((s.copyEncoder c l).wr LegMix.MODE l 2).bump LegMix.SWITCHES l
    else s) s

/-! Mixes (R208, R211, R221). -/

/-- A bed's name among contributions: CONF_IN node i of graph g. Sources are below. -/
abbrev bedId (g i : Nat) : Nat := 2 ^ 32 + 256 * g + i

/-- The CONF_IN nodes of running route graphs that feed beds into a conference. -/
def State.beds (s : State) (c : Nat) : List Nat :=
  (s.aud.graphs.map (fun r => match r.2.running with
    | some p => (p.nodes.zipIdx.filter (fun n => n.1.ty == 4 && n.1.p1 == c)).map (fun n => bedId r.1 n.2)
    | none => [])).flatten

/-- What a bed brings to a block: what its node put out in the block before. -/
def State.bedSignal (s : State) (id : Nat) : List Int :=
  (Tbl.get {} (Tbl.get {} s.aud.graphs ((id - 2 ^ 32) / 256)).nodes (id % 256)).out

/-- Is a route graph taking the conference's sum? -/
def State.hasConfMix (s : State) (c : Nat) : Bool :=
  s.aud.graphs.any (fun r => match r.2.running with
    | some p => p.nodes.any (fun n => n.ty == 3 && n.p1 == c) | none => false)

/-- Is the safety announcement in the mixes of block b (Table 9.13): from block k + 2 of an engagement in block k until
block j + 2 of a release in block j? -/
def State.announcing (s : State) (b : Nat) : Bool :=
  s.ros.spans.any (fun p => decide (p.1 / 1000000 + 2 ≤ b) &&
    (match p.2 with | some d => decide (b < d / 1000000 + 2) | none => true))

/-- The announcement and the duck come into force, or are released, at block k. -/
def State.announceStep (s : State) (k : Nat) : State :=
  let on := s.announcing k
  let r := s.ros
  { s with ros := { r with
    spans := r.spans.filter (fun p => match p.2 with | some d => decide (k < d / 1000000 + 2) | none => true)
    annOn := on
    annFrom := if on && !r.annOn then k else r.annFrom
    duckEnd := if on then none else if r.annOn then some k else r.duckEnd } }

/-- The announcement's samples: entry ANNOUNCE where it is READY (R346); the duck applies without it. -/
def State.annBytes (s : State) : Bytes :=
  let a := s.rd Ros.ANNOUNCE 0
  if a < 64 && s.on Store.READY a && s.rd Store.KIND a == 3 then Tbl.get [] s.ros.data a else []
def State.annIn (s : State) (k dom : Nat) : List Int :=
  if s.ros.annOn then annBlock s.annBytes dom (k - s.ros.annFrom) else zeros (domBlock dom)
def State.duckIn (s : State) (k dom i : Nat) : Nat := duckOf s.ros.annOn s.ros.duckEnd k (domBlock dom) i

/-- Talkers summed for an encode group, and for a private leg. -/
def State.groupParts (s : State) (c g : Nat) : List Nat :=
  (s.confX c).talkers.filter (fun a =>
    let l := s.rd Src.LEG a
    !(s.rd LegMix.MODE l == 1 && s.rd Leg.AUDIO_CFG l == g))
def State.legParts (s : State) (c l : Nat) : List Nat := (s.confX c).talkers.filter (fun a => s.rd Src.LEG a != l)

/-- Encode groups with a member in group mode. -/
def State.liveGroups (s : State) (c : Nat) : List Nat :=
  distinct (((s.audLegs c).filter (fun l => s.rd LegMix.MODE l == 1)).map (fun l => s.rd Leg.AUDIO_CFG l))
/-- Legs in private mode. -/
def State.privates (s : State) (c : Nat) : List Nat := (s.audLegs c).filter (fun l => s.rd LegMix.MODE l == 2)

/-- Mix outputs and encoders that nothing uses any more are released. -/
def State.pruneOuts (s : State) (c : Nat) : State :=
  let gs := s.liveGroups c
  let ps := (s.privates c).map whoLeg
  let cfgs := (s.audLegs c).map (fun l => s.rd Leg.AUDIO_CFG l)
  s.confUpd c (fun x => { x with
    outs := x.outs.filter (fun r => gs.contains r.1 || ps.contains r.1 || (r.1 == whoConf && s.hasConfMix c))
    encs := x.encs.filter (fun r => cfgs.contains r.1 || ps.contains r.1) })

/-- Would a mix output give a leg its own source? No block does (R208). -/
def State.ownVoice (s : State) (who id : Nat) : Bool :=
  let l := s.rd Src.LEG id
  decide (id < 2 ^ 32) && who != whoConf &&
    (if 256 ≤ who then who == whoLeg l else s.rd LegMix.MODE l == 1 && s.rd Leg.AUDIO_CFG l == who)

/-- The contributions of a mix output in block b, each with its ramp and whether that rises (R210): those that stay or come,
and with RAMP those that still ramp out. One that would give a leg its own source stops at once (R208, log 210). The outputs of a
conference that leaves SILENT ramp in, RAMP or not (R220). -/
def State.contributions (s : State) (c who b : Nat) (ids : List Nat) : List (Nat × Nat × Bool) :=
  let parts := (Tbl.get {} (s.confX c).outs who).parts
  let ramp := s.on Mix.RAMP c
  let from_ := if ramp || (s.confX c).wokeAt = some b then 0 else 64
  ids.map (fun a => (a, ((parts.find? (fun p => p.1 == a)).map (·.2)).getD from_, true)) ++
    (if ramp then (parts.filter (fun p => !ids.contains p.1 && !s.ownVoice who p.1)).map (fun p => (p.1, p.2, false)) else [])

/-- Sources that are candidates no more and still ramp out of a mix of a conference: they are decoded until then (log 211). -/
def State.rampers (s : State) (c : Nat) : List Nat :=
  if !s.on Mix.RAMP c then []
  else
    distinct ((s.confX c).outs.flatMap (fun r => r.2.parts.map (·.1)) |>.filter (fun a =>
      decide (a < 2 ^ 32) && !(s.confX c).cand.contains a && s.rd Src.STATE a == 1))

/-- One mix output of block b: complete, or concealed by the previous block at -6 dB a repeat, and after three by zero
(R211). `sigs` are the conference's decoded signals. -/
def State.mixOut (s : State) (c who b : Nat) (parts : List Nat) (sigs : List (Nat × List Int)) (late : Bool) : State :=
  let rate := s.rd Mix.MIX_RATE c
  let n := domBlock rate
  let x := Tbl.get {} (s.confX c).outs who
  let cs := s.contributions c who b (parts ++ s.beds c)
  let signal (id : Nat) : List Int :=
    if id < 2 ^ 32 then ((sigs.find? (fun q => q.1 == id)).map (·.2)).getD [] else s.bedSignal id
  let m := mixBlock (domHz rate) n (cs.map (fun p => (p.2.1, p.2.2, signal p.1))) (s.duckIn b rate) (s.annIn b rate) x.gain
  let rep := if late then Tbl.get 0 (s.confX c).repeats who + 1 else 0
  let ys := if rep = 0 then m.1 else if rep ≤ 3 then (firstN n x.last).map (gainOf (-600 * rep)) else zeros n
  let after := (cs.map (fun p => (p.1, rampAfter p.2.1 p.2.2 n, p.2.2))).filter (fun p => p.2.2 || p.2.1 != 0)
  let s := s.confUpd c (fun y => { y with
    repeats := Tbl.set 0 y.repeats who rep
    outs := Tbl.set {} y.outs who { x with
      parts := after.map (fun p => (p.1, p.2.1)), gain := m.2, last := if rep = 0 then ys else x.last, now := ys } })
  let s := if late then s.bump Mix.CONCEALED c else s
  s.emit (.mixOut c who b parts (s.beds c) s.ros.annOn rep ys)

/-- Samples of a mix output towards its codec: bridged to the configuration's domain and rounded to 16 bits (R212, R213). -/
def State.feedEncoder (s : State) (c who cfg : Nat) : State :=
  let from_ := s.rd Mix.MIX_RATE c
  let to_ := s.rd ACfg.DOMAIN cfg
  s.confUpd c (fun y => { y with outs := Tbl.upd {} y.outs who (fun x =>
    let q := if from_ = to_ then (x.now, x.hist) else bridgeBlock from_ to_ x.hist (firstN (domBlock from_) x.now)
    { x with hist := q.2, frame := x.frame ++ q.1.map round16 }) })

/-- Every mix output of a conference in block b. -/
def State.mixAll (s : State) (c b : Nat) (sigs : List (Nat × List Int)) (late : Nat → Bool) : State :=
  let s := s.pruneOuts c
  let s := (s.liveGroups c).foldl (fun s g => (s.mixOut c g b (s.groupParts c g) sigs (late g)).feedEncoder c g g) s
  let s := (s.privates c).foldl (fun s l =>
    (s.mixOut c (whoLeg l) b (s.legParts c l) sigs (late (whoLeg l))).feedEncoder c (whoLeg l) (s.rd Leg.AUDIO_CFG l)) s
  if s.hasConfMix c then s.mixOut c whoConf b (s.confX c).talkers sigs (late whoConf) else s

/-! Codec frames (R210, R211, R220, Table 1.4 step 5). -/

/-- Does a codec frame of a configuration end with block k (R209)? -/
def frameEnds (k ms : Nat) : Bool := (k % 2 ^ 32 + 1) % ms == 0

/-- What decides a configuration's coding. -/
def State.codecKey (s : State) (cfg : Nat) : List Nat :=
  [s.rd ACfg.CODEC cfg, s.rd ACfg.DOMAIN cfg, s.rd ACfg.BITRATE cfg, s.rd ACfg.FRAME_MS cfg, s.rd ACfg.COMPLEXITY cfg,
    s.rd ACfg.DTX cfg, s.rd ACfg.FEC cfg]

/-- The bytes of a coded frame: their number is fixed by the bit rate for G.722 and G.711; the encoders are their standards'. -/
def State.codedBytes (s : State) (cfg state : Nat) (frame : List Int) : Bytes :=
  let n := if 3 ≤ s.rd ACfg.CODEC cfg then s.rd ACfg.BITRATE cfg * s.rd ACfg.FRAME_MS cfg / 8000
    else (Config.codedLen (s.codecKey cfg) state frame).toNat + 1
  (List.range n).map (Config.codedByte (s.codecKey cfg) state frame)

/-- The last 64 samples of a frame fade to zero (R210). -/
def fadeEnd (xs : List Int) : List Int :=
  xs.zipIdx.map (fun x => if xs.length < x.2 + 64 then rampTo (xs.length - x.2) x.1 else x.1)

/-- An encoder codes the frame that ends: its bytes, and its state after. A frame begun late starts with zeros. -/
def State.encodeFrame (s : State) (c who cfg : Nat) (fade : Bool) : Bytes × State :=
  let x := Tbl.get {} (s.confX c).outs who
  let e := Tbl.get 0 (s.confX c).encs who
  let xs := lastN (s.rd ACfg.FRAME_MS cfg * domBlock (s.rd ACfg.DOMAIN cfg)) x.frame
  let xs := if fade then fadeEnd xs else xs
  (s.codedBytes cfg e xs, s.confUpd c (fun y => { y with
    outs := Tbl.set {} y.outs who { x with frame := [] }
    encs := Tbl.set 0 y.encs who (Config.codedState (s.codecKey cfg) e xs) }))

/-- The RTP offset of a leg's mix, drawn once. -/
def State.mixOffset (s : State) (l : Nat) : Nat × State :=
  match (s.aLeg l).rtpOff with
  | some o => (o, s)
  | none => let (o, s) := s.draw 32; (o, s.aLegUpd l (fun x => { x with rtpOff := some o }))

/-- A packet of a leg's mix: on MIX_SSRC, the audio RTP grid at its first block, consecutive numbers. -/
def State.sendMix (s : State) (l b : Nat) (pt : Nat) (payload : Bytes) (marker : Bool) (body : Body) : State :=
  let cfg := s.rd Leg.AUDIO_CFG l
  let n := payload.length
  let (off, s) := s.mixOffset l
  let ssrc := s.rd LegMix.MIX_SSRC l
  let ts := rtpAudio (rtpRate (s.rd ACfg.CODEC cfg)) (b * 1000000) off
  let (first, s) := s.draw 16
  let i := s.nextIndex (txCtx l) ssrc first
  let c : CopyX := { leg := l, cls := 0, ipLen := s.ipHdr l + 12 + n + srtpTag (s.rd Ctx.SUITE (txCtx l)), octets := n, ssrc := ssrc,
                     pt := pt, seq := i, ts := ts, marker := marker, payload := payload, body := body }
  let s := s.legUpd l (fun x => { x with
    mixSent := true, mixPkts := x.mixPkts + 1, mixBytes := x.mixBytes + n, mixTs := some (ts, s.ns) })
  let s := s.bump LegMix.MIX_PKTS l
  if s.radio l then s.radioItem c (deadline s.ns (s.rd Fret.DL_AUDIO (s.rd Leg.PORT l)))
  else if c.tooLong then s.dropCopy c l (s.rd Leg.PORT l)
  else
    let r := s.protect (txCtx l) ssrc i false
    if r.2 then r.1.egressSend (r.1.sealCopy c) else r.1

/-- A leg's frame that ends with block k. -/
def State.mixFrame (s : State) (c l k : Nat) (payload : Bytes) : State :=
  let cfg := s.rd Leg.AUDIO_CFG l
  if s.rd Leg.STATE l ≠ 2 then s
  else s.sendMix l (k + 1 - s.rd ACfg.FRAME_MS cfg) (s.rd ACfg.PT cfg) payload false (.mix c cfg k (s.rd LegMix.MODE l == 2))

/-- The frames of a conference that end with block k: each encoder codes once, and each leg gets its packet. The last
private frame of a leg that returns to group mode fades, but for Opus. -/
def State.frameAll (s : State) (c k : Nat) : State :=
  let ends (s : State) (cfg : Nat) : Bool := frameEnds k (s.rd ACfg.FRAME_MS cfg)
  let s := (s.liveGroups c).foldl (fun s g =>
    if !ends s g then s
    else
      let r := s.encodeFrame c g g false
      ((s.audLegs c).filter (fun l => s.rd LegMix.MODE l == 1 && s.rd Leg.AUDIO_CFG l == g)).foldl (fun s l => s.mixFrame c l k r.1) r.2) s
  (s.privates c).foldl (fun s l =>
    let cfg := s.rd Leg.AUDIO_CFG l
    if !ends s cfg then s
    else
      let r := s.encodeFrame c (whoLeg l) cfg (!s.talks c l && s.rd ACfg.CODEC cfg != 0)
      r.2.mixFrame c l k r.1) s

/-- What a configuration sends while its conference is SILENT (R220): the period in blocks (0: every frame), and whether the
packet is an RFC 3389 one. SID frames of EVS and AMR-WB come every 160 ms. -/
def State.silentPlan (s : State) (cfg : Nat) : Nat × Bool :=
  let codec := s.rd ACfg.CODEC cfg
  let dtx := s.on ACfg.DTX cfg
  if codec = 0 && dtx then (400, false)
  else if (codec = 1 || codec = 2) && dtx then (160, false)
  else if 3 ≤ codec && s.rd ACfg.CN_PT cfg ≠ 0xFF then (400, true)
  else (0, false)

/-- What a leg is sent in block k of a SILENT conference. An RFC 3389 packet holds one byte, the noise level. -/
def State.silentFrame (s : State) (c l k : Nat) : State :=
  let cfg := s.rd Leg.AUDIO_CFG l
  let ms := s.rd ACfg.FRAME_MS cfg
  let p := s.silentPlan cfg
  let level := Tbl.get 127 (s.confX c).quietLvl (if s.rd LegMix.MODE l = 2 then whoLeg l else cfg)
  if s.rd Leg.STATE l ≠ 2 then s
  else if p.1 = 0 then
    if !frameEnds k ms then s
    else s.sendMix l (k + 1 - ms) (s.rd ACfg.PT cfg) (s.codedBytes cfg 0 (zeros (ms * domBlock (s.rd ACfg.DOMAIN cfg)))) false
      (.silence cfg k level)
  else if (k - (s.confX c).silentAt) % p.1 ≠ 0 then s
  else if p.2 then s.sendMix l k (s.rd ACfg.CN_PT cfg) [BitVec.ofNat 8 level] false (.silence cfg k level)
  else s.sendMix l k (s.rd ACfg.PT cfg) (s.codedBytes cfg 0 []) false (.silence cfg k level)

/-! Silence (R220). -/

/-- Is every mix output of the block below SIL_LEVEL? -/
def State.mixesQuiet (s : State) (c : Nat) : Bool :=
  (s.confX c).outs.all (fun r => !atLeastDb r.2.now (s.rdI Mix.SIL_LEVEL c))

/-- The quiet blocks are counted. -/
def State.countQuiet (s : State) (c : Nat) : State :=
  let quiet := (s.confX c).cand == [] && s.mixesQuiet c
  s.confUpd c (fun x => { x with quiet := if quiet then x.quiet + 1 else 0 })

/-- A SILENT conference is left at the tick that has candidates, in the block in which a bed exceeds SIL_LEVEL, or one tick
after the override's engagement (Table 9.13). -/
def State.wakeConf (s : State) (c k : Nat) : State :=
  if s.on Mix.SILENT c && ((s.confX c).cand != [] || (s.beds c).any (fun b => aboveDb (s.bedSignal b) (s.rdI Mix.SIL_LEVEL c)) ||
      (match s.ros.at_ with | some e => decide (e / 1000000 + 1 ≤ k) | none => false)) then
    (s.wr Mix.SILENT c 0).confUpd c (fun x => { x with quiet := 0, wokeAt := some k })
  else s

/-- SILENT_ENTRY: no work from the next block on. The mixes' background levels are measured here; encoders keep their
states, and the mixes ramp in when it ends. -/
def silentEntry (c : Nat) (s : State) : State :=
  let x := s.confX c
  if s.rd Conf.STATE c ≠ 1 || s.on Mix.SILENT c || x.quiet < s.rd Mix.SIL_MS c then s
  else (s.wr Mix.SILENT c 1).confUpd c (fun y => { y with
    silentAt := s.ns / 1000000 + 1
    quietLvl := (x.outs.map (fun r => (r.1, (-(levelOf r.2.now)).toNat))).filter (fun r => r.2 != 127)
    outs := [] })

/-! HINT frames (R149, R150). -/

/-- The talker set of a port: legs with their ranks, 0xFF for a candidate only, in the order of R149. -/
def State.talkerSet (s : State) (f : Nat) : List (Nat × Nat × Nat) :=
  let on (l : Nat) : Bool := s.radio l && s.rd Leg.PORT l == f && s.rd Leg.STATE l == 2 && s.rd FLeg.FSTATE l == 1
  let top := ((s.elemsWith Conf.STATE 1).map (fun c =>
    (((s.confX c).talkers.zipIdx).map (fun p => (s.rd Src.LEG p.1, p.2, p.1))).filter (fun p => on p.1))).flatten
  let best := (distinct (top.map (·.1))).filterMap (fun l =>
    (top.filter (fun p => p.1 == l)).foldl (fun (b : Option (Nat × Nat × Nat)) p =>
      match b with | none => some p | some q => if p.2.1 < q.2.1 then some p else some q) none)
  let cands := if !s.on Fret.HINT_CAND f then [] else
    ((s.elemsWith Conf.STATE 1).map (fun c => ((s.confX c).cand.map (fun a => (s.rd Src.LEG a, 0xFF, a))).filter (fun p =>
      on p.1 && !best.any (fun q => q.1 == p.1)))).flatten
  let all := best ++ (distinct (cands.map (·.1))).filterMap (fun l => cands.find? (fun p => p.1 == l))
  let rank (i : Nat) : List Int := let p := all.getD i (0, 0, 0); [p.2.1, p.1]
  (sortBy rank (List.range all.length)).map (fun i => all.getD i (0, 0, 0))

/-- The RFC 6464 level of a source's latest packet; of one without the element, what its loudness stands for (R205). -/
def State.hintLevel (s : State) (a : Nat) : Nat := if (s.aSrc a).byLevel then (s.aSrc a).level else 127 - s.loudness a

/-- The frames of a set in pieces of 180. -/
def chunks180 : Nat → List (Nat × Nat × Nat) → List (List (Nat × Nat × Nat))
  | 0, _ => []
  | k + 1, l => l.take 180 :: chunks180 k (l.drop 180)

/-- Send a talker set as HINT frames of a block. -/
def State.hintSend (s : State) (f block : Nat) (set : List (Nat × Nat × Nat)) : State :=
  let cut := set.take 46080
  let trunc : Bool := 46080 < set.length
  let n := max 1 (ceilDiv cut.length 180)
  let s := ((chunks180 n cut).zipIdx).foldl (fun s p =>
    let more : Bool := p.2 + 1 < n
    let entries := (p.1.map (fun e => natBE 4 (s.rd Leg.RADIO_UE e.1) ++ natBE 1 (s.rd FLeg.BEARER e.1) ++ natBE 1 e.2.1 ++
      natBE 1 (s.hintLevel e.2.2) ++ natBE 1 0)).flatten
    (s.fretSend f 0x05 (natBE 4 (block % 2 ^ 32) ++ natBE 2 p.1.length ++ natBE 1 p.2 ++
      natBE 1 (more.toNat + (if trunc && !more then 2 else 0)) ++ entries)).bump Fret.HINT_TX f) s
  s.fPortUpd f (fun x => { x with hintSet := cut.map (fun e => (e.1, e.2.1)), hintSent := true, hintAt := s.phys })

/-- May a port send HINT frames? -/
def State.hintOn (s : State) (f : Nat) : Bool := s.on Fret.ENABLE f && s.on Fret.HINT_ENABLE f && s.rd Fret.PEER f == 1

/-- The talker set built in a block goes out where it differs from the last one sent. An empty set is sent once. A set that is
cut counts in HINT_TRUNC, sent or not (R150). -/
def State.hintBlock (s : State) (f block : Nat) : State :=
  let set := s.talkerSet f
  let s := if s.on Fret.ENABLE f && 46080 < set.length then s.bump Fret.HINT_TRUNC f else s
  let x := s.fPort f
  if !s.hintOn f || (x.hintSent && x.hintSet == (set.take 46080).map (fun e => (e.1, e.2.1))) then s else s.hintSend f block set

/-- HINT_REFRESH ms after the last set, the set is sent again; an empty one is not repeated. -/
def hintRefresh (f : Nat) (s : State) : State :=
  let x := s.fPort f
  let set := s.talkerSet f
  if !s.hintOn f || !x.hintSent || set = [] || s.since x.hintAt < s.rd Fret.HINT_REFRESH f * cycMs then s
  else s.hintSend f (s.ns / 1000000 + 1) set

/-! Writes of chapter 9 that have no row of their own. -/

/-- Frame lengths of a codec (Table 9.1), and its rate domains. -/
def frameOk (codec ms : Nat) : Bool :=
  match codec with
  | 0 => [10, 20, 40, 60].contains ms | 1 => ms == 20 | 2 => ms == 20 | _ => ms == 10 || ms == 20
def domainFits (codec domain : Nat) : Bool :=
  match codec with
  | 0 => true | 1 => true | 2 => domain == 1 | 3 => domain == 1 | _ => domain == 0

/-- Bit rates that the codecs' standards define, by domain (0 8 kHz, 1 16 kHz, 2 48 kHz). -/
def bitrateOk (codec domain rate : Nat) : Bool :=
  match codec with
  | 0 => 6000 ≤ rate && rate ≤ 510000
  | 1 =>
    let nb := [5900, 7200, 8000, 9600, 13200, 16400, 24400]
    let wb := [5900, 7200, 8000, 9600, 13200, 16400, 24400, 32000, 48000, 64000, 96000, 128000]
    (if domain = 0 then nb else wb).contains rate
  | 2 => [6600, 8850, 12650, 14250, 15850, 18250, 19850, 23050, 23850].contains rate
  | 3 => [48000, 56000, 64000].contains rate
  | _ => rate == 64000

/-- Is a codec configuration one that its codec's standard defines (R204)? -/
def State.cfgOk (s : State) (i : Nat) : Bool :=
  let codec := s.rd ACfg.CODEC i
  frameOk codec (s.rd ACfg.FRAME_MS i) && domainFits codec (s.rd ACfg.DOMAIN i) &&
    bitrateOk codec (s.rd ACfg.DOMAIN i) (s.rd ACfg.BITRATE i) &&
    (codec == 0 || (s.rd ACfg.COMPLEXITY i == 0 && !s.on ACfg.FEC i))

/-- SRC_OUT nodes that use a configuration: of compiled and of running programs. -/
def State.cfgGraphUsers (s : State) (i : Nat) : Nat :=
  let of (p : Option Prog) : Nat := match p with
    | some q => (q.nodes.filter (fun n => n.ty == 0x0B && n.p0 == i)).length | none => 0
  sumOf (s.aud.graphs.map (fun r => of r.2.compiled + (match r.2.next with | some p => of p | none => of r.2.running)))

/-- USERS of a configuration. -/
def State.cfgUsers (s : State) (i : Nat) : Nat := (s.elemsWith Leg.AUDIO_CFG i).length + s.cfgGraphUsers i

/-- A write to an object of 0x3100 or 0x3110. -/
def audioWrite (col el v : Nat) (s : State) : Except Status State :=
  if col / 256 = ACfg.index then (if s.cfgUsers el ≠ 0 then .error .eState else .ok (s.wr col el v))
  else if s.rd Conf.STATE el = 0 then .error .eState
  else if col = Mix.MIX_RATE && s.members el ≠ [] then .error .eState
  else .ok (s.wr col el v)

/-! The commands. -/

def execSilentEntry (conf : Nat) (s : State) : Out := live (silentEntry conf) s

def execHintRefreshExpiry (f : Fin 2) (s : State) : Out := live (hintRefresh f) s

end Sys2Proof.Machine
end

