-- ==== Sys2Proof/Machine/Graph.lean ====
section
/-! DEFINITION. Route graphs: the staged blob, the checks of Kerady, the program it makes and what it reports, and a running
program's block (R214 to R219, R264, R265). -/

namespace Sys2Proof.Machine

/-! The blob (Tables 9.6, 9.7 and 9.9; network order). -/

structure Blob where
  bytes : Bytes
  nNodes : Nat
  nEdges : Nat
  nCode : Nat
  deriving DecidableEq, Repr

def readBlob (b : Bytes) : Blob := ⟨b, beAt b 2 2, beAt b 4 2, beAt b 6 2⟩
/-- Where node n, edge m and bundle k begin. -/
def nodeAt (n : Nat) : Nat := 16 + 16 * n
def Blob.edgeAt (x : Blob) (m : Nat) : Nat := 16 + 16 * x.nNodes + 8 * m
def Blob.codeAt (x : Blob) (k : Nat) : Nat := x.edgeAt x.nEdges + 8 * k
def Blob.node (x : Blob) (n : Nat) : GNode :=
  let o := nodeAt n
  ⟨byteAt x.bytes o, byteAt x.bytes (o + 1), beAt x.bytes (o + 2) 2, beAt x.bytes (o + 4) 4, beAt x.bytes (o + 8) 8⟩
def Blob.edge (x : Blob) (m : Nat) : GEdge :=
  let o := x.edgeAt m
  ⟨byteAt x.bytes o, byteAt x.bytes (o + 1), byteAt x.bytes (o + 2), byteAt x.bytes (o + 3), beAt x.bytes (o + 4) 2⟩
def Blob.nodes (x : Blob) : List GNode := (List.range x.nNodes).map x.node
def Blob.edges (x : Blob) : List GEdge := (List.range x.nEdges).map x.edge
def Blob.code (x : Blob) : List Nat := (List.range x.nCode).map (fun k => beAt x.bytes (x.codeAt k) 8)

/-! Node types (Table 9.8). -/

/-- The P2 bits that a node type uses. -/
def p2Mask (ty : Nat) : Nat :=
  match ty with
  | 0x07 => 0xFFFFFFFF00000000 | 0x0A => 1 | 0x0C => 2 ^ 64 - 1 | _ => 0

/-- Is every parameter within Table 9.8 (check 3)? -/
def GNode.paramsOk (n : GNode) : Bool :=
  let i1 := toInt 32 n.p1
  let port : Bool := decide (n.p0 ≤ 23) && n.p1 ≤ (if n.p0 < 16 then 31 else 1)
  match n.ty with
  | 0x02 => port
  | 0x05 => -9600 ≤ i1 && i1 ≤ 2400
  | 0x07 => n.p0 ≤ 4 && 2 * n.p1 < domHz n.dom && 100 ≤ bitsOf n.p2 48 16 && bitsOf n.p2 48 16 ≤ 20000
  | 0x08 => 1 ≤ n.p1 && n.p1 ≤ 48000
  | 0x09 => 1 ≤ n.p0 && n.p0 ≤ 1000 && -2400 ≤ i1 && i1 ≤ 0
  | 0x0A => port
  | 0x0B => n.p0 ≤ 255
  | 0x0C => 1 ≤ n.ins && n.ins ≤ 4 && 1 ≤ n.outs && n.outs ≤ 4
  | 0x0D => n.p0 ≤ 2 && n.p0 != n.dom
  | _ => true

def GEdge.gainOk (e : GEdge) : Bool :=
  let g := toInt 16 e.gain
  g == -32768 || (-9600 ≤ g && g ≤ 2400)

/-! The checks of Table 9.10. A check answers the node or edge index of its first failure. -/

/-- The first index of a list whose element fails. -/
def firstBad {α : Type} (l : List α) (ok : α → Bool) : Option Nat := l.findIdx? (fun a => !ok a)

def orElse (a b : Option Nat) : Option Nat := match a with | some x => some x | none => b

def Blob.check1 (x : Blob) : Option Nat :=
  if x.bytes.length ≤ 262144 && 16 ≤ x.bytes.length && 1 ≤ x.nNodes &&
    x.bytes.length = 16 + 16 * x.nNodes + 8 * x.nEdges + 8 * x.nCode then none else some 0

def Blob.check2 (x : Blob) : Option Nat :=
  if byteAt x.bytes 0 ≠ 1 || byteAt x.bytes 1 > 1 || beAt x.bytes 8 8 ≠ 0 || 256 < x.nNodes || 1024 < x.nEdges || 16384 < x.nCode then some 0
  else orElse (firstBad x.nodes (fun n => 1 ≤ n.ty && n.ty ≤ 0x0D && n.dom ≤ 2 && n.p2 &&& p2Mask n.ty == n.p2))
    (firstBad (List.range x.nEdges) (fun m => beAt x.bytes (x.edgeAt m + 6) 2 == 0))

/-- Of a SRC_OUT node the state decides too: its source is DEFINED and device-produced. -/
def State.sinkSrcOk (s : State) (n : GNode) : Bool :=
  n.ty != 0x0B || (s.rd Src.STATE n.p1 == 1 && s.rd Src.LEG n.p1 == 0xFFFFFFFF)

def State.check3 (s : State) (x : Blob) : Option Nat :=
  orElse (firstBad x.nodes (fun n => n.paramsOk && s.sinkSrcOk n)) (firstBad x.edges GEdge.gainOk)

/-- The domain that Table 9.8 fixes for a node. -/
def State.fixedDom (s : State) (n : GNode) : Option Nat :=
  match n.ty with
  | 0x02 => some 2 | 0x0A => some 2
  | 0x03 => if n.p1 < 8192 then some (s.rd Mix.MIX_RATE n.p1) else none
  | 0x04 => if n.p1 < 8192 then some (s.rd Mix.MIX_RATE n.p1) else none
  | 0x0B => some (s.rd ACfg.DOMAIN n.p0)
  | _ => none

def State.check4 (s : State) (x : Blob) : Option Nat :=
  firstBad x.nodes (fun n => match s.fixedDom n with | some d => n.dom == d | none => true)

def Blob.check5 (x : Blob) : Option Nat :=
  let es := x.edges
  let ns := x.nodes
  firstBad (List.range es.length) (fun m => match es[m]? with
    | none => true
    | some e => (match ns[e.src]?, ns[e.dst]? with
      | some a, some b => e.srcOut < a.outputs && e.dstIn < b.inputs &&
          !(es.take m).any (fun d => d.dst == e.dst && d.dstIn == e.dstIn)
      | _, _ => false))

/-- Remove, as often as there are nodes, every node that no remaining node feeds; what remains lies on or behind a
loop. DELAY nodes do not pass a loop on. -/
def peelNodes (es : List (Nat × Nat)) : Nat → List Nat → List Nat
  | 0, l => l
  | k + 1, l => peelNodes es k (l.filter (fun n => es.any (fun e => e.2 == n && l.contains e.1)))

/-- Can a node reach another over edges, in at most k steps? -/
def reachable (es : List (Nat × Nat)) : Nat → List Nat → List Nat
  | 0, l => l
  | k + 1, l => reachable es k (distinct (l ++ (es.filter (fun e => l.contains e.1)).map (·.2)))

def Blob.check6 (x : Blob) : Option Nat :=
  let ns := x.nodes
  let solid (i : Nat) : Bool := match ns[i]? with | some n => n.ty != 0x08 | none => false
  let es := (x.edges.map (fun e => (e.src, e.dst))).filter (fun e => solid e.1 && solid e.2)
  let left := peelNodes es x.nNodes ((List.range x.nNodes).filter solid)
  left.find? (fun n => (reachable es x.nNodes ((es.filter (fun e => e.1 == n)).map (·.2))).contains n)

/-- Is a port slot granted to host o (R235)? -/
def State.slotGranted (s : State) (o : Nat) (n : GNode) : Bool :=
  s.rd (if n.ty = 0x02 then SlotOwn.RX_OWNER else SlotOwn.TX_OWNER) (32 * n.p0 + n.p1) == o

/-- Is everything that a node names visible, or granted, to the owner (check 7)? -/
def State.nodeVisible (s : State) (o : Nat) (n : GNode) : Bool :=
  match n.ty with
  | 0x01 => n.p1 < 262144 && s.reaches .src o n.p1
  | 0x0B => n.p1 < 262144 && s.reaches .src o n.p1
  | 0x03 => n.p1 < 8192 && s.reaches .conf o n.p1
  | 0x04 => n.p1 < 8192 && s.reaches .conf o n.p1
  | 0x02 => s.slotGranted o n
  | 0x0A => s.slotGranted o n
  | _ => true

/-- Is a named source DEFINED, audio and without E2E (check 8)? -/
def State.nodeStateOk (s : State) (n : GNode) : Bool :=
  let audio : Bool := s.rd Src.STATE n.p1 == 1 && s.rd Src.MEDIA n.p1 == 0 && !s.on Src.E2E n.p1
  match n.ty with
  | 0x01 => audio
  | 0x0B => audio
  | _ => true

/-- What a node drives: an output slot or a device-produced source. -/
def GNode.drives (n : GNode) : Option (Nat × Nat × Nat) :=
  match n.ty with
  | 0x0A => some (0, n.p0, n.p1)
  | 0x0B => some (1, 0, n.p1)
  | _ => none

def State.graphX (s : State) (g : Nat) : GraphX := Tbl.get {} s.aud.graphs g
def State.graphUpd (s : State) (g : Nat) (f : GraphX → GraphX) : State :=
  { s with aud := { s.aud with graphs := Tbl.upd {} s.aud.graphs g f } }

def progNodes (p : Option Prog) : List GNode := match p with | some q => q.nodes | none => []

/-- What the other graphs drive: those of state COMPILED, or RUNNING. -/
def State.drivenBy (s : State) (g : Nat) : List (Nat × Nat × Nat) :=
  (s.aud.graphs.flatMap (fun r =>
    if r.1 = g then []
    else (if s.rd Graph.STATE r.1 = 3 then progNodes r.2.compiled else []) ++
      (if s.on Graph.RUNNING r.1 then progNodes (match r.2.next with | some p => p | none => r.2.running) else []))).filterMap GNode.drives

def State.check9 (s : State) (g : Nat) (ns : List GNode) : Option Nat :=
  let taken := s.drivenBy g
  firstBad (List.range ns.length) (fun i => match (ns[i]?).bind GNode.drives with
    | none => true
    | some d => !taken.contains d && !((ns.take i).filterMap GNode.drives).contains d)

/-! Custom code (check 10; R264, R265). -/

/-- The registers that the slots of a bundle write: d0 to d15, x0 to x7 at 16, y0 to y7 at 24, m0 to m7 at 32, lc at 40,
sr at 41; accumulators, which no move slot writes, are left out. -/
def arithWrites (v : Nat) : List Nat :=
  let opc := bitsOf v 24 6
  match fmtOf opc with
  | some .r3 => [bitsOf v 20 4]
  | some .i => if opc = 0x22 then [40] else [bitsOf v 20 4]
  | some .e => [bitsOf v 20 4]
  | some .b => if bitsOf v 21 3 = 5 then [40] else []
  | some .s => if opc = 0x28 then [16 + bitsOf v 19 5] else [bitsOf v 15 4]
  | some .l => if opc = 0x30 then [bitsOf v 20 4] else []
  | _ => []
def moveWrites (v base : Nat) : List Nat :=
  (if bitsOf v 15 2 = 1 then [bitsOf v 3 4] else []) ++
    (if bitsOf v 15 2 ≠ 0 && bitsOf v 10 2 ≠ 0 then [base + bitsOf v 12 3] else [])
/-- Does no register appear for two slots? -/
def writesOnce (w : Nat) : Bool :=
  let l := arithWrites (arithOf w) ++ moveWrites (xmoveOf w) 16 ++ moveWrites (ymoveOf w) 24
  (distinct l).length == l.length

/-- May a bundle stand in custom code at place i of a node of n bundles: legal, no lds or sts, one writer per register,
branch targets inside the node (loaded at I word 6,144), and backward only on a loop count? -/
def customBundleOk (w i n : Nat) : Bool :=
  let v := arithOf w
  let t := bitsOf v 4 13
  bundleOk w && opcOf w != 0x30 && opcOf w != 0x31 && writesOnce w &&
    (opcOf w != 0x20 || (6144 ≤ t && t < 6144 + n && (i < t - 6144 || bitsOf v 21 3 == 5)))

/-- One path through custom code: next bundle, loop count where setlc loaded it, cycles so far; what the code's own
constants say of d, x, y and m registers, and whether a move used an address that they do not say. -/
structure Walk where
  pc : Nat
  lc : Option Nat
  cyc : Nat
  d : List (Option Nat)
  x : List (Option Nat) := List.replicate 8 (some 0)
  y : List (Option Nat) := List.replicate 8 (some 0)
  m : List (Option Nat) := List.replicate 8 (some 0)
  vague : Bool := false
  deriving DecidableEq, Repr

/-- A move's use of its address register: the registers after, and whether the address is not known; none where it lies at or
above the limit. -/
def walkMove (lim v : Nat) (regs m : List (Option Nat)) : Option (List (Option Nat) × Bool) :=
  if bitsOf v 15 2 = 0 then some (regs, false)
  else
    let a := bitsOf v 12 3
    match regs.getD a none with
    | none => some (regs, true)
    | some adr =>
      if lim ≤ adr then none
      else
        let upd := bitsOf v 10 2
        let next := if upd ≤ 1 then some (postUpdate adr upd 0) else (m.getD (bitsOf v 7 3) none).map (postUpdate adr upd)
        some (regs.set a next, false)

/-- A bundle's effect on what is known: movi, movh, movs and movd keep it, every other write loses it. -/
def Walk.bundle (xlim ylim w : Nat) (k : Walk) : Option Walk :=
  let v := arithOf w
  let opc := opcOf w
  match walkMove xlim (xmoveOf w) k.x k.m, walkMove ylim (ymoveOf w) k.y k.m with
  | some xs, some ys =>
    let da (r : Nat) : Option Nat := k.d.getD r none
    let sreg := bitsOf v 19 5
    let lose : List (Option Nat) := (arithWrites v).foldl (fun d r => if r < 16 then d.set r none else d) k.d
    let d :=
      if opc = 0x0B then k.d.set (bitsOf v 20 4) (some (ofInt 32 (toInt 16 (bitsOf v 0 16))))
      else if opc = 0x0C then k.d.set (bitsOf v 20 4) ((da (bitsOf v 20 4)).map (fun o => bitsOf v 0 16 * 65536 + o % 65536))
      else if opc = 0x29 then
        k.d.set (bitsOf v 15 4) (if sreg < 8 then k.x.getD sreg none else if sreg < 16 then k.y.getD (sreg - 8) none
          else if sreg < 24 then k.m.getD (sreg - 16) none else none)
      else lose
    let loads : List Nat := [xmoveOf w, ymoveOf w].filterMap (fun u => if bitsOf u 15 2 = 1 then some (bitsOf u 3 4) else none)
    let adr := (da (bitsOf v 15 4)).map (· % 16384)
    some { k with
      d := loads.foldl (fun d r => d.set r none) d
      x := if opc = 0x28 && sreg < 8 then xs.1.set sreg adr else xs.1
      y := if opc = 0x28 && 8 ≤ sreg && sreg < 16 then ys.1.set (sreg - 8) adr else ys.1
      m := if opc = 0x28 && 16 ≤ sreg && sreg < 24 then k.m.set (sreg - 16) (da (bitsOf v 15 4)) else k.m
      vague := k.vague || xs.2 || ys.2 }
  | _, _ => none

/-- The ways on from a bundle; none where a rule of R265 is broken. An ended path has no way on. -/
def walkOne (xlim ylim : Nat) (code : List Nat) (x : Walk) : Option (List Walk) :=
  match code[x.pc]? with
  | none => none
  | some w =>
    let v := arithOf w
    match x.bundle xlim ylim w with
    | none => none
    | some y =>
    let on (pc : Nat) (lc : Option Nat) (c : Nat) : Walk := { y with pc := pc, lc := lc, cyc := x.cyc + c }
    if opcOf w = 0x3E then some []
    else if opcOf w = 0x20 then
      let t := bitsOf v 4 13 - 6144
      let c := bitsOf v 21 3
      if c = 0 then some [on t x.lc 3]
      else if c = 5 then
        match x.lc with
        -- a forward branch closes no loop: either way
        | none => if x.pc < t then some [on (x.pc + 1) none 1, on t none 3] else none
        | some k => if (k + 65535) % 65536 = 0 then some [on (x.pc + 1) (some 0) 1] else some [on t (some ((k + 65535) % 65536)) 3]
      else some [on (x.pc + 1) x.lc 1, on t x.lc 3]
    else if opcOf w = 0x21 then
      let k := if bitOf v 23 then x.lc.getD 65535 else bitsOf v 0 16
      match code[x.pc + 1]? with
      | none => none
      | some r =>
        if !repeatable r then none
        else
          let end_ := (List.range k).foldl (fun (z : Option Walk) _ => z.bind (fun z => z.bundle xlim ylim r)) (some y)
          end_.map (fun z => [{ z with
            pc := x.pc + 2, lc := x.lc, cyc := x.cyc + 1 + k, vague := z.vague || (bitOf v 23 && x.lc.isNone) }])
    else
      let lc := if opcOf w = 0x22 then some (bitsOf v 0 16) else if opcOf w = 0x28 && bitsOf v 19 5 = 24 then none else x.lc
      some [on (x.pc + 1) lc 1]

/-- Merge paths that stand at one bundle with the same knowledge, keeping the longer. -/
def mergeWalks (l : List Walk) : List Walk :=
  l.foldl (fun a x =>
    if a.any (fun y => { y with cyc := 0 } == { x with cyc := 0 }) then
      a.map (fun y => if { y with cyc := 0 } == { x with cyc := 0 } then { y with cyc := max y.cyc x.cyc } else y)
    else a ++ [x]) []

/-- Does every path end with done within the limit, and no known address of a move lie outside its memory's words: none, or
whether some address was not known? Every bundle takes at least one cycle, done takes 4. -/
def walkAll (xlim ylim : Nat) (code : List Nat) (limit : Nat) : Nat → List Walk → Bool → Option Bool
  | 0, l, vague => if l.isEmpty then some vague else none
  | k + 1, l, vague =>
    if l.isEmpty then some vague
    else if l.any (fun x => limit < x.cyc + (if (code[x.pc]?).map opcOf = some 0x3E then 4 else 1)) then none
    else
      let nx := l.map (walkOne xlim ylim code)
      if nx.any Option.isNone then none
      else walkAll xlim ylim code limit k (mergeWalks (nx.flatMap (·.getD [])))
        (vague || l.any (fun x => match (code[x.pc]?).bind (x.bundle xlim ylim) with | some y => y.vague | none => false))

/-- Check 10 of one custom node: none where it fails; else whether some address that its code uses is computed, so that the
code's constants do not show it within the declared words. -/
def customOk (ns : List GNode) (code : List Nat) (n : GNode) : Option Bool :=
  let own := customCode ns code n
  let len := own.length
  let i0 := n.ins * domBlock n.dom
  let o0 := n.outs * domBlock n.dom
  let xlim := i0 + n.xWords
  let ylim := o0 + n.yWords
  let entry : Walk := {
    pc := 0, lc := none, cyc := 0
    d := [some (domBlock n.dom), none] ++ List.replicate 14 (some 0)
    x := (List.replicate 8 (some 0)).set 4 (some i0)
    y := (List.replicate 8 (some 0)).set 4 (some o0) }
  if xlim ≤ 16384 && ylim ≤ 16384 && 1 ≤ len && len ≤ 2048 && (List.range len).all (fun i => customBundleOk (own.getD i 0) i len) then
    walkAll xlim ylim own n.p1 (n.p1 + 1) [entry] false
  else none

/-- Check 10. How Kerady finds that an address computed from data lies within the declared words is not described: there the
verdict is a free value. -/
def State.check10 (s : State) (ns : List GNode) (code : List Nat) : Option Nat × State :=
  (List.range ns.length).foldl (fun (r : Option Nat × State) i =>
    match r.1, ns[i]? with
    | none, some n =>
      if n.ty ≠ 0x0C then r
      else match customOk ns code n with
        | none => (some i, r.2)
        | some true => let (b, t) := r.2.draw 1; (if b = 1 then none else some i, t)
        | some false => r
    | _, _ => r) (none, s)

/-! What Kerady reports (R216, R218). -/

/-- Cycles per second of a node; a SUM costs one cycle per driven input. -/
def State.nodeCost (s : State) (es : List GEdge) (i : Nat) (n : GNode) : Nat :=
  let hz := domHz n.dom
  match n.ty with
  | 0x01 => 100000 * dCost (s.rd Src.CODEC n.p1)
  | 0x05 => hz
  | 0x06 => hz * (es.filter (fun e => e.dst == i)).length
  | 0x07 => 5 * hz
  | 0x09 => 8 * hz
  | 0x0B => 100000 * s.cfgCost n.p0
  | 0x0C => 1000 * n.p1
  | 0x0D => 100000 * (bridgeOf n.p0 n.dom).2.2
  | _ => 2 * hz

/-- CYCLES (R216): the costs of all nodes, the inserted bridges among them, and 400 cycles per block; in 0.1 M cycles/s,
rounded up. -/
def State.progCycles (s : State) (ns : List GNode) (es : List GEdge) : Nat :=
  ceilDiv (sumOf ((List.range ns.length).map (fun i => match ns[i]? with | some n => s.nodeCost es i n | none => 0)) + 400000) 100000

/-- A latency in samples of one rate, in samples of another, rounded up. -/
def inRate (n hz to_ : Nat) : Nat := ceilDiv (n * to_) hz

def GNode.latencyIn (n : GNode) (to_ : Nat) : Nat :=
  match n.ty with
  | 0x08 => inRate n.p1 (domHz n.dom) to_
  | 0x0C => inRate n.latency (domHz n.dom) to_
  | 0x0D => inRate (bridgeOf n.p0 n.dom).1 (bridgeOf n.p0 n.dom).2.1 to_
  | _ => 0

/-- The latencies of the paths from node a to sink z that visit no node twice. -/
def pathLats (ns : List GNode) (es : List GEdge) (to_ z : Nat) : Nat → List Nat → Nat → List Nat
  | 0, _, _ => []
  | k + 1, seen, a =>
    let here := match ns[a]? with | some n => n.latencyIn to_ | none => 0
    if a = z then [here]
    else (es.filter (fun e => e.src == a && !seen.contains e.dst)).flatMap (fun e =>
      (pathLats ns es to_ z k (a :: seen) e.dst).map (· + here))

/-- The latency pairs of the blob's first k nodes, in ascending order of node and then sink: every node with every sink that
a path from it reaches (R218). -/
def latencyPairs (k : Nat) (ns : List GNode) (es : List GEdge) : List (Nat × Nat × Nat × Nat × Nat) :=
  let ix := List.range k
  ix.flatMap (fun a => ix.filterMap (fun z => match ns[z]? with
    | some m =>
      if a = z || !m.isSink then none
      else match pathLats ns es (domHz m.dom) z ns.length [a] a with
        | [] => none
        | l :: ls => some (a, z, ls.foldl min l + domBlock m.dom, ls.foldl max l + domBlock m.dom, m.dom)
    | none => none))

/-! The program (R215). -/

/-- A BRIDGE on every edge that joins two domains: the nodes with the bridges after them, and the edges through them. -/
def insertBridges (ns : List GNode) (es : List GEdge) : List GNode × List GEdge :=
  es.foldl (fun r e => match ns[e.src]?, ns[e.dst]? with
    | some a, some b =>
      if a.dom = b.inDom then (r.1, r.2 ++ [e])
      else (r.1 ++ [⟨0x0D, b.inDom, a.dom, 0, 0⟩],
        r.2 ++ [{ e with dst := r.1.length, dstIn := 0 }, { e with src := r.1.length, srcOut := 0, gain := 0 }])
    | _, _ => (r.1, r.2 ++ [e])) (ns, [])

/-- Nodes in an order in which each runs after those that feed it: round by round, those whose feeding nodes are placed. -/
def placeNodes (es : List (Nat × Nat)) : Nat → List Nat → List Nat → List Nat
  | 0, done, _ => done
  | k + 1, done, left =>
    let r := left.filter (fun n => es.all (fun e => e.2 != n || done.contains e.1))
    placeNodes es k (done ++ r) (left.filter (fun n => !r.contains n))

/-- The order of a program, and whether a DELAY closes a loop, so that its edges do not order the nodes. -/
def runOrder (ns : List GNode) (es : List GEdge) : List Nat × Bool :=
  let all := es.map (fun e => (e.src, e.dst))
  let n := ns.length
  let o := placeNodes all n [] (List.range n)
  if o.length = n then (o, false)
  else (placeNodes (all.filter (fun e => ((ns[e.1]?).map (·.ty)) != some 0x08)) n [] (List.range n), true)

/-- Kerady: the program, or the status, detail and place of the first check that fails. -/
def State.kerady (s : State) (g owner : Nat) : Except (Status × Nat × Nat) Prog × State :=
  let x := readBlob (s.graphX g).blob
  let ns := x.nodes
  match x.check1 with
  | some n => (.error (.eLength, 1, n), s)
  | none =>
  match x.check2 with
  | some n => (.error (.eRange, 2, n), s)
  | none =>
  match s.check3 x with
  | some n => (.error (.eRange, 3, n), s)
  | none =>
  match s.check4 x with
  | some n => (.error (.eRange, 4, n), s)
  | none =>
  match x.check5 with
  | some n => (.error (.eRange, 5, n), s)
  | none =>
  match x.check6 with
  | some n => (.error (.eRange, 6, n), s)
  | none =>
  match firstBad ns (s.nodeVisible owner) with
  | some n => (.error (.eNoObj, 7, n), s)
  | none =>
  match firstBad ns s.nodeStateOk with
  | some n => (.error (.eState, 8, n), s)
  | none =>
  match s.check9 g ns with
  | some n => (.error (.eState, 9, n), s)
  | none =>
  match s.check10 ns x.code with
  | (some n, s) => (.error (.eRange, 10, n), s)
  | (none, s) =>
    let g := insertBridges ns x.edges
    let o := runOrder g.1 g.2
    let cyc := s.progCycles g.1 g.2
    match s.admission owner .dsp cyc with
    | .error e => (.error (e, 11, 0), s)
    | .ok s =>
      (.ok {
        ramp := bitOf (byteAt x.bytes 1) 0
        nodes := g.1
        edges := g.2
        order := o.1
        loops := o.2
        code := x.code
        cycles := cyc
        pairs := latencyPairs ns.length g.1 g.2 }, s)

/-! The life of a graph. -/

/-- Is a graph in use, so that it belongs to its owner? -/
def State.graphOwned (s : State) (g : Nat) : Bool := s.rd Graph.STATE g != 0 || s.on Graph.RUNNING g

/-- Forget what was reported of a compiled program. -/
def State.graphForget (s : State) (g : Nat) : State :=
  let s : State := (List.range 256).foldl (fun s i => s.clearEl Lat.index (256 * g + i)) s
  ((s.wr Graph.CYCLES g 0).wr Graph.PAIRS g 0)

/-- Discard the compiled program and release its charge (R216). -/
def State.discardCompiled (s : State) (g : Nat) : State :=
  match (s.graphX g).compiled with
  | none => s
  | some p => (s.chargeBy (s.rd Graph.OWNER g) .dsp (-(p.cycles : Int))).graphUpd g (fun x => { x with compiled := none })

/-- The program chosen last stops; its charge is released when it has stopped running. -/
def State.stopRunning (s : State) (g : Nat) (next : Option Prog) (charge : Nat) : State :=
  let own := s.rd Graph.OWNER g
  s.graphUpd g (fun x => { x with next := some next, charge := charge, ends := x.ends ++ (if x.charge = 0 then [] else [(own, x.charge)]) })

/-- A free entry reads its Defaults. -/
def State.graphFree (s : State) (g : Nat) : State :=
  if s.graphOwned g then s
  else ((s.graphForget g).clearEl Graph.index g).graphUpd g (fun x => { x with blob := [], compiled := none })

/-- A write of BLOB (Table 9.11). While Kerady works on the blob it fails with E_BUSY. -/
def graphBlob (h g : Nat) (b : Bytes) (s : State) : Except Status State :=
  guarded [(decide (8192 < b.length), .eLength), (s.rd Graph.STATE g == 2, .eBusy)] (
    let s := if s.graphOwned g then s else s.wr Graph.OWNER g h
    let s :=
      if s.rd Graph.STATE g = 1 then s
      else (((s.discardCompiled g).graphForget g).graphUpd g (fun x => { x with blob := [] })).wr Graph.ERROR g 0 |>.wr Graph.ERR_NODE g 0
    let s := s.graphUpd g (fun x => { x with blob := x.blob ++ b })
    .ok ((s.wr Graph.STATE g 1).wr Graph.BLOB_LEN g (s.graphX g).blob.length))

/-- COMPILE (R215). -/
def graphCompile (g : Nat) (s : State) : Except Status State :=
  guarded [(s.rd Graph.STATE g == 2 || 4 ≤ (s.elemsWith Graph.STATE 2).length, .eBusy), (s.rd Graph.STATE g != 1 && s.rd Graph.STATE g != 2, .eState)]
    (.ok (s.wr Graph.STATE g 2))

/-- Kerady finishes (R215). -/
def compileDone (g : Nat) (s : State) : State :=
  if s.rd Graph.STATE g ≠ 2 then s
  else
    let own := s.rd Graph.OWNER g
    match s.kerady g own with
    | (.error (st, detail, node), s) =>
      let err := 256 * st.code + detail
      (((s.wr Graph.STATE g 4).wr Graph.ERROR g err).wr Graph.ERR_NODE g node).raise Ev.GRAPH_FAILED g (toSlot own) (err + 65536 * node)
    | (.ok p, s) =>
      let s := (s.graphUpd g (fun x => { x with compiled := some p })).wr Graph.CYCLES g p.cycles |>.wr Graph.PAIRS g p.pairs.length
      let s : State := (numberedPairs (p.pairs.take 256)).foldl (fun s r =>
        let e := 256 * g + r.1
        ((((s.wr Lat.FROM e r.2.1).wr Lat.TO e r.2.2.1).wr Lat.MIN e r.2.2.2.1).wr Lat.MAX e r.2.2.2.2.1).wr Lat.DOMAIN e r.2.2.2.2.2) s
      (((s.wr Graph.ERROR g 0).wr Graph.ERR_NODE g 0).wr Graph.STATE g 3).raise Ev.GRAPH_COMPILED g (toSlot own) p.cycles
where numberedPairs (l : List (Nat × Nat × Nat × Nat × Nat)) : List (Nat × Nat × Nat × Nat × Nat × Nat) := (List.range l.length).zip l

/-- RUN (R217). -/
def graphRun (g : Nat) (s : State) : Except Status State :=
  match s.rd Graph.STATE g == 3, (s.graphX g).compiled with
  | true, some p =>
    let s := (s.stopRunning g (some p) p.cycles).graphUpd g (fun x => { x with compiled := none, blob := [] })
    .ok (((s.wr Graph.STATE g 0).wr Graph.BLOB_LEN g 0).wr Graph.RUNNING g 1)
  | _, _ => .error .eState

/-- STOP (R217). Without a running program it fails with E_STATE. -/
def graphStop (g : Nat) (s : State) : Except Status State :=
  if !s.on Graph.RUNNING g then .error .eState
  else .ok (((s.stopRunning g none 0).wr Graph.RUNNING g 0).graphFree g)

/-- DELETE: the graph stops and both its sides are freed. A graph that is not in use fails with E_STATE. -/
def graphDelete (g : Nat) (s : State) : Except Status State :=
  if !s.graphOwned g then .error .eState
  else
    let s := if s.on Graph.RUNNING g then (s.stopRunning g none 0).wr Graph.RUNNING g 0 else s
    .ok (((s.discardCompiled g).wr Graph.STATE g 0).graphFree g)

/-- A write to an object of 0x3120. -/
def graphWrite (h col g v : Nat) (blob : Bytes) (s : State) : Except Status State :=
  if col = Graph.BLOB then graphBlob h g blob s
  else match v with
    | 1 => graphCompile g s
    | 2 => graphRun g s
    | 3 => graphStop g s
    | 4 => graphDelete g s
    | _ => .error .eRange

/-! A running program (R214, R217, R219). -/

/-- Programs that RUN or STOP has chosen come into force; nodes that are the same in both keep their state (R217). -/
def GraphX.switch (x : GraphX) : GraphX :=
  match x.next with
  | none => x
  | some p =>
    let old := progNodes x.running
    let kept := (List.range (progNodes p).length).filter (fun i => (progNodes p)[i]? == old[i]?)
    { x with
      running := p
      next := none
      kept := kept
      ends := []
      nodes := match p with | some q => q.takeOver x.running kept x.nodes | none => [] }

/-- The programs of block k: charges of those that ended are released. -/
def State.graphSwitch (s : State) : State :=
  let s : State := s.aud.graphs.foldl (fun s r => r.2.ends.foldl (fun s e => s.chargeBy e.1 .dsp (-(e.2 : Int))) s) s
  { s with aud := { s.aud with graphs := s.aud.graphs.map (fun r => (r.1, r.2.switch)) } }

/-- The audio sources that LEG_SRC nodes of running programs decode, with their nodes' domains. -/
def State.legSrcs (s : State) : List (Nat × Nat) :=
  (s.aud.graphs.flatMap (fun r => progNodes r.2.running)).filterMap (fun n =>
    if n.ty = 0x01 && s.rd Src.STATE n.p1 = 1 && !s.on Src.E2E n.p1 then some (n.p1, n.dom) else none)

/-- The work items of a program's custom nodes in block k, in the order of the program (R264, R219). -/
def State.customItems (s : State) (g k : Nat) (p : Prog) (l : List (Nat × Bundle)) : State :=
  l.foldl (fun s r => match p.nodes[r.1]? with
    | some n => s.customItem g r.1 k n (customCode p.nodes p.code n) r.2
    | none => s) s

/-- Block k of every running graph. `port` gives the samples of an input slot. -/
def State.graphBlock (s : State) (k : Nat) (port : Nat → Nat → List Int) : State :=
  s.aud.graphs.foldl (fun s r => match r.2.running with
    | none => s
    | some p =>
      let e : BlockEnv := {
        k := k
        src := fun src want => let d := s.codecDom src want; (d, s.decoded k src d)
        port := port
        conf := fun c => (Tbl.get {} (s.confX c).outs whoConf).now
        duck := s.duckIn k
        ann := s.annIn k }
      let q := p.block e r.2.nodes
      (s.graphUpd r.1 (fun x => { x with nodes := q.2.1 })).customItems r.1 k p q.2.2) s

/-- A packet of a device-produced audio source, committed and fanned out. -/
def State.graphPacket (s : State) (src cfg k : Nat) (payload : Bytes) : State :=
  let ms := s.rd ACfg.FRAME_MS cfg
  let x := s.srcX src
  let p : PktX := {
    src := src
    ssrc := s.rd Src.SSRC src
    seq := x.outSeq
    ts := rtpAudio (rtpRate (s.rd ACfg.CODEC cfg)) ((k + 1 - ms) * 1000000) x.rtpOffset
    pt := s.rd Src.PT src
    marker := false
    csrcs := 0
    payLen := payload.length
    payload := payload
    exts := []
    level := none
    tag := none
    colour := 0
    atNs := s.ns
    cn := false }
  let m := s.fwd.nextPkt
  let s := s.srcUpd src (fun y => { y with outSeq := y.outSeq + 1 })
  let s := { s with fwd := { s.fwd with store := s.fwd.store ++ [(m, p)], nextPkt := m + 1 } }
  s.fanOut m p

/-- The frame of an SRC_OUT node that ends with block k: coded, and sent by its source. -/
def State.srcOutFrame (s : State) (g i k : Nat) (n : GNode) : State :=
  let cfg := n.p0
  if !frameEnds k (s.rd ACfg.FRAME_MS cfg) then s
  else
    let st := Tbl.get {} (s.graphX g).nodes i
    let xs := lastN (s.rd ACfg.FRAME_MS cfg * domBlock n.dom) st.out
    let bytes := s.codedBytes cfg st.enc xs
    let s := s.graphUpd g (fun x => { x with
      nodes := Tbl.upd {} x.nodes i (fun y => { y with out := [], enc := Config.codedState (s.codecKey cfg) st.enc xs }) })
    if s.rd Src.STATE n.p1 = 1 then s.graphPacket n.p1 cfg k bytes else s

def State.graphFrames (s : State) (k : Nat) : State :=
  s.aud.graphs.foldl (fun s r =>
    ((progNodes r.2.running).zipIdx.filter (fun n => n.1.ty == 0x0B)).foldl (fun s n => s.srcOutFrame r.1 n.2 k n.1) s) s

/-- What the running graphs put out for a port slot in the block, and whether its path ramp flag is set. -/
def State.slotOut (s : State) (q slot : Nat) : Option (List Int × Bool) :=
  (s.aud.graphs.flatMap (fun r => (progNodes r.2.running).zipIdx.filterMap (fun n =>
    if n.1.ty = 0x0A && n.1.p0 = q && n.1.p1 = slot then some ((Tbl.get {} r.2.nodes n.2).out, bitOf n.1.p2 0) else none))).head?

/-! The commands. -/

def execGraphBlob (h g : Nat) (bytes : Bytes) (s : State) : Out :=
  live (hostWriteOp h { col := Graph.BLOB, el := g, val := 0, blob := bytes } (graphBlob h g bytes)) s

def execCompile (h g : Nat) (s : State) : Out := live (hostWrite h Graph.CMD g 1 (graphCompile g)) s

def execCompileDone (g : Fin 1024) (s : State) : Out := live (compileDone g) s

def execRun (h g : Nat) (s : State) : Out := live (hostWrite h Graph.CMD g 2 (graphRun g)) s

def execStop (h g : Nat) (s : State) : Out := live (hostWrite h Graph.CMD g 3 (graphStop g)) s

def execGraphDelete (h g : Nat) (s : State) : Out := live (hostWrite h Graph.CMD g 4 (graphDelete g)) s

end Sys2Proof.Machine
end

