-- ==== Sys2Proof/Machine/Ports.lean ====
section
/-! DEFINITION. Serial audio and AES3 ports (chapter 10, R223 to R246): port states, frames, slot masks, samples and their
rings, clock faults, the ASRC, AES3 frames and channel status, and clock outputs. A port is named 0-15 for SAPn, 16-23 for
AESIa, 24-31 for AESOa; the clock outputs of group g stand at 32 + g. -/

namespace Sys2Proof.Machine

def State.portX (s : State) (p : Nat) : PortX := Tbl.get {} s.ports p
def State.portUpd (s : State) (p : Nat) (f : PortX → PortX) : State := { s with ports := Tbl.upd {} s.ports p f }

/-! Which objects are a port's. -/

def isSap (p : Nat) : Bool := p < 16
def isAesi (p : Nat) : Bool := 16 ≤ p && p < 24
/-- The port's element, and its index q among ASRCs and slot grants. -/
def portEl (p : Nat) : Nat := if p < 16 then p else (p - 16) % 8
def portQ (p : Nat) : Nat := if p < 24 then p else p - 8
def enableCol (p : Nat) : Nat := if isSap p then Sap.ENABLE else if isAesi p then Aesi.ENABLE else Aeso.ENABLE
def stateCol (p : Nat) : Nat := if isSap p then Sap.STATE else if isAesi p then Aesi.STATE else Aeso.STATE
def State.portState (s : State) (p : Nat) : Nat := s.rd (stateCol p) (portEl p)
def State.setPort (s : State) (p st : Nat) : State := s.wr (stateCol p) (portEl p) st

/-- Is the port clocked from its pins: a slave SAP or an AES3 input? -/
def State.slave (s : State) (p : Nat) : Bool := if isSap p then s.rd Sap.ROLE p == 1 else isAesi p

/-- Frames per second of a RATE. -/
def rateHz (r : Nat) : Nat := match r with | 0 => 44100 | 1 => 48000 | _ => 96000
def State.portRate (s : State) (p : Nat) : Nat := if isSap p then s.rd Sap.RATE p else s.rd Aeso.RATE (portEl p)
def State.preroll (s : State) (p : Nat) : Nat := if isSap p then s.rd Sap.PREROLL p else s.rd Aeso.PREROLL (portEl p)
def State.postroll (s : State) (p : Nat) : Nat := if isSap p then s.rd Sap.POSTROLL p else s.rd Aeso.POSTROLL (portEl p)

/-! Frames (R227). -/

/-- The first frame of a rate's grid that starts at or after local time t (2^-16 ns), and the latest at or before it. Frame
m starts at m * 10^9 / f ns, rounded to the clock's 0.625 ns step. -/
def frameStart (f m : Nat) : Nat := (2 * (m * 1600000000) + f) / (2 * f) * 40960
def frameNow (f t : Nat) : Nat :=
  let m := t * f / secU + 1
  if frameStart f m ≤ t then m else if frameStart f (m - 1) ≤ t then m - 1 else m - 2
def frameFrom (f t : Nat) : Nat := let m := frameNow f t; if frameStart f m = t then m else m + 1

/-- The port's frame count: a master's from local time, a slave's as its pins have counted it. -/
def State.frameOf (s : State) (p frame : Nat) : Nat := if s.slave p then frame else frameNow (rateHz (s.portRate p)) s.clk - (s.portX p).m0

/-- Has the port's first frame begun: a master's on its grid, a slave's at a frame start on its pins? -/
def State.framesRun (s : State) (p : Nat) : Bool :=
  if s.slave p then (s.portX p).inFrame || 0 < (s.portX p).frames else (s.portX p).m0 ≤ frameNow (rateHz (s.portRate p)) s.clk

/-- STATE as it reads (Table 10.6): a master turns PREROLL at the start of frame 0, and POSTROLL begins at a frame start. -/
def State.portShown (s : State) (p frame : Nat) : Nat :=
  let st := s.portState p
  if st = 2 && !s.framesRun p then 0
  else if st = 4 && s.frameOf p frame < (s.portX p).postAt then (s.portX p).was
  else st

/-- The levels of a serial port's pins where it sends no frames (Tables 10.5 and 10.7): a master's BCLK low and FS inactive; DOUT
low, or in OFF with TIMING [4] high-impedance. -/
def State.sapLevels (s : State) (n : Nat) : Option (Bool × Bool) × Option Bool :=
  let tm := s.rd Sap.TIMING n
  (if s.rd Sap.ROLE n = 1 then none else some (false, (s.rd Sap.FORMAT n == 0) != bitOf tm 1),
    if s.portState n = 0 && bitOf tm 4 then none else some false)
def State.showLevels (s : State) (p : Nat) : State :=
  if isSap p then s.emit (.sapLevels p (s.sapLevels p).1 (s.sapLevels p).2) else s

/-- FRAME takes the count. -/
def State.setFrame (s : State) (p n : Nat) : State :=
  if isSap p then s.wr Sap.FRAME p (n % 2 ^ 32) else if isAesi p then s else s.wr Aeso.FRAME (portEl p) (n % 2 ^ 32)
def State.setMaskFrame (s : State) (p n : Nat) : State :=
  if isSap p then s.wr Sap.MASK_FRAME p (n % 2 ^ 32) else if isAesi p then s else s.wr Aeso.MASK_FRAME (portEl p) (n % 2 ^ 32)

/-- The masks as committed. -/
def State.maskRx (s : State) (p : Nat) : Nat := if isSap p then s.rd Sap.RX_MASK p else if isAesi p then s.rd Aesi.RX_MASK (portEl p) else 0
def State.maskTx (s : State) (p : Nat) : Nat := if isSap p then s.rd Sap.TX_MASK p else if isAesi p then 0 else s.rd Aeso.TX_MASK (portEl p)

/-- What stands in force at the port from instant t (2^-16 ns) on. -/
def State.portMark (s : State) (p t : Nat) : State :=
  let aeso : Bool := 24 ≤ p && p < 32
  let a := s.rd Aeso.CS_A (portEl p)
  let seg : SegX := {
    at_ := t
    st := s.portState p
    rx := (s.portX p).rx
    tx := (s.portX p).tx
    csA := if aeso then a else 0
    csB := if !aeso then 0 else if s.on Aeso.CS_LINK (portEl p) then a else s.rd Aeso.CS_B (portEl p)
    user := if aeso then s.rd Aeso.U_OUT (portEl p) else 0 }
  s.portUpd p (fun x => { x with segs := seg :: x.segs })

/-- The instant at which frame n of a port starts: on a master's grid; at a slave, now. -/
def State.frameAt (s : State) (p n : Nat) : Nat :=
  if s.slave p then s.clk else frameStart (rateHz (s.portRate p)) ((s.portX p).m0 + n)

/-- The committed masks come into force at a frame. -/
def State.maskForce (s : State) (p frame : Nat) : State :=
  let t := (s.portUpd p (fun x => { x with rx := s.maskRx p, tx := s.maskTx p, maskPend := false })).setMaskFrame p frame
  if s.portState p = 0 then t else t.portMark p (s.frameAt p frame)

/-! The ASRC (R241, R242). -/

/-- RATIO of a frame rate. -/
def ratioOf (hz : Nat) : Nat := hz * 2 ^ 24 / 48000
/-- Is a ratio within 0.5 to 2.0? -/
def ratioOk (r : Nat) : Bool := 0x00800000 ≤ r && r ≤ 0x02000000

/-- The objects of element q show the ASRC of its port; AESIa and AESOa share one, which is the output's where it alone runs
(log 215). -/
def State.asrcShow (s : State) (q : Nat) : State :=
  let p := if 16 ≤ q && s.portState q == 0 && s.portState (q + 8) != 0 then q + 8 else q
  let x := s.portX p
  ((s.wr Asrc.STATE q x.asrc).wr Asrc.RATIO q x.ratio).wr Asrc.DELAY q x.delay

/-- The ASRC of a port takes a state. -/
def State.asrcSet (s : State) (p st : Nat) : State := (s.portUpd p (fun x => { x with asrc := st })).asrcShow (portQ p)

/-- It locks, or stands, at a ratio with its delay in 1/16 samples. -/
def State.asrcAt (s : State) (p st ratio delay : Nat) : State :=
  (s.portUpd p (fun x => { x with asrc := st, ratio := ratio, delay := delay })).asrcShow (portQ p)

/-- A delay of 48 ± 2 samples, in 1/16 samples (R242). -/
def State.asrcDelay (s : State) : Nat × State := let (d, s) := s.draw 7; (736 + d % 65, s)

/-- Ratios measured from the latest frame starts, newest first: one for each frame period (R242). -/
def periodRatio (d : Nat) : Nat := if d = 0 then 0 else 1000000000 * 65536 * 2 ^ 24 / (48000 * d)
def PortX.rates (x : PortX) : List Nat := (x.starts.zip (x.starts.drop 1)).map (fun p => periodRatio (p.1 - p.2))

/-- The ratio over the latest 8 frame periods. -/
def PortX.ratio8 (x : PortX) : Nat :=
  match x.starts[0]?, x.starts[8]? with | some a, some b => 8 * 1000000000 * 65536 * 2 ^ 24 / (48000 * (a - b)) | _, _ => 0

/-- Has the estimate varied by less than ±20 ppm over 10 ms? -/
def PortX.steady (x : PortX) : Bool :=
  x.ests.length == 10 && x.ests.all (fun e => decide (((e : Int) - x.ests.headD 0).natAbs * 1000000 < 20 * x.ests.headD 0))

/-- The frames of a block are measured: their starts, and the ratio from the latest start before them to their last. -/
def PortX.measure (x : PortX) (starts : List Nat) : PortX :=
  let ests := match x.starts.head?, starts.getLast? with
    | some a, some b => if a < b then (starts.length * 1000000000 * 65536 * 2 ^ 24 / (48000 * (b - a)) :: x.ests).take 10 else []
    | _, _ => []
  { x with starts := (starts.reverse ++ x.starts).take 9, ests := ests }

/-- A port turns OFF. -/
def State.portOff (s : State) (p t : Nat) : State :=
  (((s.setPort p 0).asrcSet p 0).portMark p t).showLevels p

/-- A port that starts has counted no frame and holds no samples. -/
def PortX.fresh (x : PortX) : PortX :=
  { x with
    lastTx := 0, ups := [], runUp := 64, fade := none, prevIn := [], inHist := [], inRing := [], outRing := []
    lateRep := 0, lastOut := [], cs := none, frames := 0, histAt := [], preAt := 0, pins := [], fsWas := none, inFrame := false
    starts := [], ests := [], spaced := 0, inBlock := none, blocks := [] }

/-- The index of the present instant on the 48 kHz grid (Table 3.12). -/
def State.grid48 (s : State) : Nat := s.ns * 48 / 1000000

/-! Enable and disable (R233, R245). -/

/-- ENABLE = 1. -/
def portEnable (p : Nat) (s : State) : Except Status State :=
  match s.portState p with
  | 4 => .error .eBusy
  | 0 =>
    if (!s.slave p && !s.on Clk.TIME_VALID 0) || !s.hbmUp then .error .eState
    else
      let s := s.wr (enableCol p) (portEl p) 1
      let s := s.demand audPart
      let s := ((s.setFrame p 0).portUpd p PortX.fresh).maskForce p 0
      if s.slave p then
        .ok ((((s.setPort p 1).asrcSet p 1).portUpd p (fun x => { x with
          fromOff := true, acqAt := s.phys, rangeHeld := false })).portMark p s.clk)
      else
        let hz := rateHz (s.portRate p)
        let s := s.portUpd p (fun x => { x with m0 := frameFrom hz (s.clk + 60 * usU) })
        let s := (s.setPort p 2).portMark p s.clk
        if hz = 48000 then .ok (s.asrcAt p 4 (ratioOf hz) 0)
        else
          let (d, s) := s.asrcDelay
          .ok (s.asrcAt p 2 (ratioOf hz) d)
  | _ => .ok s

/-- ENABLE = 0; `frame` is a slave's present frame. -/
def portDisable (p frame : Nat) (s : State) : Except Status State :=
  let st := s.portState p
  let s := s.wr (enableCol p) (portEl p) 0
  if st = 0 || st = 4 then .ok s
  else if st = 1 || st = 5 || isAesi p || (!s.slave p && !s.framesRun p) then .ok (s.portOff p s.clk)
  else
    let n := if s.framesRun p then s.frameOf p frame + 1 else 0
    .ok (((s.setPort p 4).portUpd p (fun x => { x with postAt := n, was := st })).portMark p (s.frameAt p n))

/-- PREROLL_END: the next frame is the first data frame. -/
def prerollEnd (p frame : Nat) (s : State) : State :=
  let n := s.frameOf p frame
  let m := (s.portX p).preAt + s.preroll p
  if s.portState p = 2 && s.framesRun p && m ≤ n then
    ((s.setFrame p n).setPort p 3).portMark p (s.frameAt p m)
  else s

/-- POSTROLL_END: the clocks stop. -/
def postrollEnd (p frame : Nat) (s : State) : State :=
  let n := s.frameOf p frame
  if s.portState p = 4 && s.framesRun p && (s.portX p).postAt + s.postroll p ≤ n then
    (s.setFrame p n).portOff p (s.frameAt p ((s.portX p).postAt + s.postroll p))
  else s

/-! Slot masks (R234, R235). -/

/-- A mask write is committed: at once where the port is OFF, else at the next frame start. -/
def State.maskCommit (s : State) (p frame : Nat) : State :=
  if s.portState p = 0 then s.maskForce p 0
  else s.portUpd p (fun x => { x with maskPend := true, maskAt := if s.framesRun p then s.frameOf p frame + 1 else 0 })

/-- MASK_APPLY: a frame start after the commit. `frame` is a slave's frame. -/
def maskApply (p frame : Nat) (s : State) : State :=
  let x := s.portX p
  let n := s.frameOf p frame
  if !x.maskPend || s.portState p = 0 || s.portState p = 5 || !s.framesRun p || n < x.maskAt then s
  else s.maskForce p (if s.slave p then n else x.maskAt)

/-! Clock faults (R243, R244). -/

/-- The event of a port goes to the PLATFORM host, who alone configures ports. -/
def State.portEvent (s : State) (code p args : Nat) : State := s.raise code (portQ p) toPlatform args

/-- AUD_ASRC_LOCKED: the ratio measured stands steady within 0.5 to 2.0. A pre-roll begins here. -/
def asrcLocked (p : Nat) (s : State) : State :=
  let q := portQ p
  let x := s.portX p
  let ratio := x.ests.headD 0
  if !s.slave p || !(x.asrc == 1 || x.asrc == 3) || !x.steady || !ratioOk ratio then s
  else
    let (delay, s) := s.asrcDelay
    let s := s.asrcAt p 2 ratio delay
    let s := s.wr Asrc.LOCK_MS q (min 65535 (s.since x.acqAt / cycMs))
    let s := (s.portUpd p (fun y => { y with rangeHeld := false, preAt := y.frames })).portEvent Ev.AUD_ASRC_LOCKED p ratio
    if s.portState p ≠ 1 then s
    else if x.fromOff then (s.setPort p (if isAesi p then 3 else 2)).portMark p s.clk
    else
      (((s.setPort p 3).portUpd p (fun y => { y with
        runUp := 0, fade := y.fade.map (fun f => (f.1, some s.grid48)) })).portMark p s.clk).portEvent Ev.AUD_CLOCK_RESTORED p x.lossMs

/-- AUD_CLOCK_LOST: no frame start for 2 frame periods. -/
def clockLost (p : Nat) (s : State) : State :=
  if !s.slave p || s.portState p ≠ 3 then s
  else
    let s := ((s.setPort p 5).portUpd p (fun x => { x with
      lostAt := s.phys, fade := some (s.grid48, none), pins := [], fsWas := none, inFrame := false, starts := [], ests := []
      spaced := 0 })).portMark p s.clk
    let s := s.showLevels p
    let s := if isSap p then s.bump Sap.CLK_LOST p else s.bump Aesi.CLK_LOST (portEl p)
    s.portEvent Ev.AUD_CLOCK_LOST p 0

/-- AUD_CLOCK_RESTORED: the first frame start after CLOCK_LOST begins ACQUIRE; a mask committed meanwhile applies there. -/
def clockRestored (p frame : Nat) (s : State) : State :=
  if s.portState p ≠ 5 then s
  else
    let s := ((s.setPort p 1).asrcSet p 1).portUpd p (fun x => { x with
      fromOff := false, acqAt := s.phys, lossMs := s.since x.lostAt / cycMs })
    let s := (s.setFrame p frame).portMark p s.clk
    if (s.portX p).maskPend then s.maskForce p frame else s

/-- AUD_FS_ERR: a frame ends `off` bit clocks away from its length. -/
def fsErr (p : Nat) (off : Int) (s : State) : State :=
  if !s.slave p || s.portState p ≠ 3 || off.natAbs ≤ 1 then s
  else
    let s := if isSap p then s.bump Sap.FS_ERR p else s.bump Aesi.FS_ERR (portEl p)
    let due := match (s.portX p).fsAt with | some c => decide (cycS ≤ s.since c) | none => true
    if due then (s.portUpd p (fun x => { x with fsAt := some s.phys })).portEvent Ev.AUD_FS_ERR p 0 else s

/-- The rate moved by more than 2 %: inputs fade, outputs send zero, ACQUIRE. -/
def State.rateMute (s : State) (p : Nat) : State :=
  let q := portQ p
  (((((s.setPort p 1).asrcSet p 3).bump Asrc.MUTES q).bump Asrc.RELOCKS q).portUpd p (fun x => { x with
    ests := [], fromOff := false, acqAt := s.phys, lostAt := s.phys, lossMs := 0, fade := some (s.grid48, none) })).portMark p s.clk

/-- Does a ratio lie outside ±200 ppm of the locked one? -/
def PortX.moved (x : PortX) (r : Nat) : Bool := decide (200 * x.ratio < ((r : Int) - x.ratio).natAbs * 1000000)

/-- AUD_ASRC_RELOCK: the ratio has stood outside ±200 ppm of the locked one for 8 frames. -/
def asrcRelock (p : Nat) (s : State) : State :=
  let q := portQ p
  let x := s.portX p
  let ratio := x.ratio8
  let old := x.ratio
  let d := ((ratio : Int) - old).natAbs
  if !s.slave p || s.portState p ≠ 3 || x.asrc ≠ 2 || x.rates.length ≠ 8 || !x.rates.all x.moved || !ratioOk ratio then s
  else if d * 100 ≤ 2 * old then
    (((s.asrcSet p 1).bump Asrc.RELOCKS q).portUpd p (fun x => { x with acqAt := s.phys, ests := [] })).portEvent
      Ev.AUD_ASRC_RELOCK p ratio
  else (s.rateMute p).portEvent Ev.AUD_ASRC_RELOCK p (ratio + 2 ^ 32)

/-- AUD_RATE_RANGE: a measured ratio outside 0.5 to 2.0. -/
def rateRange (p : Nat) (s : State) : State :=
  let st := s.portState p
  let ratio := (s.portX p).rates.headD (2 ^ 24)
  if !s.slave p || !(st == 1 || st == 3) || ratioOk ratio then s
  else
    let s := if st = 3 then s.rateMute p else s
    if (s.portX p).rangeHeld then s
    else (s.portUpd p (fun x => { x with rangeHeld := true })).portEvent Ev.AUD_RATE_RANGE p (ratio % 2 ^ 32)

/-! AES3 channel status (R237 to R239). -/

/-- One bit of the CRCC of AES3: x^8 + x^4 + x^3 + x^2 + 1, least significant bit first. -/
def crccBit (c b : Nat) : Nat := if (c + b) % 2 = 1 then (c / 2) ^^^ 0xB8 else c / 2

/-- The CRCC over bytes, preset to ones. -/
def crcc (bs : Bytes) : Nat :=
  bs.foldl (fun c b => (List.range 8).foldl (fun c i => crccBit c (b.toNat / 2 ^ i % 2)) c) 0xFF

/-- Does a channel status pass: professional formats carry a CRCC over bytes 0 to 22 in byte 23? -/
def csOk (cs : Nat) : Bool :=
  let bs := natLE 24 cs
  byteAt bs 0 % 2 == 0 || crcc (bs.take 23) == byteAt bs 23

/-- One channel of a complete block that passes: 0 A, 1 B. -/
def State.aesChannel (s : State) (a ch cs u : Nat) : State :=
  let csCol := if ch = 0 then Aesi.CS_A else Aesi.CS_B
  let uCol := if ch = 0 then Aesi.U_A else Aesi.U_B
  let old := s.rd csCol a
  let s := (s.wr csCol a cs).wr uCol a u
  let due := match (s.portX (16 + a)).csAt with | some c => decide (cycS ≤ s.since c) | none => true
  if old ≠ cs && due then
    (s.portUpd (16 + a) (fun x => { x with csAt := some s.phys })).raise Ev.AES_CS_CHANGED a toPlatform ch
  else s

/-- AES_BLOCK_RX: the oldest block of an enabled input that has ended, complete or broken by a misplaced Z preamble. A block of which
a channel fails its CRCC is counted once and not latched. -/
def aesBlock (a : Nat) (s : State) : State :=
  if s.portState (16 + a) = 0 then s
  else match (s.portX (16 + a)).blocks with
    | [] => s
    | b :: rest =>
      let s := s.portUpd (16 + a) (fun x => { x with blocks := rest })
      match b with
      | none => s.bump Aesi.BLOCK_ERR a
      | some (csA, csB, uA, uB) =>
        let s := s.bump Aesi.BLOCKS a
        if csOk csA && csOk csB then (s.aesChannel a 0 csA uA).aesChannel a 1 csB uB else s.bump Aesi.CS_CRC_ERR a

/-! Bits and samples of a serial audio frame (R224, R226). -/

/-- The n low bits of a number, most significant first, and the number of such bits. -/
def msbBits (n v : Nat) : List Bool := (List.range n).map (fun i => bitOf v (n - 1 - i))
def msbNat (l : List Bool) : Nat := l.foldl (fun a b => 2 * a + b.toNat) 0

/-- The bit clocks between the FS edge and the first data bit (Table 10.2). -/
def State.dataDelay (s : State) (n : Nat) : Nat :=
  match s.rd Sap.FORMAT n with | 0 => 1 | 1 => 0 | _ => s.rd Sap.TIMING n % 2

/-- FS at each bit clock of a frame (Table 10.2). -/
def State.fsLevels (s : State) (n : Nat) : List Bool :=
  let sb := s.rd Sap.SLOT_BITS n
  let tm := s.rd Sap.TIMING n
  (List.range (s.rd Sap.SLOTS n * sb)).map (fun i =>
    let high : Bool := match s.rd Sap.FORMAT n with
      | 0 => sb ≤ i
      | 1 => i < sb
      | _ => i < (if bitOf tm 3 then sb else 1)
    high != bitOf tm 1)

/-- The sample that a slot's bits carry, and the bits that carry a sample. -/
def State.slotSample (s : State) (n : Nat) (bits : List Bool) : Int :=
  let v := msbNat (bits.take (s.rd Sap.SAMPLE_BITS n))
  match s.rd Sap.SAMPLE_BITS n with
  | 16 => toInt 16 v * 256
  | 24 => toInt 24 v
  | _ => toInt 32 v / 256
def State.slotBits (s : State) (n : Nat) (x : Int) : List Bool :=
  let b := s.rd Sap.SAMPLE_BITS n
  let v := match b with | 16 => ofInt 16 (round16 x) | 24 => ofInt 24 x | _ => ofInt 24 x * 256
  msbBits (s.rd Sap.SLOT_BITS n) (v * 2 ^ (s.rd Sap.SLOT_BITS n - b))

/-- The slots of a received frame: DIN is sampled on the rising edge, or with TIMING [2] on the falling one; a missing bit
reads 0. -/
def State.sapIn (s : State) (n : Nat) (f : PinFrame) : List Int :=
  let sb := s.rd Sap.SLOT_BITS n
  let bits := f.din.map (fun b => if bitOf (s.rd Sap.TIMING n) 2 then b.2 else b.1)
  (List.range (s.rd Sap.SLOTS n)).map (fun i =>
    s.slotSample n ((List.range sb).map (fun b => bits.getD (s.dataDelay n + i * sb + b) false)))

/-! AES3 subframes (R237, R239, R240): time slots 4 to 31 as bits 0 to 27. -/

def oddBits (n v : Nat) : Bool := ((List.range n).filter (fun i => bitOf v i)).length % 2 == 1

/-- The sample of a received subframe: the previous one on a parity error; zero with the validity bit under VALID_MODE 1. -/
def subSample (mode : Nat) (prev : Int) (w : Nat) : Int :=
  if oddBits 28 w then prev else if bitOf w 24 && mode == 1 then 0 else toInt 24 w
/-- Subframes of a frame that fail parity, and samples with the validity bit set among the others (R239). -/
def subsBad (f : PinFrame) : Nat := (oddBits 28 f.a).toNat + (oddBits 28 f.b).toNat
def subsInvalid (f : PinFrame) : Nat :=
  (!oddBits 28 f.a && bitOf f.a 24).toNat + (!oddBits 28 f.b && bitOf f.b 24).toNat

/-- A frame's channel status and user bits are gathered. A Z preamble ends the block before it: complete where 192 frames have
come since the last one, else broken (R237, R238). -/
def PortX.gather (x : PortX) (f : PinFrame) : PortX :=
  let x := if !f.z then x else { x with
    blocks := match x.inBlock with
      | none => x.blocks
      | some n => x.blocks ++ [if n = 192 then some x.csNow else none]
    inBlock := some 0
    csNow := (0, 0, 0, 0) }
  match x.inBlock with
  | none => x
  | some n =>
    let bit (w i : Nat) : Nat := if n < 192 then (bitOf w i).toNat * 2 ^ n else 0
    let (ca, cb, ua, ub) := x.csNow
    { x with
      inBlock := some (n + 1)
      csNow := (ca + bit f.a 26, cb + bit f.b 26, ua + bit f.a 25, ub + bit f.b 25) }

/-- A frame at an AES3 input: the input locks after 3 consecutive frames with correct preamble spacing (R237), and from then on its
frames count. -/
def State.aesFrameIn (s : State) (p : Nat) (f : PinFrame) : State :=
  let s := s.portUpd p (fun x => { x with spaced := if f.off = 0 then min 3 (x.spaced + 1) else if 1 < f.off.natAbs then 0 else x.spaced })
  if (s.portX p).spaced < 3 then s
  else ((s.portUpd p (fun x => x.gather f)).bump Aesi.PARITY_ERR (portEl p) (subsBad f)).bump Aesi.INVALID (portEl p) (subsInvalid f)

/-- A subframe to send: the sample, validity, user and channel status bits, and even parity. -/
def subFrame (x : Int) (v u c : Bool) : Nat :=
  let w := ofInt 24 x + 2 ^ 24 * v.toNat + 2 ^ 25 * u.toNat + 2 ^ 26 * c.toNat
  w + 2 ^ 27 * (oddBits 27 w).toNat

/-- A channel status as it is sent: in the professional format byte 23 is the CRCC. -/
def withCrcc (cs : Nat) : Nat :=
  let bs := natLE 24 cs
  if byteAt bs 0 % 2 = 1 then leNat (bs.take 23) + 2 ^ 184 * crcc (bs.take 23) else cs

/-! The rings (R230, Table 10.3). -/

def packSample (pack : Nat) (x : Int) : Bytes :=
  match pack with | 0 => natLE 3 (ofInt 24 x) | 1 => 0 :: natLE 3 (ofInt 24 x) | _ => natLE 4 (ofInt 32 x)
def packSize (pack : Nat) : Nat := if pack = 0 then 3 else 4
/-- Sample i of packed bytes. -/
def unpackSample (pack : Nat) (b : Bytes) (i : Nat) : Int :=
  let o := packSize pack * i
  toInt 24 (match pack with | 1 => leAt b (o + 1) 3 | _ => leAt b o 3)

def State.packOf (s : State) (p : Nat) : Nat := if isSap p then s.rd Sap.PACK p else 1
def State.slotsOf (s : State) (p : Nat) : Nat := if isSap p then s.rd Sap.SLOTS p else 2

/-- Block b of a ring: frames of 48 kHz in order, slots in order within a frame. -/
def State.packBlock (s : State) (p : Nat) (sample : Nat → Nat → Int) : Bytes :=
  ((List.range 48).map (fun j => ((List.range (s.slotsOf p)).map (fun i => packSample (s.packOf p) (sample j i))).flatten)).flatten
/-- Sample j of a slot in a block of a ring; a block that the ring does not hold is zero. -/
def State.ringSample (s : State) (p : Nat) (ring : List (Nat × Bytes)) (b j slot : Nat) : Int :=
  match ring.find? (fun r => r.1 == b) with
  | some r => unpackSample (s.packOf p) r.2 (j * s.slotsOf p + slot)
  | none => 0

/-- What a PORT_IN node reads in block k (R231, R232): port q as P0 of Table 9.8. -/
def State.portIn (s : State) (k q slot : Nat) : List Int :=
  if s.slotsOf q ≤ slot then zeros 48
  else (List.range 48).map (fun j => s.ringSample q (s.portX q).inRing k j slot)

/-! A port's frames over one block (R231, R233 to R235, R240 to R243). -/

/-- Is the port synchronous at 48 kHz, so that its ASRC is bypassed? -/
def State.synchronous (s : State) (p : Nat) : Bool := !s.slave p && rateHz (s.portRate p) == 48000

/-- What is in force at an instant. -/
def PortX.segAt (x : PortX) (t : Nat) : Option SegX := x.segs.find? (fun g => g.at_ ≤ t)

/-- The slots of a received frame, after FS errors, the mask, and the ramp that follows a lost clock. -/
def State.frameIn (s : State) (p : Nat) (x : PortX) (g : SegX) (f : PinFrame) : List Int × List Int :=
  let raw :=
    if 1 < f.off.natAbs && s.slave p then x.prevIn
    else if isSap p then s.sapIn p f
    else if x.spaced < 3 then [0, 0]
    else
      let m := s.rd Aesi.VALID_MODE (portEl p)
      [subSample m (x.prevIn.getD 0 0) f.a, subSample m (x.prevIn.getD 1 0) f.b]
  (raw, raw.zipIdx.map (fun r => if g.st = 3 && bitOf g.rx r.2 then rampTo x.runUp r.1 else 0))

/-- Output slot i in a frame: its sample, ramped after the mask that enabled it (R235). A slot without the path ramp flag
drives zero in the applying frame only. -/
def State.frameOut (s : State) (p i : Nat) (x : PortX) (g : SegX) (y : Int) : Int :=
  if g.st ≠ 3 || !bitOf g.tx i then 0
  else
    let u := Tbl.get 0 x.ups i
    let flag := match s.slotOut (portQ p) i with | some o => o.2 | none => false
    rampTo x.runUp (if flag then rampTo u y else if u = 0 then 0 else y)

/-- Frames since each output slot was enabled: 0 in the applying frame. -/
def PortX.countUps (x : PortX) (tx n : Nat) : PortX :=
  { x with
    lastTx := tx
    ups := (List.range n).foldl (fun t i =>
      Tbl.set 0 t i (if bitOf tx i && bitOf x.lastTx i then min 64 (Tbl.get 0 x.ups i + 1) else 0)) [] }

/-- Does a port have inputs, and outputs? -/
def hasIn (p : Nat) : Bool := p < 24
def hasOut (p : Nat) : Bool := p < 16 || (24 ≤ p && p < 32)

/-- The frame put out at the pins: grid index m of the port's rate, slots `ys`. -/
def State.emitFrame (s : State) (p m : Nat) (g : SegX) (ys : List Int) : State :=
  if isSap p then
    let tm := s.rd Sap.TIMING p
    let bits := (ys.zipIdx.map (fun y =>
      if g.st = 3 && !bitOf g.tx y.2 && bitOf tm 4 then List.replicate (s.rd Sap.SLOT_BITS p) none
      else (s.slotBits p y.1).map some)).flatten
    s.emit (.sapFrame p (if s.slave p then [] else s.fsLevels p) (s.dataDelay p) (!bitOf tm 2) bits)
  else
    let x := s.portX p
    let z := m % 192
    let cs := if z = 0 || x.cs.isNone then (withCrcc g.csA, withCrcc g.csB, g.user) else x.cs.getD (0, 0, 0)
    let s := s.portUpd p (fun y => { y with cs := some cs })
    let sub (i c : Nat) : Nat := subFrame (ys.getD i 0) (g.st != 3 || !bitOf g.tx i) (bitOf cs.2.2 z) (bitOf c z)
    s.emit (.aesFrame (portEl p) (z == 0) (sub 0 cs.1) (sub 1 cs.2.1))

/-- One frame of a port that starts at t with grid index m, in block b: what it receives goes into the row, and what it
sends comes from the ring two blocks before. -/
def State.portFrame (s : State) (p b m t : Nat) (f : PinFrame) : List Int × State :=
  let none_ := (List.replicate (s.slotsOf p) 0, s)
  match (s.portX p).segAt t with
  | none => none_
  | some g =>
    if g.st = 0 || g.st = 5 then none_
    else
      let n := s.slotsOf p
      let s := if isAesi p then s.aesFrameIn p f else s
      let r := if hasIn p then s.frameIn p (s.portX p) g f else ([], [])
      let s := s.portUpd p (fun x => { x.countUps g.tx n with
        prevIn := r.1
        frames := x.frames + 1
        histAt := (t :: x.histAt).take 320
        inHist := if s.synchronous p || !hasIn p then [] else
          (List.range n).foldl (fun h i => Tbl.set [] h i ((r.2.getD i 0 :: Tbl.get [] x.inHist i).take 320)) [] })
      let x := s.portX p
      let y (i : Nat) : Int :=
        if s.synchronous p then s.ringSample p x.outRing (b - 2) (m % 48) i
        else
          let from_ := t * 48 / (1000000 * 65536) - 96 - x.delay / 16 - 16
          toInt 24 (Config.asrc (portQ p) 1 m ((List.range 33).map (fun j =>
            s.ringSample p x.outRing ((from_ + j) / 48) ((from_ + j) % 48) i))).toNat
      let s := if !hasOut p then s else s.emitFrame p m g ((List.range n).map (fun i => s.frameOut p i x g (y i)))
      let s := if g.st = 3 then s.portUpd p (fun x => { x with runUp := min 64 (x.runUp + 1) }) else s
      (r.2, s)

/-- How a faded input stands at an index of the 48 kHz grid: it falls to zero over 1 ms and stays there until it returns. -/
def fadeAt (f : Option (Nat × Option Nat)) (i : Nat) (x : Int) : Int :=
  match f with
  | some (a, e) =>
    if i < a || (match e with | some z => decide (z ≤ i) | none => false) then x
    else if i < a + 48 then quot (x * (48 - (i - a) : Nat)) 48 else 0
  | none => x

/-- FS as a slave samples it, and its level from a frame start on (Table 10.2). -/
def State.fsAt (s : State) (n : Nat) (b : PinBit) : Bool := if bitOf (s.rd Sap.TIMING n) 2 then b.fs.2 else b.fs.1
def State.fsActive (s : State) (n : Nat) : Bool := (s.rd Sap.FORMAT n != 0) != bitOf (s.rd Sap.TIMING n) 1

/-- The frame of a serial port from its bit clocks, with what follows them: data bits may come one bit clock later than the frame
(Table 10.2). -/
def State.sapFrame (s : State) (n : Nat) (bits after : List PinBit) : PinFrame :=
  { start := (bits.headD {}).at_
    off := (bits.length : Int) - (s.rd Sap.SLOTS n * s.rd Sap.SLOT_BITS n : Nat)
    din := (bits ++ after.take (s.dataDelay n)).map (·.din) }

/-- A bit clock at a slave: an active FS edge ends the frame before it and starts another. -/
def State.slaveBit (s : State) (n : Nat) (q : List PinFrame × PortX) (b : PinBit) : List PinFrame × PortX :=
  let x := q.2
  let lev := s.fsAt n b
  if lev == s.fsActive n && x.fsWas == some (!lev) then
    (if x.inFrame then q.1 ++ [s.sapFrame n x.pins.reverse [b]] else q.1, { x with pins := [b], inFrame := true, fsWas := some lev })
  else (q.1, { x with pins := if x.inFrame then b :: x.pins else [], fsWas := some lev })

/-- The frames at a slave's pins in a block, with those bit clocks kept whose frame has not ended. -/
def State.slaveFrames (s : State) (n : Nat) (bits : List PinBit) : List PinFrame × PortX :=
  bits.foldl (s.slaveBit n) ([], s.portX n)

/-- A frame of an AES3 input. -/
def aesPin (f : AesFrame) : PinFrame := { start := f.at_, off := (f.slots : Int) - 64, z := f.z, a := f.a, b := f.b }

/-- How far the input of a rate converter reaches to either side of the instant it is taken at: 16 samples at 48 kHz. -/
abbrev asrcReach : Nat := 16 * 1000000 * 65536 / 48

/-- What a rate converter takes for output index i of the 48 kHz grid: the input around the instant that lies its delay before
(R231, R242). -/
def PortX.asrcWindow (x : PortX) (i slot : Nat) : List Int :=
  let c := (16 * i - x.delay) * 1000000 * 65536 / 768
  ((Tbl.get [] x.inHist slot).zip x.histAt).filterMap (fun h =>
    if c ≤ h.2 + asrcReach && h.2 ≤ c + asrcReach then some h.1 else none)

/-- Block b of a port has passed: its frames, then the block that PORT_IN nodes read in block b + 1. A master's frames are
those of its grid, `bits` in their order; a slave's are those of its pins. -/
def State.portBlock (s : State) (p b : Nat) (bits : List PinBit) (aes : List AesFrame) : State :=
  let hz := rateHz (s.portRate p)
  let t0 := b * 1000000 * 65536
  let m0 := frameFrom hz t0
  let cut := if isAesi p then (aes.map aesPin, s.portX p) else s.slaveFrames p bits
  let had := (s.portX p).frames
  let s := if s.slave p then s.portUpd p (fun _ => cut.2.measure (cut.1.map (·.start))) else s
  let len := s.slotsOf p * s.rd Sap.SLOT_BITS p
  let frames : List (Nat × Nat × PinFrame) :=
    if s.slave p then cut.1.zipIdx.map (fun f => (had + f.2, f.1.start, f.1))
    else (List.range (frameFrom hz (t0 + 1000000 * 65536) - m0)).filterMap (fun i =>
      some (m0 + i, if (s.portX p).m0 ≤ m0 + i then frameStart hz (m0 + i) else 0,
        s.sapFrame p ((bits.drop (len * i)).take len) (bits.drop (len * (i + 1)))))
  let r := frames.foldl (fun (q : List (List Int) × State) f =>
    let u := q.2.portFrame p b f.1 f.2.1 f.2.2
    (q.1 ++ [u.1], u.2)) ([], s)
  let s := r.2
  let x := s.portX p
  let sample (j i : Nat) : Int :=
    if s.synchronous p then (r.1.getD j []).getD i 0
    else fadeAt x.fade (48 * b + j) (toInt 24 (Config.asrc (portQ p) 0 (48 * b + j) (x.asrcWindow (48 * b + j) i)).toNat)
  let old := x.segs.filter (fun g => decide (g.at_ ≤ t0 + 1000000 * 65536))
  s.portUpd p (fun x => { x with
    inRing := if hasIn p then ((b + 1, s.packBlock p sample) :: x.inRing).take 4 else []
    fade := match x.fade with | some (a, some e) => if e ≤ 48 * (b + 1) then none else some (a, some e) | f => f
    segs := if s.portState p = 0 then [] else x.segs.filter (fun g => decide (t0 + 1000000 * 65536 < g.at_)) ++ old.take 1 })

/-- The block that PORT_OUT nodes put out in block k goes into a port's ring; one not published in time is replaced by the
last that was, 6 dB lower for each repeat, and after three by zero (R232). -/
def State.portOut (s : State) (p k : Nat) (late : Bool) : State :=
  let x := s.portX p
  let rep := if late then x.lateRep + 1 else 0
  let good := s.packBlock p (fun j i => match s.slotOut (portQ p) i with | some o => o.1.getD j 0 | none => 0)
  let old := s.packBlock p (fun j i => gainOf (-600 * rep) (unpackSample (s.packOf p) x.lastOut (j * s.slotsOf p + i)))
  let out := if rep = 0 then good else if rep ≤ 3 && x.lastOut != [] then old else s.packBlock p (fun _ _ => 0)
  let s := if !late then s else if p < 16 then s.bump Sap.LATE p else s.bump Aeso.LATE (portEl p)
  s.portUpd p (fun x => { x with
    lateRep := rep, lastOut := if late then x.lastOut else good, outRing := ((k, out) :: x.outRing).take 6 })

/-- The ring of a port in HBM (R230): the 4 latest blocks of a direction, packed, with masked slots 0. A rate converter's own memory
reaches back two more. -/
def State.portRing (s : State) (p : Nat) (out : Bool) : List (Nat × Bytes) :=
  let x := s.portX p
  let mask := if out then x.tx else x.rx
  (if out then x.outRing.take 4 else x.inRing).map (fun r => (r.1, s.packBlock p (fun j i =>
    if bitOf mask i then s.ringSample p [r] r.1 j i else 0)))

/-- Ports that are not OFF. -/
def State.portsOn (s : State) : List Nat := (List.range 32).filter (fun p => s.portState p != 0)

/-- Ports with frames to settle at a block tick: those not OFF, and those that turned OFF within the block. -/
def State.portsLive (s : State) : List Nat := (List.range 32).filter (fun p => s.portState p != 0 || (s.portX p).segs != [])

/-! Clock outputs (R228, Table 10.10). -/

/-- What the objects of a clock output ask for, from an instant on. -/
def State.clockSeg (s : State) (g t : Nat) : SegX :=
  { at_ := t, st := s.rd AClk.MCLK_MODE g, rx := s.rd AClk.RATE g, tx := s.rd AClk.WCLK_ON g }

/-- The levels of MCLKg and WCLKg at an instant of the local clock. A disabled output is low. -/
def State.clockPins (s : State) (g t : Nat) : Bool × Bool :=
  let c := ((s.portX (32 + g)).segAt t).getD (s.clockSeg g 0)
  let f := rateHz c.rx
  let ph := t - frameStart f (frameNow f t)
  let high (mult : Nat) : Bool := 2 * ph * f * mult / secU % 2 == 0
  (c.st != 0 && high (if c.st = 1 then 256 else 512), c.tx == 1 && high 1)

/-- A write to a clock output takes effect at the next frame start of its RATE's grid; until then what was in force stays. -/
def State.clockMark (s old : State) (g : Nat) : State :=
  let f := rateHz (s.rd AClk.RATE g)
  let now := ((s.portX (32 + g)).segAt s.clk).getD (old.clockSeg g 0)
  s.portUpd (32 + g) (fun x => { x with segs := [s.clockSeg g (frameStart f (frameNow f s.clk + 1)), now] })

/-! Writes of chapter 10 that have no row of their own. -/

/-- Is a SAP configuration within R225, its mask bits apart? -/
def State.sapOk (s : State) (n : Nat) : Bool :=
  let slots := s.rd Sap.SLOTS n
  (s.rd Sap.FORMAT n == 2 || slots == 2) && slots * s.rd Sap.SLOT_BITS n * rateHz (s.rd Sap.RATE n) ≤ 49152000 &&
    s.rd Sap.SAMPLE_BITS n ≤ s.rd Sap.SLOT_BITS n

/-- Does a graph of host o, compiled or running, name slot s of port q in a direction: node type 0x02 in, 0x0A out? -/
def State.slotNamed (s : State) (o ty q slot : Nat) : Bool :=
  let names (p : Option Prog) : Bool := match p with
    | some g => g.nodes.any (fun n => n.ty == ty && n.p0 == q && n.p1 == slot) | none => false
  s.aud.graphs.any (fun r => s.rd Graph.OWNER r.1 == o && ((s.rd Graph.STATE r.1 == 3 && names r.2.compiled) ||
    (s.on Graph.RUNNING r.1 && (names r.2.running || (match r.2.next with | some p => names p | none => false)))))

/-- A write to an object of 0x3200 to 0x3250; `frame` is a slave's present frame count as FRAME holds it. -/
def portWrite (col el v : Nat) (s : State) : Except Status State :=
  let t := s.wr col el v
  if col / 256 = Sap.index then
    if col = Sap.RX_MASK || col = Sap.TX_MASK then
      (if 2 ^ s.rd Sap.SLOTS el ≤ v then .error .eRange else .ok (t.maskCommit el (s.rd Sap.FRAME el)))
    else if col = Sap.ENABLE then (if v = 1 then portEnable el s else portDisable el (s.rd Sap.FRAME el) s)
    else guarded [(!t.sapOk el, .eRange), (s.rd Sap.STATE el != 0, .eState)] (.ok t)
  else if col / 256 = SlotOwn.index then
    let q := el / 32
    let ty := if col = SlotOwn.RX_OWNER then 0x02 else 0x0A
    (if v ≠ s.rd col el && s.slotNamed (s.rd col el) ty q (el % 32) then .error .eState else .ok t)
  else if col / 256 = AClk.index then
    (if (col = AClk.WCLK_ON || col = AClk.MCLK_MODE) && v ≠ 0 then
      if !s.on Clk.TIME_VALID 0 then .error .eState else .ok ((t.demand audPart).clockMark s el)
     else .ok (t.clockMark s el))
  else if col / 256 = Aesi.index then
    if col = Aesi.ENABLE then (if v = 1 then portEnable (16 + el) s else portDisable (16 + el) 0 s)
    else if col = Aesi.RX_MASK then .ok (t.maskCommit (16 + el) 0)
    else .ok t
  else
    if col = Aeso.ENABLE then (if v = 1 then portEnable (24 + el) s else portDisable (24 + el) 0 s)
    else if col = Aeso.TX_MASK then .ok (t.maskCommit (24 + el) 0)
    else if col = Aeso.RATE || col = Aeso.PREROLL || col = Aeso.POSTROLL then
      (if s.rd Aeso.STATE el ≠ 0 then .error .eState else .ok t)
    else .ok (if s.rd Aeso.STATE el = 0 then t else t.portMark (24 + el) s.clk)

/-! The commands. -/

def execPortEnable (h : Nat) (port : Fin 32) (s : State) : Out :=
  live (hostWrite h (enableCol port) (portEl port) 1 (portEnable port)) s

def execPortDisableAudio (h : Nat) (port : Fin 32) (frame : Nat) (s : State) : Out :=
  live (hostWrite h (enableCol port) (portEl port) 0 (portDisable port frame)) s

def execPrerollEnd (port : Fin 32) (frame : Nat) (s : State) : Out := live (prerollEnd port frame) s

def execPostrollEnd (port : Fin 32) (frame : Nat) (s : State) : Out := live (postrollEnd port frame) s

def execMaskApply (port : Fin 32) (frame : Nat) (s : State) : Out := live (maskApply port frame) s

def execAudAsrcLocked (port : Fin 32) (s : State) : Out := live (asrcLocked port) s

def execAudClockLost (port : Fin 32) (s : State) : Out := live (clockLost port) s

def execAudClockRestored (port : Fin 32) (frame : Nat) (s : State) : Out := live (clockRestored port frame) s

def execAudFsErr (port : Fin 32) (off : Int) (s : State) : Out := live (fsErr port off) s

def execAudAsrcRelock (port : Fin 32) (s : State) : Out := live (asrcRelock port) s

def execAudRateRange (port : Fin 32) (s : State) : Out := live (rateRange port) s

def execAesBlockRx (a : Fin 8) (s : State) : Out := live (aesBlock a) s

end Sys2Proof.Machine
end

