-- ==== Sys2Proof/Machine/Block.lean ====
section
/-! DEFINITION. An audio block (R26, R27, R34, R76, Table 1.4): at tick k the ports' block k - 1 has passed, the candidates of
block k are latched, and block k is decoded, mixed, run through the route graphs and coded. -/

namespace Sys2Proof.Machine

/-! Power (R34, Table 1.11). -/

/-- The cluster that audio work asks for: the first powered one with a core in service, else the first with one. -/
def State.audioCluster (s : State) : Option Nat :=
  let ok := (List.range 8).filter (fun c => s.rd Clu.IN_SERVICE c != 0)
  (ok.find? (fun c => s.part (cluPart c) == 2 || s.part (cluPart c) == 4)).orElse (fun _ => ok.head?)

/-- Audio work wakes NET, SCHED and a cluster. -/
def State.audioDemand (s : State) : State :=
  match s.audioWork, s.audioCluster with
  | true, some c => ((s.demand netPart).demand (cluPart c)).cluUpd c (fun x => { x with workAt := s.phys })
  | _, _ => s

/-- Is every domain of the audio path powered, or up within 50 µs (R38), in time for the block's deadlines? -/
def State.audioUp (s : State) : Bool :=
  s.hbmUp && s.part netPart != 0 && s.part schedPart != 0 &&
    (List.range 8).any (fun c => s.part (cluPart c) != 0 && s.rd Clu.IN_SERVICE c != 0)

/-! A conference in a block. -/

/-- The start of block k: candidates, modes, and the end of SILENT. -/
def State.confBegin (s : State) (k c : Nat) : State :=
  ((s.candidates c).blockStart c (k % 2 ^ 32)).wakeConf c k

/-- The decoders that run in block k, each by its source and domain: of conferences' candidates and of sources that ramp out of
their mixes, and of LEG_SRC nodes. -/
def State.decodedSrcs (s : State) : List (Nat × Nat) :=
  let confs := (s.elemsWith Conf.STATE 1).flatMap (fun c =>
    ((s.confX c).cand ++ s.rampers c).map (fun a => 4 * a + s.codecDom a (s.rd Mix.MIX_RATE c)))
  (distinct (confs ++ s.legSrcs.map (fun q => 4 * q.1 + s.codecDom q.1 q.2))).map (fun x => (x / 4, x % 4))

/-- A conference's decoded signals, with the bridges' past samples kept. -/
def State.confDecode (s : State) (k c : Nat) : List (Nat × List Int) × State :=
  ((s.confX c).cand ++ s.rampers c).foldl (fun r a =>
    let q := r.2.candSignal k c a
    (r.1 ++ [(a, q.1)], r.2.aSrcUpd a (fun x => { x with hist := q.2 }))) ([], s)

/-- Its mixes: none while it is SILENT, and late where the audio path is not powered. -/
def State.confMix (s : State) (late : List (Nat × Nat)) (up : Bool) (k c : Nat) : State :=
  if s.on Mix.SILENT c then s
  else
    let r := s.confDecode k c
    r.2.mixAll c k r.1 (fun who => !up || late.contains (c, who))

/-- The decoded level of a source in block k, dBFS: none of one that was not decoded. -/
def State.decodedLevel (s : State) (decoded : List (Nat × Nat)) (k a : Nat) : Option Int :=
  (decoded.find? (fun p => p.1 == a)).map (fun p => levelOf (s.decoded k p.1 p.2))

/-- Talkers of the next block (R206), the frames that end with this one, coded where the audio path is powered (R34), and the
count of quiet blocks (R220). -/
def State.confEnd (s : State) (levels : Nat → Int) (up : Bool) (k c : Nat) : State :=
  let s := s.chooseTalkers c k levels
  if s.on Mix.SILENT c then
    (s.audLegs c).foldl (fun s l => if s.rd LegMix.MODE l = 0 then s else s.silentFrame c l k) s
  else (if up then s.frameAll c k else s).countQuiet c

/-- Decoded levels are kept for the next block's loudness (R205); a source not decoded has none. -/
def State.keepLevels (s : State) (levels : Nat → Option Int) : State :=
  (s.elemsWith Src.STATE 1).foldl (fun s a =>
    if s.rd Src.MEDIA a ≠ 0 then s else s.aSrcUpd a (fun x => { x with dec := levels a })) s

/-- Blocks that a forward step passes over are concealed (Table 3.14): no codec frame ends in them, and of those that may lie in
the frame under way, 60 at most, each output gets its samples. -/
def State.concealSkipped (s : State) (k sk c : Nat) : State :=
  let m := min sk 60
  if sk = 0 || s.on Mix.SILENT c then s
  else
    let s := (s.confX c).outs.foldl (fun s r =>
      (s.bump Mix.CONCEALED c (sk - m)).confUpd c (fun y => { y with
        repeats := Tbl.set 0 y.repeats r.1 (Tbl.get 0 y.repeats r.1 + (sk - m)) })) s
    (List.range m).foldl (fun s i => s.mixAll c (k - m + i) [] (fun _ => true)) s

/-! The ports in a block. -/

/-- Masks, pre-rolls and post-rolls of masters that have come due. -/
def State.portsDue (s : State) : State :=
  s.portsOn.foldl (fun s p => if s.slave p then s else postrollEnd p 0 (prerollEnd p 0 (maskApply p 0 s))) s

/-- Block k - 1 at the pins has passed. -/
def State.portsPassed (s : State) (k : Nat) (din : List (Nat × List PinBit)) (aes : List (Nat × List AesFrame)) : State :=
  let s := s.portsDue
  s.portsLive.foldl (fun s p => s.portBlock p (k - 1)
    ((din.find? (fun q => isSap p && q.1 == p)).map (·.2) |>.getD []) ((aes.find? (fun q => isAesi p && q.1 % 8 == portEl p)).map (·.2) |>.getD [])) s

/-- Block k of the PORT_OUT nodes goes to the rings; `late` names ports as P0 of Table 9.8. -/
def State.portsOut (s : State) (k : Nat) (late : List Nat) (up : Bool) : State :=
  (s.portsOn.filter hasOut).foldl (fun s p => s.portOut p k (!up || late.contains (portQ p))) s

/-! The block. -/

/-- AUDIO_BLOCK_TICK: the completion of tick k is posted, candidates are latched and the block runs. `din` holds the bit
clocks of block k - 1 by serial port and `aes` the frames by AES3 input, `late` the mix outputs (conference, output) and `lateOut` the output ports whose block is not complete by its deadline. -/
def audioTick (din : List (Nat × List PinBit)) (aes : List (Nat × List AesFrame)) (late : List (Nat × Nat))
    (lateOut : List Nat) (s : State) : State :=
  if !s.tim.block.due blockGrid s.ns then s
  else
    let k := s.tim.block.next
    let sk := s.tim.block.skipped
    let s := (({ s with tim := { s.tim with block := s.tim.block.post } } : State).postTick 0 k sk).pumpAll
    let s := (s.mixLegs.foldl (fun s l => s.settleLeg l) s).graphSwitch.announceStep k
    let s := s.portsPassed k din aes
    let confs := s.elemsWith Conf.STATE 1
    let s := confs.foldl (fun s c => s.concealSkipped k sk c) s
    let s := (confs.foldl (fun s c => s.confBegin k c) s).audioDemand
    let up := !s.audioWork || s.audioUp
    let decoded := if up then s.decodedSrcs else []
    let s := decoded.foldl (fun s p => s.decodeStep k p.1 p.2) s
    let level := s.decodedLevel decoded k
    let s := confs.foldl (fun s c => s.confMix late up k c) s
    let s := if up then s.graphBlock k (s.portIn k) else s
    let s := confs.foldl (fun s c => s.confEnd (fun a => (level a).getD (-127)) up k c) s
    let s := (if up then s.graphFrames k else s).keepLevels level
    let s := s.portsOut k lateOut up
    [0, 1].foldl (fun s f => s.hintBlock f (k + 1)) s

/-! The command. -/

def execAudioBlockTick (din : List (Nat × List PinBit)) (aes : List (Nat × List AesFrame)) (late : List (Nat × Nat)) (lateOut : List Nat) (s : State) : Out :=
  live (audioTick din aes late lateOut) s

end Sys2Proof.Machine
end

