-- ==== Sys2Proof/Machine/Codec.lean ====
section
/-! DEFINITION. What the decode and encode sessions share with other chapters: their state, placement on cores (R293),
refresh requests, the closing of an encode session, and what deleting a source does to them (R305, R306, R328, R329). -/

namespace Sys2Proof.Machine

/-! Accessors. -/

def State.decX (s : State) (d : Nat) : DecX := Tbl.get {} s.vid.dec d
def State.decUpd (s : State) (d : Nat) (f : DecX → DecX) : State := { s with vid := { s.vid with dec := Tbl.upd {} s.vid.dec d f } }
def State.encX (s : State) (e : Nat) : EncX := Tbl.get {} s.vid.enc e
def State.encUpd (s : State) (e : Nat) (f : EncX → EncX) : State := { s with vid := { s.vid with enc := Tbl.upd {} s.vid.enc e f } }
def State.outX (s : State) (k : Nat) : OutX := Tbl.get {} s.vid.out k
def State.outUpd (s : State) (k : Nat) (f : OutX → OutX) : State := { s with vid := { s.vid with out := Tbl.upd {} s.vid.out k f } }

/-- The bits set in a core mask, lowest first. -/
def bitsSet (m : Nat) : List Nat := (List.range 16).filter (bitOf m)
def maskOf (l : List Nat) : Nat := l.foldl (fun a v => a ||| 2 ^ v) 0

/-- An even number at or above n (R292). -/
def ceil2 (n : Nat) : Nat := n + n % 2

/-! Placement (R293), over the decode cores or the encode cores. -/

/-- The columns of a kind of core. -/
structure CoreCols where
  part : Nat
  state : Nat
  used : Nat
  sessions : Nat
  deriving DecidableEq, Repr

def vdCols : CoreCols := ⟨vdPart 0, Vd.STATE, Vd.USED, Vd.SESSIONS⟩
def veCols : CoreCols := ⟨vePart 0, Ve.STATE, Ve.USED, Ve.SESSIONS⟩

/-- kpixel/s of one core. -/
abbrev coreRate : Nat := 497664

/-- The fullest core in service but `skip` that has room for charge r; the lowest-numbered among equals. -/
def State.findCore (s : State) (c : CoreCols) (r skip : Nat) : Option Nat :=
  ((List.range 16).filter (fun v => v != skip && s.rd c.state v == 0 && s.rd c.used v + r ≤ coreRate && s.rd c.sessions v < 128)).foldl
    (fun (b : Option Nat) v => match b with
      | none => some v
      | some w => if s.rd c.used w < s.rd c.used v then some v else b) none

/-- The procedure of R293: the cores chosen, with their USED and SESSIONS changed. -/
def State.placeCores (s : State) (c : CoreCols) (r : Nat) : Option (List Nat × State) :=
  let n := ceilDiv r coreRate
  let live := (List.range 16).filter (fun v => s.rd c.state v == 0)
  if 4 < n then none
  else if n ≤ 1 then
    match s.findCore c r 16 with
    | none => none
    | some v => some ([v], ((s.wr c.used v (s.rd c.used v + r)).wr c.sessions v (s.rd c.sessions v + 1)).demand (c.part + v))
  else
    let cand := live.filter (fun v => s.rd c.sessions v == 0)
    if cand.length < n then none
    else
      let vs := cand.take n
      some (vs, vs.foldl (fun s v => ((s.wr c.used v coreRate).wr c.sessions v 1).demand (c.part + v)) s)

/-- A session leaves its cores. -/
def State.leaveCores (s : State) (c : CoreCols) (r : Nat) (vs : List Nat) : State :=
  match vs with
  | [v] => ((s.drop c.used v r).drop c.sessions v 1).unitUsed
  | vs => (vs.foldl (fun s v => (s.wr c.used v 0).wr c.sessions v 0) s).unitUsed

/-! Entries that become FREE (R307, R330, R390). -/

/-- The counters of decode sessions, encode sessions, composition outputs and their layers, which only a reset zeroes. -/
def decCounters : List Nat := [Dec.PICTURES, Dec.CONCEALED, Dec.MISSING_REF, Dec.ABANDONED, Dec.REFRESH_REQ, Dec.LOST_PKTS,
  Dec.LATE_PKTS, Dec.SPLIT_SHORT, Dec.WINDOW_FAULT]
def encCounters : List Nat := [Enc.PICTURES, Enc.DROPPED, Enc.FALLBACK, Enc.SKIP_ROWS, Enc.FORGIVEN, Enc.LATE, Enc.REENCODED,
  Enc.REFRESHES, Enc.REPEATS, Enc.IGNORED]
def outCounters : List Nat := [Outp.FRAMES, Outp.LATE, Outp.MOVES]
def layCounters : List Nat := [Lay.FALLBACKS]

/-- An entry becomes FREE: its objects return to their Defaults, but for its counters. -/
def State.freeEl (s : State) (ix el : Nat) (keep : List Nat) : State :=
  ((s.od.map (·.1)).filter (fun c => c / 256 = ix && !keep.contains c)).foldl (fun s c => s.wr c el (dflt c el)) s

/-- Does a counter belong to an entry that is FREE? It then reads its Default. -/
def State.hiddenCount (s : State) (col el : Nat) : Bool :=
  (decCounters.contains col && s.rd Dec.STATE el == 0) || (encCounters.contains col && s.rd Enc.STATE el == 0) ||
    (outCounters.contains col && s.rd Outp.STATE el == 0) || (layCounters.contains col && s.rd Outp.STATE (el / 32) == 0)

/-! Decode sessions. -/

/-- A decode session asks for a refresh, at most once per 500 ms (R302). -/
def State.decRefresh (s : State) (d : Nat) : State :=
  let held := match (s.decX d).reqAt with | some c => decide (s.since c < 500 * cycMs) | none => false
  let src := s.rd Dec.SOURCE d
  if held || s.rd Src.STATE src ≠ 1 then s
  else
    ((s.decUpd d (fun x => { x with reqAt := some s.phys })).bump Dec.REFRESH_REQ d).wantRefresh src false

/-- A source is deleted under its decode sessions: no input any more, WAIT_RAP, VD_SOURCE_GONE (R306). -/
def State.sourceGone (s : State) (src : Nat) : State :=
  (s.elemsWith Dec.SOURCE src).foldl (fun s d =>
    let st := s.rd Dec.STATE d
    if st = 0 || st = 4 then s
    else
      let s := (s.decUpd d (fun x => { x with buf := [], ready := [], gone := true, started := false })).wr Dec.STATE d 1
      s.raise Ev.VD_SOURCE_GONE d toPlatform 0) s

/-! Encode sessions. -/

/-- NO_CORE encode sessions are placed again in ascending order; each restarts with a key picture or refresh start (R328). -/
def State.encReplace (s : State) : State :=
  (s.elemsWith Enc.STATE 3).foldl (fun s e =>
    match s.placeCores veCols (s.rd Enc.CHARGE e) with
    | none => s
    | some (vs, s) => ((s.wr Enc.CORES e (maskOf vs)).wr Enc.STATE e 2).encUpd e (fun x => { x with keyNext := true })) s

/-- CLOSE of an encode session (R329): nothing of an incomplete picture enters the packet store; charge and cores are
released and the session is FREE. Its source is then no member of a splice group. -/
def State.encClose (s : State) (e : Nat) : State :=
  let src := s.rd Enc.OUT_SOURCE e
  let g := s.rd Enc.SPLICE e
  let r := s.rd Enc.CHARGE e
  let s := if s.rd Enc.STATE e = 3 then s else s.leaveCores veCols r (bitsSet (s.rd Enc.CORES e))
  let s := s.chargeBy (s.rd Enc.OWNER e) .venc (-(r : Int))
  let s := if g = 0xFF then s else ((s.drop Splice.MEMBERS g 1).wr Src.SPLICEABLE src 0).wr SrcFwd.GROUP src 0xFF
  let s := (s.freeEl Enc.index e encCounters).poolGive 2 e
  let s := { s with
    vid := { s.vid with enc := Tbl.set {} s.vid.enc e {} }
    tim := { s.tim with enc := Tbl.set {} s.tim.enc e {} } }
  s.encReplace

/-- A source is deleted: an encode session that produces it closes (R329). -/
def State.encSourceGone (s : State) (src : Nat) : State :=
  ((s.elemsWith Enc.OUT_SOURCE src).filter (fun e => s.rd Enc.STATE e != 0)).foldl (fun s e => s.encClose e) s

end Sys2Proof.Machine
end

