-- ==== Sys2Proof/Machine/Line.lean ====
section
/-! DEFINITION. Window ends (R148, R171): the line ceilings of radio and wired legs, updated every 100 ms. -/

namespace Sys2Proof.Machine

/-- The estimate that the window's RFC 8888 counts give (R171), and the loss it shows where there were reports. -/
def lineEstimate (s : State) (l : Nat) (x : LineX) (est : Nat) : Nat × Option Nat :=
  if s.rd Line.FB_TIMEOUT l * cycMs ≤ s.since x.from_ then (s.rd Line.MIN_KBPS l, none)
  else if x.reports = 0 then (est, none)
  else
    let a := x.rxBytes * 8 / 100
    let loss := if x.rcvd = 0 then 100 else 100 * x.lost / (x.lost + x.rcvd)
    let ce := if x.rcvd = 0 then 0 else 100 * x.ce / x.rcvd
    if s.rd Line.LOSS_HI l ≤ loss || s.rd Line.CE_HI l ≤ ce then (min est a * 85 / 100, some loss)
    else if loss < s.rd Line.LOSS_LO l && ce = 0 then
      (max est (min (est + max (est * 8 / 100) 100) (a * 3 / 2 + 100)), some loss)
    else (est, some loss)

/-- line_update of R171 for one ACTIVE wired leg. -/
def State.lineUpdate (s : State) (l : Nat) : State :=
  let x := s.legEg l
  let ln := x.line
  let p := s.rd Leg.PORT l
  let mode := s.rd Line.FB_MODE l
  let clear : LineX := { ln with rxBytes := 0, rcvd := 0, lost := 0, ce := 0, reports := 0 }
  if mode = 0 then
    let s := s.legEgSet l { x with line := clear }
    (s.wr Line.LINE_CEIL l 11).wr Leg.CEIL_LAYER l (lowerLayer (s.rd Leg.CAP_LAYER l) 11)
  else
    let e := if mode % 2 = 1 then lineEstimate s l ln (s.rd Line.EST_KBPS l) else (s.rd Line.MAX_KBPS l, none)
    let t := s.rd Line.TMMBR_KBPS l
    let est := if 2 ≤ mode && t ≠ 0xFFFFFFFF then min e.1 t else e.1
    let est := max (s.rd Line.MIN_KBPS l) (min est (s.rd Line.MAX_KBPS l))
    let cand := s.candidate l est (s.rd Egr.HEADROOM p) (s.rd Egr.AUDIO_RES p)
    let (ceil, up) := ceilingStep cand (s.rd Line.LINE_CEIL l) ln.up (s.rd Egr.UP_WINDOWS p)
    let s := s.legEgSet l { x with line := { clear with up := up } }
    let s := match e.2 with | some loss => s.wr Line.LOSS_PCT l loss | none => s
    let s := ((s.wr Line.EST_KBPS l est).wr Line.LINE_CEIL l ceil).wr Leg.CEIL_LAYER l (lowerLayer (s.rd Leg.CAP_LAYER l) ceil)
    if s.on Shp.AUTO_RATE l && s.rd Shp.RATE l ≠ est then (s.wr Shp.RATE l est).legShCommit l false else s

/-- The end of a 100 ms window of local time: every ACTIVE leg's ceiling is updated. -/
def windowEnd (s : State) : State :=
  let w := s.ns / 100000000
  if w = s.fret.window then s
  else
    let ls := s.elemsWith Leg.STATE 2
    let s := ls.foldl (fun s l => if s.radio l then s.radioCeiling l else s.lineUpdate l) s
    { s with fret := { s.fret with window := w } }

def execLinkWindowEnd (s : State) : Out := live windowEnd s

end Sys2Proof.Machine
end

