-- ==== Sys2Proof/Machine/Legs.lean ====
section
/-! DEFINITION. Legs, conferences, sources, subscriptions and partitions (chapter 2, R39 to R60). -/

namespace Sys2Proof.Machine

/-- A reference across partitions (R42): E_NOOBJ for a TENANT host, E_RANGE for the PLATFORM host. -/
def State.crossing (s : State) (h : Nat) (k : Kind) (e : Nat) (k' : Kind) (e' : Nat) : Bool × Status :=
  (s.ownerOf k e != s.ownerOf k' e', if 2 ≤ h then .eNoObj else .eRange)

/-! Legs. -/

/-- The classifier key that must be unique: 5-tuple and VLAN (Table 2.2). -/
def State.tuple (s : State) (l : Nat) : List Nat :=
  [s.rd Leg.VLAN l, s.rd Leg.LOCAL_IP l, s.rd Leg.LOCAL_UDP l, s.rd Leg.REMOTE_IP l, s.rd Leg.REMOTE_UDP l]

/-- Legs that are not FREE. -/
def State.legsInUse (s : State) : List Nat := (s.column Leg.STATE).map (·.1)

/-- Does another leg that is not FREE hold the leg's 5-tuple and VLAN? -/
def State.tupleTaken (s : State) (l : Nat) : Bool := s.legsInUse.any (fun k => k != l && s.tuple k == s.tuple l)

/-- Are the leg's two addresses of one IP version (R90)? -/
def State.oneVersion (s : State) (l : Nat) : Bool := isV4 (s.rd Leg.LOCAL_IP l) == isV4 (s.rd Leg.REMOTE_IP l)

/-- Every object of a leg at its Default: an OPEN leaves them so (Table 2.2), and a FREE leg's read so (R390). -/
def State.legClear (s : State) (l : Nat) : State :=
  [Leg.index, LegIn.index, LegFb.index, Shp.index, Line.index, FLeg.index, LegMix.index].foldl
    (fun s ix => s.clearEl ix l) s

/-- What an OPEN gives a leg: every object of it at its default, OWNER, empty contexts, a MIX_SSRC. -/
def State.legInit (s : State) (l : Nat) : State :=
  let s := s.legClear l
  let s := (s.ctxOpen (rxCtx l)).ctxOpen (txCtx l)
  let s := { s with
    egr := { s.egr with legs := Tbl.set {} s.egr.legs l {} }
    fret := { s.fret with legs := Tbl.set {} s.fret.legs l {} }
    fwd := { s.fwd with legs := Tbl.set {} s.fwd.legs l {} }
    aud := { s.aud with legs := Tbl.set {} s.aud.legs l {} } }
  let (m, s) := s.pick32 []
  ((s.wr LegMix.MIX_SSRC l m).wr Leg.OWNER l (s.ownerOf .leg l)).wr Leg.STATE l 1

/-- CMD OPEN. -/
def legOpen (l : Nat) (s : State) : Except Status State :=
  match s.rd Leg.STATE l with
  | 0 =>
    if !s.hbmUp then .error .eState
    else match (s.legInit l).poolTake 0 l 0 18 with
      | none => .error .eCapacity
      | some t => .ok t
  | 3 => .error .eBusy
  | _ => .error .eState

/-- CMD ACTIVATE. -/
def legActivate (l : Nat) (s : State) : Except Status State :=
  match s.rd Leg.STATE l with
  | 3 => .error .eBusy
  | 1 =>
    if s.rd Leg.KEYS l ≠ 3 || s.tupleTaken l || !s.oneVersion l then .error .eState
    else if s.radio l && s.bindingTaken l (s.rd Leg.PORT l) (s.rd Leg.RADIO_UE l) (s.rd FLeg.BEARER l) then .error .eState
    else
      let s := s.wr Leg.STATE l 2
      let s := s.legUpd l (fun x => { x with rtcpAt := s.rtcpIndex l })
      if s.radio l then
        .ok (((s.fLegUpd l (fun _ => {})).wr FLeg.FSTATE l 1).wr Leg.CEIL_LAYER l (lowerLayer (s.rd Leg.CAP_LAYER l) 0))
      else
        let s := (s.legShStart l).wr Line.EST_KBPS l (s.rd Line.START_KBPS l)
        let x := s.legEg l
        .ok ((s.legEgSet l { x with line := { x.line with from_ := s.phys } }).wr Leg.CEIL_LAYER l
          (lowerLayer (s.rd Leg.CAP_LAYER l) (s.rd Line.LINE_CEIL l)))
  | _ => .error .eState

/-- CMD CLOSE: steps 1, 2, 4 and 5 of Table 2.3. Requests to its sources are discarded (R119). -/
def legClose (l : Nat) (s : State) : Except Status State :=
  match s.rd Leg.STATE l with
  | 0 => .error .eState
  | 3 => .error .eBusy
  | _ =>
    let s := (s.wr Leg.STATE l 3).discardQueues l
    .ok ((s.sourcesOf l).foldl (fun s src => s.srcUpd src (fun x => { x with refreshPend := false, refreshFir := false })) s)

/-! Subscriptions. -/

/-- Is a copy a packet of a mosaic picture on this SSRC? -/
def CopyX.ofMosaic (c : CopyX) (ssrc : Nat) : Bool :=
  c.ssrc == ssrc && (match c.body with | .mosaic _ _ _ => true | _ => false)

/-- A subscription is FREE again. Copies already queued keep what they carry, but for those of a mosaic: no further packet of
its picture is sent (R130). -/
def State.dropSub (s : State) (h : Nat) : State :=
  let s := s.withdraw (s.rd Sub.LEG h) (fun c => c.ofMosaic (s.rd Sub.OUT_SSRC h))
  let s := if (s.mosaicOf (s.rd Sub.SOURCE h)).isSome then s.dropVideo h else s
  let s := (s.clearEl Sub.index h).clearEl SubFwd.index h
  { s with
    fwd := { s.fwd with subs := Tbl.set {} s.fwd.subs h {} }
    ros := { s.ros with subs := Tbl.set none s.ros.subs h none } }

/-- CMD CREATE. -/
def subCreate (host h : Nat) (s : State) : Except Status State :=
  let l := s.rd Sub.LEG h
  let src := s.rd Sub.SOURCE h
  let auto := s.on Sub.SSRC_AUTO h
  let out := s.rd Sub.OUT_SSRC h
  let twice := (s.subsOfLeg l).any (fun k => s.rd Sub.SOURCE k == src)
  let legOk := s.rd Leg.STATE l == 1 || s.rd Leg.STATE l == 2
  guarded [s.crossing host .sub h .leg l, s.crossing host .sub h .src src, (s.rd Sub.STATE h == 1, .eState),
      (!legOk, .eState), (s.rd Src.STATE src != 1, .eState), (twice, .eState), (!s.hbmUp, .eState),
      (!auto && s.ssrcTaken l h out, .eState)]
    (let s := s.clearEl SubFwd.index h
     let (ts, s) := s.draw 32
     let (sq, s) := s.draw 16
     let s := (((s.wr SubFwd.TS_OFFSET h ts).wr SubFwd.SEQ_OFFSET h sq).wr Sub.CUR_LAYER h 0xFF).wr Sub.STATE h 1
     let s := { s with fwd := { s.fwd with subs := Tbl.set {} s.fwd.subs h {} } }
     let s := if auto then s.pickSsrcs h else s
     let s := if s.rd Src.MEDIA src = 1 && s.overridden h && (s.overrideEntry h).isNone then s.bump Ros.MISSING 0 else s
     withinStreams l (if s.rd Src.MEDIA src = 1 && (s.mosaicOf src).isNone then s.wantRefresh src false else s))

/-- CMD DELETE of a subscription. -/
def subDelete (h : Nat) (s : State) : Except Status State :=
  if s.rd Sub.STATE h = 0 then .error .eState else .ok (s.dropSub h)

/-! Sources. -/

/-- Does CODEC belong to MEDIA? -/
def codecFits (media codec : Nat) : Bool := if media = 0 then codec ≤ 5 else 16 ≤ codec

/-- Is an SSRC repeated among the DEFINED sources of the source's leg (R49)? -/
def State.srcSsrcTaken (s : State) (src ssrc : Nat) : Bool :=
  let l := s.rd Src.LEG src
  l != 0xFFFFFFFF && (s.sourcesOf l).any (fun x => x != src && s.rd Src.SSRC x == ssrc)

/-- The conferences whose charge a source's codec enters. -/
def State.confOfSource (s : State) (src : Nat) : List Nat :=
  let l := s.rd Src.LEG src
  if l = 0xFFFFFFFF || s.rd Leg.CONF l = 0xFFFF then [] else [s.rd Leg.CONF l]

/-- A burst of a meter as a transaction with writes ws leaves it. -/
def State.burstAfter (s : State) (ws : List WriteOp) (col src : Nat) : Nat :=
  match (ws.filter (fun w => w.col == col && w.el == src)).getLast? with | some w => w.val | none => s.rd col src

/-- Both buckets of a source's meter full, and `last` now (R99), by the bursts that a transaction with writes ws leaves. -/
def State.meterFull (s : State) (ws : List WriteOp) (src : Nat) : State :=
  let m : MeterX := ⟨s.burstAfter ws Meter.CBS src * tokB, s.burstAfter ws Meter.PBS src * tokB, s.ns⟩
  { s with ing := { s.ing with meters := Tbl.set {} s.ing.meters src m } }

/-- What a DEFINE gives a source. -/
def State.srcInit (s : State) (ws : List WriteOp) (src : Nat) : State :=
  let dev := s.rd Src.LEG src = 0xFFFFFFFF
  let (off, s) := s.draw 32
  let (sq, s) := s.draw 16
  let (ssrc, s) := if dev then s.draw 32 else (s.rd Src.SSRC src, s)
  let s := (s.clearEl Meter.index src).meterFull ws src
  let s := s.forgetDropped src
  let s := ((s.wr Src.SSRC src ssrc).wr Src.OWNER src (s.ownerOf .src src)).wr Src.STATE src 1
  { s with
    fwd := { s.fwd with srcs := Tbl.set {} s.fwd.srcs src { rtpOffset := off, outSeq := sq } }
    aud := { s.aud with srcs := Tbl.set {} s.aud.srcs src {} } }

/-- CMD DEFINE. -/
def sourceDefine (host src : Nat) (ws : List WriteOp) (s : State) : Except Status State :=
  let l := s.rd Src.LEG src
  let leg := l ≠ 0xFFFFFFFF
  let cross := if leg then [s.crossing host .src src .leg l] else []
  guarded (cross ++ [(!codecFits (s.rd Src.MEDIA src) (s.rd Src.CODEC src), .eRange), (s.rd Src.STATE src == 1, .eState),
      (leg && (s.rd Leg.STATE l == 0 || s.rd Leg.STATE l == 3), .eState), (!s.hbmUp, .eState),
      (s.srcSsrcTaken src (s.rd Src.SSRC src), .eState), (leg && 4 ≤ (s.sourcesOf l).length, .eCapacity)])
    (s.recharge (s.srcInit ws src) (s.confOfSource src))

/-- A source goes: its subscriptions with it, and every mosaic position that names it (R49, R129). -/
def State.dropSource (s : State) (src : Nat) : State :=
  let s := (s.sourceGone src).encSourceGone src
  let subs := s.subsOfSource src
  let pos := s.elemsWith MosPos.SOURCE src
  let s := subs.foldl (fun s h => s.dropSub h) s
  let s := pos.foldl (fun s e => s.wr MosPos.SOURCE e 0xFFFFFFFF) s
  let s := ((s.clearEl Src.index src).clearEl SrcFwd.index src).clearEl Meter.index src
  let s := (List.range 12).foldl (fun s l => s.clearEl Layer.index (16 * src + l)) s
  { s with
    fwd := { s.fwd with srcs := Tbl.set {} s.fwd.srcs src {} }
    ing := { s.ing with meters := Tbl.set {} s.ing.meters src {} }
    aud := { s.aud with srcs := Tbl.set {} s.aud.srcs src {} } }

/-- Delete a source and release what it charged. -/
def State.removeSource (s : State) (src : Nat) : State :=
  let t := s.dropSource src
  match s.recharge t (s.confOfSource src) with | .ok u => u | .error _ => t

/-- CMD DELETE of a source. -/
def sourceDelete (src : Nat) (s : State) : Except Status State :=
  if s.rd Src.STATE src = 0 then .error .eState else .ok (s.removeSource src)

/-! Teardown of a leg. -/

/-- Has a committed packet of the leg not yet been sent? -/
def State.dataLeft (s : State) (l : Nat) : Bool := s.fret.ports.any (fun r => r.2.data.any (fun d => d.leg == l))

/-- Steps 6 to 8 of Table 2.3, once the leg's committed packets are sent. -/
def legTeardown (l : Nat) (s : State) : State :=
  if s.rd Leg.STATE l ≠ 3 || s.dataLeft l then s
  else
    let owner := s.legOwner l
    let conf := s.rd Leg.CONF l
    let s := (s.eraseCtx (rxCtx l)).eraseCtx (txCtx l)
    let s := (s.sourcesOf l).foldl (fun s src => s.removeSource src) s
    let s := (s.subsOfLeg l).foldl (fun s h => s.dropSub h) s
    let s := (s.radioRelease l).leaveGroup l
    let s := { s with fwd := { s.fwd with legs := Tbl.set {} s.fwd.legs l {} }
                      egr := { s.egr with legs := Tbl.set {} s.egr.legs l {} }
                      aud := { s.aud with legs := Tbl.set {} s.aud.legs l {} } }
    let t := (s.legClear l).poolGive 0 l
    let t := match s.recharge t (if conf = 0xFFFF then [] else [conf]) with | .ok u => u | .error _ => t
    t.raise Ev.LEG_CLOSED 0 owner l

/-! Conferences. -/

def confOpen (c : Nat) (s : State) : Except Status State :=
  if s.rd Conf.STATE c = 1 then .error .eState
  else
    let t := (s.clearEl Mix.index c).wr Conf.STATE c 1
    let t := { t.wr Conf.OWNER c (t.ownerOf .conf c) with aud := { t.aud with confs := Tbl.set {} t.aud.confs c {} } }
    s.recharge t [c]

def confClose (c : Nat) (s : State) : Except Status State :=
  if s.rd Conf.STATE c = 0 || s.members c ≠ [] then .error .eState
  else
    let t := (s.clearEl Conf.index c).clearEl Mix.index c
    s.recharge { t with aud := { t.aud with confs := Tbl.set {} t.aud.confs c {} } } [c]

/-! Writes of chapter 2 that have no row of their own. -/

/-- A copy whose leg has gone from IPv4 to IPv6, or back: its header is 20 bytes longer, or shorter (R160). -/
def CopyX.family (v6 : Bool) (c : CopyX) : CopyX := { c with ipLen := if v6 then c.ipLen + 20 else c.ipLen - 20 }

/-- The copies that a leg still holds follow its address family. -/
def State.familyMoved (s : State) (l : Nat) (v6 : Bool) : State :=
  let f := CopyX.family v6
  let x := s.legEg l
  let s := s.legEgSet l { x with q0 := x.q0.map f, q1 := x.q1.map f, q2 := x.q2.map f, q3 := x.q3.map f }
  let s := s.legUpd l (fun y => { y with hist := y.hist.map (fun e => { e with copy := f e.copy }) })
  let item (i : RItem) : RItem := { i with copy := f i.copy, size := (f i.copy).ipLen }
  let s := (s.settleQueue l).fLegUpd l (fun y => { y with
    audio := y.audio.map item
    rtx := y.rtx.map item
    video := y.video.map (fun i => { i with copies := i.copies.map f, size := sumOf (i.copies.map (fun c => (f c).ipLen)) }) })
  if !s.radio l then s
  else
    let y := s.fLeg l
    let s := s.wr FLeg.QBYTES l (sumOf (y.audio.map (·.size)) + sumOf (y.rtx.map (·.size)) + sumOf (y.video.map (·.size)))
    let s := s.genBump l
    s.fPortUpd (s.rd Leg.PORT l) (fun y => { y with data := y.data.map (fun d => if d.leg = l then { d with copy := f d.copy } else d) })

/-- A write to an object of a leg (0x2200). Uniqueness and IP versions are checked on what the transaction leaves. -/
def legWrite (h col l v : Nat) (s : State) : Except Status State :=
  let st := s.rd Leg.STATE l
  let t := s.wr col l v
  let shut := st = 0 || st = 3
  if col = Leg.CONF then
    let old := s.rd Leg.CONF l
    guarded ((shut, .eState) :: (if v = 0xFFFF || v = old then [] else [s.crossing h .leg l .conf v,
        (s.rd Conf.STATE v != 1, .eState), (decide (s.rd Conf.MAX_MEMBERS v < (s.members v).length + 1), .eCapacity)]))
      (if v = old then .ok s else s.recharge t ([old, v].filter (· != 0xFFFF)))
  else if shut then .error .eState
  else if (col = Leg.KIND || col = Leg.PORT) && st ≠ 1 then .error .eState
  else if col = Leg.AUDIO_CFG then
    s.recharge t (if s.rd Leg.CONF l = 0xFFFF then [] else [s.rd Leg.CONF l])
  else if col = Leg.CAP_LAYER then
    .ok (if s.radio l then t.setCeil l (lowerLayer v (s.rd FLeg.LINE_CEIL l))
      else t.wr Leg.CEIL_LAYER l (lowerLayer v (s.rd Line.LINE_CEIL l)))
  else if col = Leg.REMOTE_IP && isV4 v != isV4 (s.rd Leg.REMOTE_IP l) then .ok (t.familyMoved l (!isV4 v))
  else .ok t

/-- A write to an object of a leg outside 0x2200 (Tables 4.6, 5.6, 9.4). -/
def legSideWrite (col l v : Nat) (s : State) : Except Status State :=
  let st := s.rd Leg.STATE l
  if st = 0 || st = 3 then .error .eState
  else if col = LegIn.REPLAY_WIN && st ≠ 1 then .error .eState
  else if col = LegFb.RTCP_INTERVAL then
    let t := s.wr col l v
    .ok (t.legUpd l (fun x => { x with rtcpAt := t.rtcpIndex l }))
  else .ok (s.wr col l v)

/-- A write to an object of a conference (0x2300). -/
def confWrite (col c v : Nat) (s : State) : Except Status State :=
  let t := s.wr col c v
  if col = Conf.TOPK && s.rd Conf.CAND_MAX c < v then .error .eRange
  else if col = Conf.CAND_MAX && v < s.rd Conf.TOPK c then .error .eRange
  else s.recharge t [c]

/-- A write to an object of a source (0x2400, 0x2420). A write of SSRC to a DEFINED device-produced source is accepted and
replaces the device's pick: DESIGN CHOICE (log 141). -/
def sourceWrite (h col src v : Nat) (s : State) : Except Status State :=
  let defined := s.rd Src.STATE src = 1
  let t := s.wr col src v
  if col = Src.LEG then
    guarded ((if v = 0xFFFFFFFF then [] else [s.crossing h .src src .leg v]) ++ [(decide defined, .eState)]) (.ok t)
  else if col = Src.MEDIA || col = SrcFwd.SMODE then (if defined then .error .eState else .ok t)
  else if col = Src.SSRC then
    (if defined && s.srcSsrcTaken src v then .error .eState else .ok t)
  else if col = Src.CODEC then
    (if !defined then .ok t
     else if !codecFits (s.rd Src.MEDIA src) v then .error .eRange
     else s.recharge t (s.confOfSource src))
  else .ok t

/-- A write to an object of a subscription (0x2500, 0x2520). -/
def subWrite (host col h v : Nat) (s : State) : Except Status State :=
  let active := s.rd Sub.STATE h == 1
  if col = Sub.LEG then guarded [s.crossing host .sub h .leg v, (active, .eState)] (.ok (s.wr col h v))
  else if col = Sub.SOURCE then guarded [s.crossing host .sub h .src v, (active, .eState)] (.ok (s.wr col h v))
  else if [Sub.OUT_SSRC, SubFwd.OUT_RTX_SSRC, Sub.SSRC_AUTO].contains col then subSsrcWrite col h v s
  else .ok (s.wr col h v)

/-! Partitions (R53). -/

/-- The kind of entry whose range a column of Table 2.8 sets, and whether it is the base. -/
def rangeCol (col : Nat) : Option (Kind × Bool) :=
  if col = Part.LEG_BASE then some (.leg, true) else if col = Part.LEG_COUNT then some (.leg, false)
  else if col = Part.CONF_BASE then some (.conf, true) else if col = Part.CONF_COUNT then some (.conf, false)
  else if col = Part.SRC_BASE then some (.src, true) else if col = Part.SRC_COUNT then some (.src, false)
  else if col = Part.SUB_BASE then some (.sub, true) else if col = Part.SUB_COUNT then some (.sub, false)
  else none

/-- The size of an ID space (Table 2.0), and the column of its STATE. -/
def Kind.size : Kind → Nat | .leg => 131072 | .conf => 8192 | .src => 262144 | .sub => 5242880
def Kind.state : Kind → Nat | .leg => Leg.STATE | .conf => Conf.STATE | .src => Src.STATE | .sub => Sub.STATE

/-- A write to a partition object. No entry in use changes owner. -/
def partWrite (col t v : Nat) (s : State) : Except Status State :=
  match rangeCol col with
  | some (k, isBase) =>
    let u := s.wr col t v
    let b := if isBase then v else s.rd k.base t
    let n := if isBase then s.rd k.count t else v
    let excess := [2, 3, 4, 5, 6, 7].any (fun o => o != t && n != 0 && s.rd k.count o != 0 &&
      b < s.rd k.base o + s.rd k.count o && s.rd k.base o < b + n)
    let moved := (s.column k.state).any (fun r => s.inPart k t r.1 != u.inPart k t r.1)
    guarded [(decide (k.size < b + n), .eRange), (excess, .eRange), (moved, .eState)] (.ok u)
  | none =>
    let used := if col = Part.DSP_QUOTA then s.rd Part.DSP_USED t else if col = Part.VDEC_QUOTA then s.rd Part.VDEC_USED t
      else if col = Part.VENC_QUOTA then s.rd Part.VENC_USED t else s.rd Part.CMP_USED t
    if v < used then .error .eState else .ok (s.wr col t v)

/-! The commands. -/

def execLegOpen (h leg : Nat) (s : State) : Out := live (hostWrite h Leg.CMD leg 1 (legOpen leg)) s

def execLegActivate (h leg : Nat) (s : State) : Out := live (hostWrite h Leg.CMD leg 2 (legActivate leg)) s

def execLegClose (h leg : Nat) (s : State) : Out := live (hostWrite h Leg.CMD leg 3 (legClose leg)) s

def execLegTeardownComplete (leg : Nat) (s : State) : Out := live (legTeardown leg) s

def execConfOpen (h conf : Nat) (s : State) : Out := live (hostWrite h Conf.CMD conf 1 (confOpen conf)) s

def execConfClose (h conf : Nat) (s : State) : Out := live (hostWrite h Conf.CMD conf 2 (confClose conf)) s

def execSourceDefine (h source : Nat) (s : State) : Out := live (hostWrite h Src.CMD source 1 (sourceDefine h source [])) s

def execSourceDelete (h source : Nat) (s : State) : Out := live (hostWrite h Src.CMD source 2 (sourceDelete source)) s

def execSubCreate (h sub : Nat) (s : State) : Out := live (hostWrite h Sub.CMD sub 1 (subCreate h sub)) s

def execSubDelete (h sub : Nat) (s : State) : Out := live (hostWrite h Sub.CMD sub 2 (subDelete sub)) s

end Sys2Proof.Machine
end

