-- ==== Sys2Proof/Machine/DmaDesc.lean ====
section
/-! DEFINITION. DMA descriptors and the addresses they name (Tables 17.4 and 17.5). -/

namespace Sys2Proof.Machine

/-- An address (Table 17.5). -/
structure DAddr where
  space : Nat
  unit_ : Nat
  addr : Nat
  deriving DecidableEq, Repr

def dAddr (v : Nat) : DAddr := ⟨bitsOf v 60 4, bitsOf v 57 3, bitsOf v 0 57⟩

abbrev dOp (d : Bytes) : Nat := byteAt d 1
abbrev dFlag (d : Bytes) (i : Nat) : Bool := bitOf (byteAt d 2) i
abbrev dLen (d : Bytes) : Nat := leAt d 4 4
abbrev dSrc (d : Bytes) : DAddr := dAddr (leAt d 8 8)
abbrev dDst (d : Bytes) : DAddr := dAddr (leAt d 16 8)
abbrev dNext (d : Bytes) : Nat := leAt d 24 8
abbrev dCpl (d : Bytes) : DAddr := dAddr (leAt d 32 8)
abbrev dTag (d : Bytes) : Nat := leAt d 56 4
/-- PARAM, n bytes at an offset. -/
abbrev dPar (d : Bytes) (o n : Nat) : Nat := leAt d (40 + o) n

/-- PARAM of OPs 1 and 2. -/
abbrev pSlots (d : Bytes) : Nat := dPar d 0 1
abbrev pPack (d : Bytes) : Nat := dPar d 1 1
abbrev pFrames (d : Bytes) : Nat := dPar d 2 2
abbrev pMask (d : Bytes) : Nat := dPar d 4 4
abbrev pPlane (d : Bytes) : Nat := dPar d 8 4
/-- Bytes of a packed sample (Table 10.3). -/
def packBytes (p : Nat) : Nat := if p = 0 then 3 else 4

/-- PARAM of OPs 5 and 6. -/
abbrev pBps (d : Bytes) : Nat := if dPar d 0 1 = 0 then 1 else 2
abbrev pWidth (d : Bytes) : Nat := dPar d 2 2
abbrev pHeight (d : Bytes) : Nat := dPar d 4 2
abbrev pP (d : Bytes) : Nat := dPar d 8 4
abbrev pQ (d : Bytes) : Nat := dPar d 12 4

/-- Bytes from the first to the last that the source's layout spans, and the destination's. -/
def planar (d : Bytes) : Nat := (pSlots d - 1) * pPlane d + 4 * pFrames d
def srcExtent (d : Bytes) : Nat :=
  match dOp d with
  | 2 => planar d
  | 6 => pQ d * pHeight d + 2 * (pQ d / 2 * (pHeight d / 2))
  | 7 => 0
  | _ => dLen d
def dstExtent (d : Bytes) : Nat :=
  match dOp d with
  | 1 => planar d
  | 3 => dLen d / 3 * 4
  | 4 => dLen d / 4 * 3
  | 5 => pQ d * pHeight d + 2 * (pQ d / 2 * (pHeight d / 2))
  | _ => dLen d

/-- Does a channel's descriptor read any of n bytes of HBM from a? -/
def State.dmaReads (s : State) (a n : Nat) : Bool :=
  s.dma.any (fun r => r.2.desc != [] && dOp r.2.desc != 7 && (dSrc r.2.desc).space == 0 &&
    decide (a < (dSrc r.2.desc).addr + srcExtent r.2.desc) && decide ((dSrc r.2.desc).addr < a + n))

end Sys2Proof.Machine
end

