-- ==== Sys2Proof/Machine/Pixel.lean ====
section
/-! DEFINITION. The samples of pictures (R300, R304, R334 to R341, R343, R346): what a decoded picture, a layer and a composed
frame hold at a place. A picture is a plain recipe (Pix); here it is read sample by sample. The filters' coefficients, the
colour chain within its tolerance and the chroma siting are free functions of all that the rules say they depend on. -/

namespace Sys2Proof.Machine

/-- Three components: Y′, Cb, Cr, or R′, G′, B′. -/
abbrev Trip := Nat × Nat × Nat

/-- Blending of one 12-bit component by R335. -/
def blend (alpha a l b : Nat) : Nat :=
  let k := alpha * a / 255
  (k * l + (1024 - k) * b + 512) / 1024

def blend3 (alpha a : Nat) (l b : Trip) : Trip := (blend alpha a l.1 b.1, blend alpha a l.2.1 b.2.1, blend alpha a l.2.2 b.2.2)

/-- A colour laid out as BG. -/
def packed10 (c : Nat) : Trip := (bitsOf c 20 10, bitsOf c 10 10, bitsOf c 0 10)

/-- How FILL and BG are read: BT.709 SDR at limited range, 10 bits (R339). -/
def fillRead : List Nat := [0, 0, 0, 0, 10]

/-- The chain of R340 on one pixel: 12-bit R′G′B′ of the output. -/
def converted (read tone : List Nat) (v : Trip) : Trip :=
  let b := (Config.converted read tone v.1 v.2.1 v.2.2).toNat
  (bitsOf b 24 12, bitsOf b 12 12, bitsOf b 0 12)

/-! Scaling (R336). -/

/-- The source row or column at the centre of output row or column i of n, over m, and its phase of 64. -/
def centre (i n m : Nat) : Nat := (2 * i + 1) * m / (2 * n)
def phase (i n m : Nat) : Nat := (2 * i + 1) * m * 64 / (2 * n) % 64

/-- The rows or columns under a kernel of some taps, which a downscale widens by the ratio, kept inside the crop. -/
def kernelAt (taps i n m : Nat) : List Nat :=
  let t := taps * max 1 (ceilDiv m n)
  (List.range t).map (fun j => min (m - 1) (centre i n m + j + 1 - t / 2))

/-- One component scaled: vertically with 6 taps, then horizontally with 8. -/
def scaled (l : Draw) (f : Nat → Nat → Nat) (i j : Nat) : Nat :=
  let (cx, cy, cw, ch) := l.crop
  let (_, _, dw, dh) := l.dst
  let cols := (kernelAt 8 i dw cw).map (fun c =>
    (Config.filtered 0 l.filter (phase j dh ch) ch dh ((kernelAt 6 j dh ch).map (fun r => f (cx + c) (cy + r)))).toNat)
  (Config.filtered 1 l.filter (phase i dw cw) cw dw cols).toNat

/-- The source at place (i, j) of a layer: passed through where scaling is bypassed, the nearest sample, or filtered. -/
def pick (l : Draw) (f : Nat → Nat → Nat) (i j : Nat) : Nat :=
  let (cx, cy, cw, ch) := l.crop
  let (_, _, dw, dh) := l.dst
  if l.filter = 4 then f (cx + i) (cy + j)
  else if l.filter = 2 then f (cx + centre i dw cw) (cy + centre j dh ch)
  else scaled l f i j

/-- The place in its layer of an output pixel, if the layer covers it. -/
def Draw.place (l : Draw) (x y : Nat) : Option (Nat × Nat) :=
  let (dx, dy, dw, dh) := l.dst
  if x < dx || y < dy || dx + dw ≤ x || dy + dh ≤ y then none
  else if l.filter = 4 && (l.crop.2.2.1 ≤ x - dx || l.crop.2.2.2 ≤ y - dy) then none
  else some (x - dx, y - dy)

/-! The input of an encode session (R321). -/

/-- One plane of sw × sh samples scaled to w × h with 6 taps on each axis (filter 5). -/
def scaled6 (f : Nat → Nat → Nat) (sw sh w h x y : Nat) : Nat :=
  if sw = w && sh = h then f x y
  else
    let cols := (kernelAt 6 x w sw).map (fun c =>
      (Config.filtered 0 5 (phase y h sh) sh h ((kernelAt 6 y h sh).map (fun r => f c r))).toNat)
    (Config.filtered 1 5 (phase x w sw) sw w cols).toNat

/-- A sample at another depth: shifted left by 2 to 10 bits; rounded half up to 8 bits, within its range (DESIGN CHOICE, log 205). -/
def toDepth (din dout v : Nat) : Nat :=
  if din = 8 && dout = 10 then v * 4 else if din = 10 && dout = 8 then min 255 ((v + 2) / 4) else v

/-! Y′CbCr of an output (R335): limited range, rounding half up. -/

/-- 10,000 times Kr and Kb of BT.709 and BT.2020, which the matrices are named by. -/
def lumaCoef (prim : Nat) : Nat × Nat := if prim = 0 then (2126, 722) else (2627, 593)

/-- num / den rounded half up. -/
def halfUp (num : Int) (den : Nat) : Nat := ((2 * num + den) / (2 * den : Nat)).toNat

def ycc (prim depth : Nat) (v : Trip) : Trip :=
  let kr : Nat := (lumaCoef prim).1
  let kb : Nat := (lumaCoef prim).2
  let y : Nat := kr * v.1 + (10000 - kr - kb) * v.2.1 + kb * v.2.2
  let u : Nat := 2 ^ (depth - 8)
  let chroma (c k : Nat) : Nat :=
    let d := 2 * (10000 - k) * 4095
    halfUp (((u * 224 : Nat) : Int) * (((10000 * c : Nat) : Int) - ((y : Nat) : Int)) + ((u * 128 * d : Nat) : Int)) d
  (halfUp ((u * 219 * y + u * 16 * 40950000 : Nat) : Int) 40950000, chroma v.2.2 kb, chroma v.1 kr)

/-! Pictures. -/

/-- A pixel's own alpha: 255 but in Rosette images. -/
def Pix.alpha : Pix → Nat → Nat → Nat
  | .image w _ b, x, y => byteAt b (4 * (y * w + x) + 3)
  | _, _, _ => 255

/-- The sample of a picture at a luma place: Y′CbCr codes, or R′G′B′ where it is an image or a blend of layers. -/
def Pix.at : Pix → Nat → Nat → Trip
  | .decoded n depth up mono, x, y =>
    let k := if up && depth == 8 then 4 else 1
    let grey := 2 ^ (depth - 1) * k
    let v (plane x y : Nat) : Nat := (Config.sample n plane x y).toNat % 2 ^ depth * k
    (v 0 x y, if mono then grey else v 1 (x / 2) (y / 2), if mono then grey else v 2 (x / 2) (y / 2))
  | .grey depth, _, _ => (2 ^ (depth - 1), 2 ^ (depth - 1), 2 ^ (depth - 1))
  | .flat c, _, _ => packed10 c
  | .image w _ b, x, y => (byteAt b (4 * (y * w + x)), byteAt b (4 * (y * w + x) + 1), byteAt b (4 * (y * w + x) + 2))
  | .ground c tone, _, _ => converted fillRead tone (packed10 c)
  | .over below src l, x, y =>
    let b := below.at x y
    match l.place x y with
    | none => b
    | some (i, j) =>
      let v : Trip := (pick l (fun x y => (src.at x y).1) i j, pick l (fun x y => (src.at x y).2.1) i j,
        pick l (fun x y => (src.at x y).2.2) i j)
      blend3 l.alpha (min 255 (pick l src.alpha i j)) (converted l.read l.tone v) b
  | .frame src prim depth, x, y =>
    let at4 := [(0, 0), (1, 0), (0, 1), (1, 1)].map (fun o => ycc prim depth (src.at (x / 2 * 2 + o.1) (y / 2 * 2 + o.2)))
    ((ycc prim depth (src.at x y)).1, (Config.sited depth (at4.map (·.2.1))).toNat, (Config.sited depth (at4.map (·.2.2))).toNat)
  | .coded src sw sh din w h dout, x, y =>
    let luma := scaled6 (fun x y => (src.at x y).1) sw sh w h x y
    let cb := scaled6 (fun x y => (src.at (2 * x) (2 * y)).2.1) (sw / 2) (sh / 2) (w / 2) (h / 2) (x / 2) (y / 2)
    let cr := scaled6 (fun x y => (src.at (2 * x) (2 * y)).2.2) (sw / 2) (sh / 2) (w / 2) (h / 2) (x / 2) (y / 2)
    (toDepth din dout (luma % 2 ^ din), toDepth din dout (cb % 2 ^ din), toDepth din dout (cr % 2 ^ din))
  | .patched below prev pw ph din dout areas, x, y =>
    if !areas.any (fun r => r.1 ≤ x && x < r.1 + r.2.2.1 && r.2.1 ≤ y && y < r.2.1 + r.2.2.2) then below.at x y
    else if pw ≤ x || ph ≤ y then (2 ^ (dout - 1), 2 ^ (dout - 1), 2 ^ (dout - 1))
    else
      let v := prev.at x y
      (toDepth din dout v.1, toDepth din dout v.2.1, toDepth din dout v.2.2)

/-- The luma codes of a picture of a size, row by row; the largest and the mean, rounded down (Table 13.4). -/
def Pix.lumas (p : Pix) (w h : Nat) : List Nat := (List.range h).flatMap (fun y => (List.range w).map (fun x => (p.at x y).1))
def Pix.peak (p : Pix) (w h : Nat) : Nat := (p.lumas w h).foldl max 0
def Pix.mean (p : Pix) (w h : Nat) : Nat := (p.lumas w h).foldl (· + ·) 0 / (w * h)

end Sys2Proof.Machine
end

