-- ==== Sys2Proof/Machine/Vdec.lean ====
section
/-! DEFINITION. Video decoding (chapter 13): sessions, the reorder buffer, pictures from ready to complete or abandoned,
concealment and taint, and the retirement of decode cores. -/

namespace Sys2Proof.Machine

/-! Charge (R292). -/

/-- Luma pixels of one picture over the decoded layers. -/
def State.decPixels (s : State) (d : Nat) : Nat :=
  let top := s.rd Dec.MAX_LAYER d / 4
  let w := s.rd Dec.MAX_WIDTH d
  let h := s.rd Dec.MAX_HEIGHT d
  let size (k : Nat) : Nat := ceil2 (ceilDiv w (2 ^ (top - k))) * ceil2 (ceilDiv h (2 ^ (top - k)))
  if s.smode (s.rd Dec.SOURCE d) = 0 then sumOf ((List.range top).map size) + w * h else w * h

def State.decCharge (s : State) (d : Nat) : Nat := s.decPixels d * s.rd Dec.MAX_FPS d / 100000

/-! The pool (R303). -/

/-- The codec's largest reference set, in pictures. PRESUMED from the codecs' standards: 8 slots for AV1, 16 otherwise. -/
def refSet (codec : Nat) : Nat := if codec = 16 then 8 else 16

/-- Bytes of the samples of a session's picture buffers (R303), at the output depth: a native output of AV1 or HEVC may have 10
bits. -/
def State.decBytes (s : State) (d : Nat) : Nat :=
  (refSet (s.rd Src.CODEC (s.rd Dec.SOURCE d)) + s.rd Dec.OUT_EXTRA d) * (s.rd Dec.MAX_WIDTH d * s.rd Dec.MAX_HEIGHT d * 3 / 2) *
    (if s.rd Dec.OUT_DEPTH d = 1 || s.rd Src.CODEC (s.rd Dec.SOURCE d) != 18 then 2 else 1)

/-- Pictures of session d that compositors and encode sessions have latched. -/
def State.latchedOf (s : State) (d : Nat) : List Nat :=
  s.vid.out.flatMap (fun r => r.2.layers.flatMap (fun l =>
    if l.2.src = (1, d) then (l.2.pic.toList ++ l.2.good.toList).map (·.id) else [])) ++
  s.vid.enc.flatMap (fun r => match r.2.input with | some (k, p) => if k = d then [p.id] else [] | none => [])

/-- The planes of a picture by its descriptor (Table 13.4). -/
def PicX.planes (p : PicX) : List (Nat × Nat) :=
  let h := leAt p.desc 22 2
  let luma := leAt p.desc 40 8
  let chroma := leAt p.desc 48 8
  let stride := leAt p.desc 56 4
  [(luma, luma + stride * h), (chroma, chroma + stride * (h / 2))]

/-- Does a DMA channel read from a picture's planes? -/
def State.picRead (s : State) (p : PicX) : Bool := p.planes.any (fun r => s.dmaReads r.1 (r.2 - r.1))

/-- Does a picture hold a poisoned word (Table 16.3)? Reading it delivers those words with their flag. -/
def State.picBad (s : State) (p : PicX) : Bool := p.planes.any (fun r => s.poisonedAt r.1 (r.2 - r.1))
def State.picMeet (s : State) (p : PicX) : State := p.planes.foldl (fun s r => s.meetPoison r.1 (r.2 - r.1)) s

/-- Earlier output pictures that a DMA channel still holds. -/
def State.readBufs (s : State) (d : Nat) : List PicX := (s.decX d).read.filter s.picRead

/-- Buffers of a session that hold something: reference slots, the latest picture, latches, DMA readers, the picture in decode. -/
def State.heldBufs (s : State) (d : Nat) : Nat :=
  let x := s.decX d
  (distinct ((s.readBufs d).map (·.id) ++ (x.slots.filterMap (fun r => r.2.map (·.id))) ++ x.latest.toList.map (·.id) ++ s.latchedOf d)).length +
    (match x.cur with | some c => c.held.toNat | none => 0)

/-- Is a buffer of a session free? -/
def State.bufFree (s : State) (d : Nat) : Bool :=
  decide (s.heldBufs d < refSet (s.rd Src.CODEC (s.rd Dec.SOURCE d)) + s.rd Dec.OUT_EXTRA d)

/-! Input (R294). -/

/-- Packets that decode inputs still refer to (R19). -/
def State.decodePkts (s : State) : List Nat :=
  s.vid.dec.flatMap (fun r => r.2.buf ++ r.2.ready.flatMap (·.pkts) ++ (match r.2.cur with | some c => c.pic.pkts | none => []))

/-- A committed packet reaches the sessions that decode its source, those without a core among them (R294). Intra alternatives go to mosaics alone, and an E2E source
is decoded by none (R120). -/
def State.decodeInput (s : State) (pkt : Nat) (p : PktX) : State :=
  match p.tag with
  | none => s
  | some t =>
    if t.ia || s.on Src.E2E p.src then s
    else (s.elemsWith Dec.SOURCE p.src).foldl (fun s d =>
      let x := s.decX d
      let st := s.rd Dec.STATE d
      if st = 0 || st = 4 || x.gone || !covered (s.smode p.src) (s.rd Dec.MAX_LAYER d) (4 * t.s + t.t) then s
      else if x.lastTs = some p.ts || (match x.lastSeq with | some q => decide (p.seq ≤ q) | none => false) then s.bump Dec.LATE_PKTS d
      else s.decUpd d (fun x => { x with buf := x.buf ++ [pkt] })) s

/-- A packet with its tag. -/
def State.tagged (s : State) (n : Nat) : Option (Nat × PktX × TagX) :=
  match s.pkt? n with
  | some p => p.tag.map (fun t => (n, p, t))
  | none => none

/-- The highest and the lowest spatial layer that a session decodes of what its source now sends. -/
def State.decSpatial (s : State) (d : Nat) : Nat × Nat :=
  let src := s.rd Dec.SOURCE d
  let m := s.rd Dec.MAX_LAYER d
  let on := (List.range 3).filter (fun k => k ≤ m / 4 && (List.range 4).any (fun t => t ≤ m % 4 && s.layerPresent src (4 * k + t)))
  if s.smode src = 0 then (on.foldl max 0, on.foldl min 2) else (m / 4, m / 4)

/-- The next picture in decode order, as its time-stamp: the one of the lowest sequence number held, with its packets. -/
def State.nextPic (s : State) (d : Nat) : Option (Nat × List (Nat × PktX × TagX)) :=
  let l := (s.decX d).buf.filterMap s.tagged
  match l with
  | [] => none
  | a :: _ =>
    let first := l.foldl (fun m q => if q.2.1.seq < m.2.1.seq then q else m) a
    some (first.2.1.ts, l.filter (fun q => q.2.1.ts == first.2.1.ts))

/-- Numbers still missing between two numbers of a source. -/
def State.missingIn (s : State) (src lo hi : Nat) : Nat :=
  ((s.srcX src).missing.filter (fun m => lo ≤ m.1 && m.1 ≤ hi)).length

/-- Is the next picture ready: all its packets there, or REORDER_MS past? -/
def State.picReady (s : State) (d ts : Nat) (l : List (Nat × PktX × TagX)) : Bool :=
  let (top, low) := s.decSpatial d
  let seqs := l.map (·.2.1.seq)
  let lo := seqs.foldl min (seqs.headD 0)
  let hi := seqs.foldl max 0
  let eof := l.find? (fun q => q.2.2.eof && q.2.2.s == top)
  let whole := eof.isSome && l.any (fun q => q.2.2.sof && q.2.2.s == low) && s.missingIn (s.rd Dec.SOURCE d) lo hi == 0
  let later := ((s.decX d).buf.filterMap s.tagged).filter (fun q => q.2.1.ts != ts)
  let from_ : Option Nat := match eof, later with
    | some q, _ => some q.2.1.atNs
    | none, [] => none
    | none, q :: qs => some (qs.foldl (fun m r => min m r.2.1.atNs) q.2.1.atNs)
  whole || (match from_ with | some t => decide (s.rd Dec.REORDER_MS d * 1000000 ≤ s.ns - t) | none => false)

/-! Output (R304). -/

/-- The 64 bytes of Table 13.4. Buffer addresses and the stride are the device's own choice. -/
def picDesc (time session rtp count w h depth fmt flags layer : Nat) (r : PicResult) (area : Nat) (pix : Pix)
    (luma chroma stride : Nat) : Bytes :=
  natLE 10 time ++ natLE 2 session ++ natLE 4 rtp ++ natLE 4 count ++ natLE 2 w ++ natLE 2 h ++ natLE 1 depth ++ natLE 1 fmt ++
    natLE 1 flags ++ natLE 1 layer ++ natLE 1 r.primaries ++ natLE 1 r.transfer ++ natLE 1 r.colours ++ natLE 1 r.fullRange.toNat ++
    natLE 2 area ++ natLE 2 (pix.peak w h) ++ natLE 2 (pix.mean w h) ++ natLE 2 0 ++ natLE 8 luma ++ natLE 8 chroma ++ natLE 4 stride ++ natLE 4 0

/-- Fields of a descriptor. -/
def descW (b : Bytes) : Nat := leAt b 20 2
def descH (b : Bytes) : Nat := leAt b 22 2
def descFlags (b : Bytes) : Nat := byteAt b 26
def setDesc (b : Bytes) (o : Nat) (v : Bytes) : Bytes := b.take o ++ v ++ b.drop (o + v.length)

/-- A picture is output: it becomes the session's latest. What was the latest before this cycle is kept for latches of the cycle. -/
def State.picOut (s : State) (d : Nat) (p : PicX) : State :=
  let s := s.decUpd d (fun x => { x with
    latest := some p, outAt := some s.phys, before := if x.outAt = some s.phys then x.before else x.latest
    count := x.count + 1, read := (x.latest.toList ++ x.read).filter s.picRead })
  let s := ((s.bump Dec.PICTURES d).wr Dec.WIDTH d (descW p.desc)).wr Dec.HEIGHT d (descH p.desc)
  let s := if bitOf (descFlags p.desc) 0 then s.bump Dec.CONCEALED d else s
  s.wr Dec.LAST_DESC d (leNat p.desc)

/-- Keep a picture in reference slots, after others are emptied. -/
def DecX.keep (x : DecX) (i : PicInfo) (p : Option PicX) : DecX :=
  let t := i.clears.foldl (fun t k => Tbl.set none t k none) x.slots
  { x with slots := i.stores.foldl (fun t k => Tbl.set none t k p) t }

/-- The picture that a latch takes: a completion in the cycle of the tick comes after it (R303). -/
def State.newest (s : State) (d : Nat) : Option PicX :=
  let x := s.decX d
  if x.outAt = some s.phys then x.before else x.latest

/-- What raises the taint of a device-produced source ends with the second SP frame after it (R316). -/
def DecX.raise (x : DecX) : DecX := { x with spLeft := 2 }

/-! Start, completion and abandonment (R289, R290, R296, R297). -/

/-- Does a picture keep to Table 13.1, on u cores of its session? -/
def picListed (i : PicInfo) (codec u : Nat) : Bool :=
  let lim (one : Nat) : Nat := if u ≤ 1 then one else 61
  !i.odd && match codec with
    | 16 => i.profile == 0 && (i.depth == 8 || i.depth == 10) && i.chroma ≤ 1 && i.level ≤ lim 51
    | 17 => i.profile ≤ 1 && (i.depth == 8 || i.depth == 10) && i.chroma == 1 && i.level ≤ lim 51
    | _ => i.profile ≤ 2 && i.depth == 8 && i.chroma ≤ 1 && i.level ≤ lim 52

/-- The unit boundary nearest to the k-th of u equal shares: how many units lie before it. -/
def splitAt (sizes : List Nat) (u k : Nat) : Nat :=
  let far (b : Nat) : Nat := let x := sumOf (sizes.take b) * u; let t := k * sumOf sizes; (x - t) + (t - x)
  (List.range (sizes.length + 1)).foldl (fun b c => if far c < far b then c else b) 0

/-- Which of the cores used decodes each split unit (R296): wavefront rows in turn, tiles and slices in contiguous runs. -/
def picSplit (i : PicInfo) (cores : List Nat) : List Nat :=
  let u := cores.length
  let bounds := (List.range (u - 1)).map (fun k => splitAt i.units u (k + 1))
  (List.range i.units.length).map (fun r =>
    cores.getD (if i.wave then r % u else (bounds.filter (· ≤ r)).length) 0)

/-- Where two cores meet, the one below or to the right filters across the boundary, once the other has published its edge. -/
def splitEdges (split : List Nat) : List (Nat × Nat) :=
  (List.range split.length).filterMap (fun r =>
    if r ≠ 0 && split.getD r 0 != split.getD (r - 1) 0 then some (r, split.getD r 0) else none)

/-- A picture is abandoned: the previous output picture is emitted again with REPEAT and CONCEALED, and takes its place as
a reference. -/
def State.abandonPic (s : State) (d : Nat) (i : PicInfo) : State :=
  let x := s.decX d
  let s := s.bump Dec.ABANDONED d
  let rate := match x.abanAt with | some c => decide (cycS ≤ s.since c) | none => true
  let s := if rate then (s.decUpd d (fun x => { x with abanAt := some s.phys })).raise Ev.VD_ABANDON d toPlatform 0 else s
  let s := match x.latest with
    | none => s.decUpd d (fun x => x.keep i none)
    | some p =>
      let b := setDesc (setDesc (setDesc p.desc 0 (natLE 10 s.now80)) 16 (natLE 4 (x.count + 1))) 26 (natLE 1 (descFlags p.desc ||| 5))
      let q : PicX := { p with id := x.count + 1, desc := b }
      (s.picOut d q).decUpd d (fun x => (x.keep i (some q)).raise)
  if i.stores = [] then s else s.decRefresh d

/-- Cores that decode a picture now. -/
def State.vdBusy (s : State) : List Nat := s.vid.dec.flatMap (fun r => match r.2.cur with | some c => c.cores | none => [])

/-- A substitute of a size, marked missing (R300): 512 at 10 bits, 128 at 8 bits. -/
def State.substitute (s : State) (d w h depth : Nat) : PicX :=
  let out := if s.on Dec.OUT_DEPTH d then 10 else depth
  { id := 2 ^ 32
    desc := setDesc (List.replicate 64 0) 20 (natLE 2 w ++ natLE 2 h ++ natLE 1 out ++ natLE 1 (if out = 8 then 0 else 1) ++ natLE 1 3)
    pix := .grey out }

/-- A ready picture starts on its session's cores: refused, or its output buffer taken where one is free, and its references
resolved or substituted (R300). The lower layers that an SMODE 0 picture lacks are substituted at their sizes. -/
def State.startPic (s : State) (d : Nat) (cores : List Nat) (r : ReadyX) : State :=
  let i := r.info
  let x := s.decX d
  if !i.headersOk then s.abandonPic d i
  else if !picListed i (s.rd Src.CODEC (s.rd Dec.SOURCE d)) cores.length then
    let rate := match x.unsupAt with | some c => decide (cycS ≤ s.since c) | none => true
    let s := if rate then
      (s.decUpd d (fun x => { x with unsupAt := some s.phys })).raise Ev.VD_UNSUPPORTED d (toSlot (s.rd Dec.OWNER d)) 0 else s
    s.abandonPic d i
  else if s.decPixels d < i.luma then (s.raise Ev.VD_OVERSIZE d toPlatform 0).abandonPic d i
  else
    let gone := i.refs.filter (fun k => (Tbl.get none x.slots k).isNone)
    let n := gone.length + r.lower.length
    -- a substitute stands in its slot as a marked picture
    let sub := s.substitute d i.width i.height i.depth
    let s := s.decUpd d (fun x => { x with slots := gone.foldl (fun t k => Tbl.set none t k (some sub)) x.slots })
    let s := if n = 0 then s else ((s.bump Dec.MISSING_REF d n).decUpd d DecX.raise).decRefresh d
    let bad (k : Nat) : Bool := match Tbl.get none (s.decX d).slots k with | some p => bitOf (descFlags p.desc) 0 || bitOf (descFlags p.desc) 2 | none => true
    let used := cores.take (max 1 (min i.units.length cores.length))
    let s := if used.length < cores.length then s.bump Dec.SPLIT_SHORT d else s
    let (luma, s) := s.draw 64
    let (chroma, s) := s.draw 64
    let (stride, s) := s.draw 32
    let split := picSplit i used
    s.decUpd d (fun x => { x with cur := some {
      pic := r
      at_ := s.phys
      cores := used
      missing := decide (0 < n)
      taint := r.lower != [] || i.refs.any bad
      held := s.bufFree d
      luma := luma
      chroma := chroma
      stride := stride
      split := split
      edges := splitEdges split
      subs := r.lower.map (fun k =>
        s.substitute d (ceil2 (ceilDiv i.width (2 ^ k))) (ceil2 (ceilDiv i.height (2 ^ k))) i.depth) } })

/-- One waiting picture of a session leaves the queue. -/
def State.unqueue (s : State) (d : Nat) : State := { s with vid := { s.vid with queue := s.vid.queue.erase d } }

/-- The cores start the ready pictures in the order in which they became ready; a picture that waits for a core keeps
later ones from it. -/
def State.startReady : Nat → List Nat → List Nat → State → State
  | 0, _, _, s => s
  | _, _, [], s => s
  | k + 1, blocked, d :: rest, s =>
    let x := s.decX d
    let cores := bitsSet (s.rd Dec.CORES d)
    match x.ready with
    | [] => State.startReady k blocked rest (s.unqueue d)
    | r :: rs =>
      if x.cur.isSome || cores = [] || cores.any (fun v => s.vdBusy.contains v || blocked.contains v) then
        State.startReady k (cores ++ blocked) rest s
      else
        let s := (s.decUpd d (fun x => { x with ready := rs })).unqueue d
        State.startReady k blocked rest (s.startPic d cores r)

def State.startPics (s : State) : State := State.startReady s.vid.queue.length [] s.vid.queue s

/-- The last number that counts as the picture's: of a picture without its EOF packet, what is missing up to the first packet of a
later one is its own (DESIGN CHOICE, log 217). -/
def State.picEnd (s : State) (d ts top : Nat) (l : List (Nat × PktX × TagX)) : Nat :=
  let hi := (l.map (·.2.1.seq)).foldl max 0
  if l.any (fun q => q.2.2.eof && q.2.2.s == top) then hi
  else match (((s.decX d).buf.filterMap s.tagged).filter (fun q => q.2.1.ts != ts)).map (·.2.1.seq) with
    | [] => hi
    | q :: qs => max hi (qs.foldl min q - 1)

/-- PICTURE_READY: the next picture of a session is ready, and its headers are read. Nothing is decoded before a random access
point, or START_MS, nor while no parameter sets are known (R295). -/
def pictureReady (d : Nat) (i : PicInfo) (s : State) : State :=
  let st := s.rd Dec.STATE d
  if st = 0 || st = 4 then s
  else match s.nextPic d with
  | none => s
  | some (ts, l) =>
    if !s.picReady d ts l then s
    else
      let x := s.decX d
      let (top, low) := s.decSpatial d
      let hi := s.picEnd d ts top l
      let seqs := l.map (·.2.1.seq)
      let lo := match x.lastSeq with | some q => q + 1 | none => seqs.foldl min hi
      let lost := s.missingIn (s.rd Dec.SOURCE d) lo hi
      let params := x.params || i.params
      let r : ReadyX := {
        ts := ts
        layer := l.foldl (fun m q => max m (4 * q.2.2.s + q.2.2.t)) 0
        pkts := l.map (·.1)
        info := i
        lower := ((List.range top).filter (fun k => low ≤ k && !l.any (fun q => q.2.2.s == k))).map (fun k => top - k)
        lost := lost
        sp := s.rd Src.LEG (s.rd Dec.SOURCE d) == 0xFFFFFFFF && l.any (fun q => q.2.2.sp && q.2.2.s == top) }
      let take := params && (x.started || i.rap || x.late)
      let s := s.bump Dec.LOST_PKTS d lost
      let s := s.decUpd d (fun x => { x with
        buf := x.buf.filter (fun n => !r.pkts.contains n)
        lastTs := some ts
        lastSeq := some hi
        params := params
        started := x.started || take
        ready := if take then x.ready ++ [r] else x.ready })
      if !take then s
      else
        let s := if st = 1 then s.wr Dec.STATE d 2 else s
        State.startPics { s with vid := { s.vid with queue := s.vid.queue ++ [d] } }

/-- The budget B of a picture in whole cycles (R297). -/
def CurX.budget (c : CurX) : Nat := max (2 * c.pic.info.luma * cycS / (497664000 * max 1 c.cores.length)) (200 * cycUs)

/-- Does a picture end the taint (R301): the second SP frame of a device-produced source, or the end of an HEVC or AVC recovery
period? -/
def DecX.clears (x : DecX) (codec : Nat) (c : CurX) : Bool :=
  (c.pic.sp && x.spLeft == 1) || (codec != 16 && match x.recoverAt with | some o => decide (o ≤ c.pic.info.order) | none => false)

/-- The recovery period and the SP frames still due after a picture. -/
def DecX.recover (x : DecX) (c : CurX) : DecX :=
  { x with
    spLeft := if c.pic.sp then x.spLeft - 1 else x.spLeft
    recoverAt := match c.pic.info.recovery with
      | some n => some (c.pic.info.order + n)
      | none => (match x.recoverAt with | some o => if o ≤ c.pic.info.order then none else some o | none => none) }

/-- CONC_AREA: the concealed share in thousandths, rounded up. -/
def concArea (areas : List (Nat × Nat × Nat × Nat)) (w h : Nat) : Nat :=
  min 1000 (ceilDiv (1000 * sumOf (areas.map (fun r => r.2.2.1 * r.2.2.2))) (w * h))

/-- What a decoded picture shows: its own samples, with concealed areas from the previous output picture or mid-grey (R299). -/
def State.decodedPix (s : State) (d depth : Nat) (i : PicInfo) (areas : List (Nat × Nat × Nat × Nat)) : Pix :=
  let own : Pix := .decoded s.draws i.depth (s.on Dec.OUT_DEPTH d) (i.chroma == 0)
  if areas = [] then own
  else match (s.decX d).latest with
    | some p => .patched own p.pix (descW p.desc) (descH p.desc) (byteAt p.desc 24) depth areas
    | none => .patched own (.grey depth) 0 0 depth depth areas

/-- PICTURE_COMPLETE: the picture in decode is marked complete and its descriptor written (R296, R299 to R304). One that took no
buffer at its start waits for one. -/
def pictureComplete (d : Nat) (r : PicResult) (s : State) : State :=
  let x := s.decX d
  match x.cur with
  | none => s
  | some c =>
    if c.budget < s.since c.at_ || !(c.held || s.bufFree d) then s
    else
      let i := c.pic.info
      let poisoned := (i.refs.filterMap (fun k => Tbl.get none x.slots k)).filter s.picBad
      let s := poisoned.foldl (fun s p => s.picMeet p) s
      let damage : Bool := r.conceal != [] || decide (0 < c.pic.lost) || poisoned != []
      let taint : Bool := c.taint && !x.clears (s.rd Src.CODEC (s.rd Dec.SOURCE d)) c
      let conc : Bool := damage || c.missing || taint
      let flags := conc.toNat + 2 * c.missing.toNat + 8 * taint.toNat + 16 * i.rap.toNat +
        32 * (r.mdcv != [] || r.cll != []).toNat + 64 * (i.chroma == 0).toNat
      let depth := if s.rd Dec.OUT_DEPTH d = 1 then 10 else i.depth
      let pix := s.decodedPix d depth i r.conceal
      let (_, s) := s.draw 1
      let desc := picDesc s.now80 d c.pic.ts (x.count + 1) i.width i.height depth (if depth = 8 then 0 else 1) flags c.pic.layer
        r (concArea r.conceal i.width i.height) pix c.luma c.chroma c.stride
      let p : PicX := { id := x.count + 1, desc := desc, mdcv := r.mdcv, cll := r.cll, pix := pix }
      let s := s.picOut d p
      let s := s.decUpd d (fun x => { (x.keep i (some p)).recover c with cur := none })
      let s := if damage then s.decUpd d DecX.raise else s
      let s := c.cores.foldl (fun s v => s.bump Vd.PICTURES v) s
      let s := if damage && i.stores ≠ [] then s.decRefresh d else s
      s.startPics

/-! Retirement of a decode core (R305, R308). -/

def State.vdX (s : State) (v : Nat) : UnitX := Tbl.get {} s.vid.vds v
def State.vdUpd (s : State) (v : Nat) (f : UnitX → UnitX) : State := { s with vid := { s.vid with vds := Tbl.upd {} s.vid.vds v f } }

/-- The picture that a session has in decode is abandoned. -/
def State.abandonCur (s : State) (d : Nat) : State :=
  match (s.decX d).cur with
  | none => s
  | some c => (s.decUpd d (fun x => { x with cur := none })).abandonPic d c.pic.info

/-- A session without cores is placed, or goes to NO_CORE. -/
def State.decReplace (s : State) (d : Nat) : State :=
  match s.placeCores vdCols (s.rd Dec.CHARGE d) with
  | some (vs, s) =>
    let s := s.wr Dec.CORES d (maskOf vs)
    if s.rd Dec.STATE d = 3 then s.wr Dec.STATE d (if (s.decX d).started then 2 else 1) else s
  | none =>
    if s.rd Dec.STATE d = 3 then s
    else ((s.wr Dec.CORES d 0).wr Dec.STATE d 3).raise Ev.VD_NO_CORE d toPlatform 0

/-- NO_CORE sessions are placed again, in ascending order, whenever a session closes. -/
def State.decReplaceAll (s : State) : State := (s.elemsWith Dec.STATE 3).foldl (fun s d => s.decReplace d) s

/-- A decode core retires. Its work is handed on as the cycle ends (State.handOffVd): a completion of the same cycle stands. -/
def State.retireVd (s : State) (v cause : Nat) : State :=
  if s.rd Vd.STATE v ≠ 0 then s
  else
    let s := (s.wr Vd.STATE v 1).wr Vd.CAUSE v cause
    let s : State := { s with vid := { s.vid with retired := s.vid.retired ++ [(1, v)] } }
    s.unitRetired 3 v cause s.vdIn (s.cap .vdec)

/-- The picture that a retired core was decoding is abandoned, and its sessions are placed again. -/
def State.handOffVd (s : State) (v : Nat) : State :=
  let ds := ((s.column Dec.CORES).filter (fun r => bitOf r.2 v)).map (·.1)
  let s := ds.foldl (fun s d =>
    let s := match (s.decX d).cur with | some c => if c.cores.contains v then s.abandonCur d else s | none => s
    s.leaveCores vdCols (s.rd Dec.CHARGE d) (bitsSet (s.rd Dec.CORES d))) s
  let s := (s.wr Vd.USED v 0).wr Vd.SESSIONS v 0
  let s := ds.foldl (fun s d => (s.wr Dec.CORES d 0).decReplace d) s
  s.startPics

/-! The window descriptors of a decode core (R298). -/

/-- What the core that decodes a picture may write: the picture's planes, the session's descriptor slot and context area; and what
it may read: the session's references, reorder buffer and context area. -/
def State.decWindows (s : State) (d : Nat) (c : CurX) (write : Bool) : List (Nat × Nat) :=
  let area (k : Nat) : Nat × Nat := ((Config.decArea d k).1, (Config.decArea d k).1 + (Config.decArea d k).2)
  if write then
    [(c.luma, c.luma + c.stride * c.pic.info.height), (c.chroma, c.chroma + c.stride * (c.pic.info.height / 2)), area 0, area 1]
  else ((s.decX d).slots.filterMap (·.2)).flatMap PicX.planes ++ [area 1, area 2]

def State.decMay (s : State) (d : Nat) (c : CurX) (a : CoreAccess) : Bool :=
  (s.decWindows d c a.write).any (fun r => r.1 ≤ a.addr && a.addr + (if a.write then a.data.length else a.n) ≤ r.2)

/-- An access of the core: inside its windows it is performed; outside them a write is not, and a read returns zeros. -/
def State.decAccess (s : State) (d : Nat) (c : CurX) (a : CoreAccess) : Bytes × State :=
  if !s.decMay d c a then (List.replicate a.n 0, s)
  else if a.write then ([], s.hbmWrite 12 a.addr a.data)
  else s.hbmRead 12 a.addr a.n

/-- A window fault of core v on session d. -/
def State.decWindowFault (s : State) (d v : Nat) : State :=
  let s := ((s.abandonCur d).bump Dec.WINDOW_FAULT d).bump Vd.WINDOW_FAULT v
  let s := s.raise Ev.VD_WINDOW_FAULT d toPlatform v
  let l := s.addDay (s.vdX v).faultAt
  let s := s.vdUpd v (fun x => { x with faultAt := l })
  if 2 ≤ l.length then s.retireVd v 2 else s.startPics

/-- PICTURE_ABANDON: 0 the picture is past its budget; 1 core v makes a memory access, which abandons the picture where it lies
outside the windows; 2 an uncorrectable error of an internal memory of core v (R297, R298, R308, R446). -/
def pictureAbandon (d fault v : Nat) (a : CoreAccess) (s : State) : State :=
  match (s.decX d).cur with
  | none => s
  | some c =>
    if fault = 0 then (if s.since c.at_ ≤ c.budget then s else (s.abandonCur d).startPics)
    else if !c.cores.contains v then s
    else if fault = 1 then
      let r := s.decAccess d c a
      if s.decMay d c a then r.2 else r.2.decWindowFault d v
    else
      let s := (s.abandonCur d).parityError 5 v toPlatform
      let l := s.addDay (s.vdX v).memAt
      let s := s.vdUpd v (fun x => { x with memAt := l })
      if 2 ≤ l.length then s.retireVd v 3 else s.startPics

/-! Timers of WAIT_RAP (R295). -/

/-- START_MS_EXPIRY: decoding may start with substitution. -/
def startMsExpiry (d : Nat) (s : State) : State :=
  let x := s.decX d
  if s.rd Dec.STATE d ≠ 1 || x.late || s.since x.openAt < s.rd Dec.START_MS d * cycMs then s
  else s.decUpd d (fun x => { x with late := true })

/-- WAIT_RAP_REFRESH: without parameter sets the refresh request is repeated every 500 ms. -/
def waitRapRefresh (d : Nat) (s : State) : State :=
  if s.rd Dec.STATE d ≠ 1 || (s.decX d).params then s else s.decRefresh d

/-! Opening and closing (R291, R306). -/

def decodeOpen (h d : Nat) (s : State) : Except Status State :=
  let src := s.rd Dec.SOURCE d
  let codec := s.rd Src.CODEC src
  let fits : Bool := s.rd Src.STATE src == 1 && s.rd Src.MEDIA src == 1 && decide (16 ≤ codec && codec ≤ 18) && !s.on Src.E2E src
  let big : Bool := 4 * 49766400000 < s.rd Dec.MAX_WIDTH d * s.rd Dec.MAX_HEIGHT d * s.rd Dec.MAX_FPS d
  let r := s.decCharge d
  guarded [(src < 262144 && !s.reaches .src h src, .eNoObj), (big || 4 * coreRate < r, .eRange), (s.rd Dec.STATE d != 0, .eState),
      (!fits, .eState), (!s.hbmUp, .eState)]
    (match s.admission h .vdec r with
     | .error e => .error e
     | .ok t => match t.placeCores vdCols r with
       | none => .error .eCapacity
       | some (vs, t) =>
         let t := (((t.wr Dec.STATE d 1).wr Dec.OWNER d h).wr Dec.CORES d (maskOf vs)).wr Dec.CHARGE d r
         let x : DecX := { openAt := t.phys }
         match t.poolTake 1 d (s.decBytes d) 24 with
         | none => .error .eCapacity
         | some t => .ok (State.decRefresh { t with vid := { t.vid with dec := Tbl.set {} t.vid.dec d x } } d))

/-- A closing session whose last buffer is free is FREE, and its charge is released. -/
def State.decFree (s : State) (d : Nat) : State :=
  if s.rd Dec.STATE d ≠ 4 || s.latchedOf d ≠ [] || s.readBufs d ≠ [] then s
  else
    let s := s.chargeBy (s.rd Dec.OWNER d) .vdec (-(s.rd Dec.CHARGE d : Int))
    let s := (s.freeEl Dec.index d decCounters).poolGive 1 d
    { s with vid := { s.vid with dec := Tbl.set {} s.vid.dec d {} } }

/-- Closing sessions that can be freed are. -/
def State.decSweep (s : State) : State := (s.elemsWith Dec.STATE 4).foldl (fun s d => s.decFree d) s

def decodeClose (d : Nat) (s : State) : Except Status State :=
  let st := s.rd Dec.STATE d
  if st = 0 || st = 4 then .error .eState
  else
    let s := if st = 3 then s else s.leaveCores vdCols (s.rd Dec.CHARGE d) (bitsSet (s.rd Dec.CORES d))
    let s := s.decUpd d (fun x => { x with
      buf := [], ready := [], cur := none, slots := [], latest := none
      read := (x.latest.toList ++ x.read ++ x.slots.filterMap (·.2)).filter s.picRead })
    let s := { s with vid := { s.vid with queue := s.vid.queue.filter (· != d) } }
    .ok (((((s.wr Dec.CORES d 0).wr Dec.STATE d 4).decFree d).decReplaceAll).startPics)

/-- A write to an object of 0x4000. -/
def decWrite (h col d v : Nat) (s : State) : Except Status State :=
  if col = Dec.CMD then (if v = 1 then decodeOpen h d s else decodeClose d s)
  else guarded [((col == Dec.MAX_WIDTH || col == Dec.MAX_HEIGHT) && v % 2 == 1, .eRange), (s.rd Dec.STATE d != 0, .eState)] (.ok (s.wr col d v))

/-! The commands. -/

def execDecodeOpen (h d : Nat) (s : State) : Out := live (hostWrite h Dec.CMD d 1 (decodeOpen h d)) s

def execDecodeClose (h d : Nat) (s : State) : Out := live (hostWrite h Dec.CMD d 2 (decodeClose d)) s

def execPictureReady (d : Fin 2048) (info : PicInfo) (s : State) : Out := live (pictureReady d info) s

def execPictureComplete (d : Fin 2048) (result : PicResult) (s : State) : Out := live (pictureComplete d result) s

def execPictureAbandon (d : Fin 2048) (fault : Fin 3) (core : Fin 16) (access : CoreAccess) (s : State) : Out :=
  live (pictureAbandon d fault core access) s

def execStartMsExpiry (d : Fin 2048) (s : State) : Out := live (startMsExpiry d) s

def execWaitRapRefresh (d : Fin 2048) (s : State) : Out := live (waitRapRefresh d) s

end Sys2Proof.Machine
end

