-- ==== Sys2Proof/Machine/Ingress.lean ====
section
/-! DEFINITION. Media ports, ingress, policing and punting (chapter 4, R81 to R103), with the tagging of R104 to R106: a
frame's arrival, classification, replay pre-check and metering; the commit of a packet; links and ports; meters. -/

namespace Sys2Proof.Machine

/-! Meters (R98, R99). -/

/-- mark of R98 on a meter's state: 0 green, 1 yellow, 2 red, and the state after. -/
def meterMark (aware : Bool) (cir cbs pir pbs : Nat) (m : MeterX) (b t pre : Nat) : Nat × MeterX :=
  let e := t - m.last
  let tc := min (m.tc + cir * e) (cbs * tokB)
  let tp := min (m.tp + pir * e) (pbs * tokB)
  let need := b * tokB
  let pre := if aware then pre else 0
  if pre = 2 || tp < need then (2, ⟨tc, tp, t⟩)
  else if pre = 1 || tc < need then (1, ⟨tc, tp - need, t⟩)
  else (0, ⟨tc - need, tp - need, t⟩)

def State.meterX (s : State) (src : Nat) : MeterX := Tbl.get {} s.ing.meters src
def State.meterSet (s : State) (src : Nat) (m : MeterX) : State :=
  { s with ing := { s.ing with meters := Tbl.set {} s.ing.meters src m } }

/-- A packet of b bytes is marked by its source's meter and counted in its colour. -/
def State.mark (s : State) (src b pre : Nat) : Nat × State :=
  if !s.on Meter.ENABLE src then (0, s.bump Meter.GREEN src)
  else
    let r := meterMark (s.on Meter.AWARE src) (s.rd Meter.CIR src) (s.rd Meter.CBS src) (s.rd Meter.PIR src) (s.rd Meter.PBS src)
      (s.meterX src) b s.ns pre
    (r.1, (s.meterSet src r.2).bump (if r.1 = 0 then Meter.GREEN else if r.1 = 1 then Meter.YELLOW else Meter.RED) src)

/-- The pre-colour of a DSCP on an arrival port; green on FP0 and FP1. -/
def State.preColour (s : State) (port dscp : Nat) : Nat :=
  if port < 16 then s.rd Lp.DSCP_COLOUR port / 4 ^ dscp % 4 else 0

/-- A write to a meter in a transaction with writes ws (R99): buckets fill and are clamped to the bursts that the transaction
leaves. CIR against PIR is checked on what it leaves too. -/
def meterWrite (ws : List WriteOp) (col src v : Nat) (s : State) : Except Status State :=
  if s.rd Src.STATE src ≠ 1 then .error .eState
  else if col = Meter.CMD then .ok (s.meterFull ws src)
  else
    let t := s.wr col src v
    if col = Meter.ENABLE && v = 1 && !s.on Meter.ENABLE src then .ok (t.meterFull ws src)
    else
      let m := t.meterX src
      .ok (t.meterSet src { m with
        tc := min m.tc (t.burstAfter ws Meter.CBS src * tokB)
        tp := min m.tp (t.burstAfter ws Meter.PBS src * tokB) })

/-! Punting (R100 to R102). -/

def State.puntQ (s : State) (h : Nat) : PuntQ := Tbl.get {} s.ing.punts h
def State.puntUpd (s : State) (h : Nat) (f : PuntQ → PuntQ) : State :=
  { s with ing := { s.ing with punts := Tbl.upd {} s.ing.punts h f } }

/-- Can a host's punt route carry a frame: its PUNT ring enabled, or its UDP session OPEN? -/
def State.puntRoute (s : State) (h : Nat) : Bool :=
  let x := Tbl.get {} s.ctl.hosts h
  if s.rd Punt.ROUTE h = 0 then (Tbl.get {} x.rings 3).enable else x.open_.isSome

/-- The host of a punted frame. -/
def State.puntHost (s : State) (reason : Nat) (leg dport : Option Nat) : Nat :=
  match leg with
  | some l => s.rd Leg.OWNER l
  | none =>
    if reason = 8 || reason = 9 then 0
    else match dport with
      | none => 0
      | some d =>
        match (List.range 16).find? (fun i =>
            s.on PuntRule.ENABLE i && s.rd PuntRule.UDP_LO i ≤ d && d ≤ s.rd PuntRule.UDP_HI i) with
        | some i => s.rd PuntRule.HOST i
        | none => 0

/-- A token bucket's depth in frames. -/
def puntDepth (pps : Nat) : Nat := ceilDiv pps 1000

/-- The bucket of a host's punt queue now, in 10^-9 frame. -/
def State.puntTokens (s : State) (h : Nat) : Nat :=
  let q := s.puntQ h
  let full := puntDepth (s.rd Punt.PPS_MAX h) * 10 ^ 9
  match q.tok with
  | none => full
  | some t => min full (t + s.rd Punt.PPS_MAX h * (s.ns - q.at_))

/-- A write of PPS_MAX: what has accrued under the old value stays, within the new depth (R101). -/
def State.ppsWrite (s : State) (h v : Nat) : State :=
  let t := s.puntTokens h
  (s.wr Punt.PPS_MAX h v).puntUpd h (fun q => { q with tok := some (min t (puntDepth v * 10 ^ 9)), at_ := s.ns })

/-- A frame dropped for rate or space: the first after a second without drops raises PUNT_OVERFLOW. -/
def State.puntDrop (s : State) (h : Nat) : State :=
  let fresh := match (s.puntQ h).dropAt with | some c => decide (cycS ≤ s.since c) | none => true
  let s := (s.bump Punt.DROPS h).puntUpd h (fun q => { q with dropAt := some s.phys })
  if fresh then s.raise Ev.PUNT_OVERFLOW h (toSlot h) 0 else s

/-- PUNT_ENQUEUE (R101). A drop for want of a route leaves the second without drops as it is (DESIGN CHOICE, log 231). -/
def State.puntTo (s : State) (h : Nat) (x : PuntX) : State :=
  if !s.puntRoute h then s.bump Punt.DROPS h
  else
    let t := s.puntTokens h
    if t < 10 ^ 9 then (s.puntUpd h (fun q => { q with tok := some t, at_ := s.ns })).puntDrop h
    else if 4096 ≤ (s.puntQ h).queue.length then s.puntDrop h
    else
      let s := s.puntUpd h (fun q => { q with queue := q.queue ++ [x], tok := some (t - 10 ^ 9), at_ := s.ns })
      s.wr Punt.QUEUED h (s.puntQ h).queue.length

/-- The destination UDP port that a frame's bytes hold, where they are UDP over IPv4, or over IPv6 without extension headers. -/
def udpDport (raw : Bytes) : Option Nat :=
  let off := if beAt raw 12 2 = 0x8100 || beAt raw 12 2 = 0x88A8 then 16 else 12
  match beAt raw off 2 with
  | 0x0800 => if beAt raw (off + 11) 1 = 17 then some (beAt raw (off + 4 + beAt raw (off + 2) 1 % 16 * 4) 2) else none
  | 0x86DD => if beAt raw (off + 8) 1 = 17 then some (beAt raw (off + 44) 2) else none
  | _ => none

/-- The destination UDP port of a frame, where it has one. -/
def dportOf (f : Frame) : Option Nat :=
  match f.l3 with
  | .udp _ _ _ _ d _ _ _ => some d
  | .fragment d => d
  | .options d => d
  | .ptp => udpDport f.raw
  | .ptpManagement => udpDport f.raw
  | _ => none

/-- Is a frame IPv6? Fragments and options of either version count by their EtherType. -/
def frameV6 (f : Frame) : Bool :=
  match f.l3 with | .udp v6 _ _ _ _ _ _ _ => v6 | _ => f.etype == 0x86DD

/-- A frame goes to the punt path. -/
def State.punt (s : State) (f : Frame) (reason : Nat) (leg : Option Nat) : State :=
  s.puntTo (s.puntHost reason leg (dportOf f))
    { reason := reason, port := f.port, vid := f.vids.headD 0xFFFF, v6 := frameV6 f, leg := leg.getD 0xFFFFFFFF,
      time := time80 (s.ingressTime f.port).toNat, raw := f.raw }

/-- The header of Table 4.10; `be` for the UDP route's network order. TIME80 is kept in the order of R5. -/
def puntHeader (be : Bool) (x : PuntX) (seq : Nat) : Bytes :=
  let n (k v : Nat) : Bytes := if be then natBE k v else natLE k v
  let vlan : Bool := x.vid != 0xFFFF
  [1, BitVec.ofNat 8 x.reason, BitVec.ofNat 8 x.port, BitVec.ofNat 8 (vlan.toNat + 2 * x.v6.toNat)] ++
    n 2 x.vid ++ n 2 x.raw.length ++ n 4 x.leg ++ n 4 (if x.reason = 4 then 0xFFFFFFFE else 0xFFFFFFFF) ++
    n 10 x.time ++ n 4 seq ++ n 2 0

/-! The FIFO (R84 to R88). -/

/-- The bits of a number that are 1. -/
def onesOf (w n : Nat) : Nat := ((List.range w).filter (bitOf n)).length

/-- Does a list of columns make a code that corrects one error and detects two: 128 different columns of 9 bits, each of odd
weight above 1? -/
def secdedOk (cs : List Nat) : Bool :=
  cs.length == 128 && distinct cs == cs && cs.all (fun c => decide (c < 512) && decide (1 < onesOf 9 c) && onesOf 9 c % 2 == 1)

/-- The columns of the FIFO's code. Which code of that kind the device uses is left open (log 213). -/
def fifoColumns : List Nat :=
  if secdedOk Config.fifoColumns then Config.fifoColumns
  else ((List.range 512).filter (fun c => decide (1 < onesOf 9 c) && onesOf 9 c % 2 == 1)).take 128

/-- The 9 check bits of a word's data. -/
def checkBits (data : BitVec 128) : BitVec 9 :=
  (fifoColumns.zipIdx).foldl (fun a c => if data.getLsbD c.2 then a ^^^ BitVec.ofNat 9 c.1 else a) 0

/-- A FIFO word (Table 4.4): 16 packet bytes, the earliest in [7:0], and their check bits. -/
def fifoWord (b : Bytes) : BitVec 137 :=
  let data := BitVec.ofNat 128 (leNat b)
  (checkBits data).append data

/-- A read of a word: its data, and whether one bit was corrected; none of a word with an uncorrectable error (R84, R85). -/
def readFifoWord (w : BitVec 137) : Option (BitVec 128 × Bool) :=
  let data := w.setWidth 128
  let syn := (checkBits data ^^^ (w >>> 128).setWidth 9).toNat
  if syn = 0 then some (data, false)
  else if onesOf 9 syn = 1 then some (data, true)
  else match fifoColumns.findIdx? (· == syn) with
    | some i => some (data ^^^ (1 <<< i), true)
    | none => none

/-- The words that a packet of these bytes takes. -/
def fifoWords (b : Bytes) : List (BitVec 137) :=
  (List.range (ceilDiv b.length 16)).map (fun i => fifoWord (slice b (16 * i) 16))

/-- What the reads of a frame's upset words find, each word with some bits flipped since it was stored. -/
def upsetReads (f : Frame) : List (Option (BitVec 128 × Bool)) :=
  let ws := fifoWords f.raw
  (f.upset.filter (fun u => u.1 < ws.length)).map (fun u =>
    readFifoWord (u.2.foldl (fun w i => w ^^^ (1 <<< i)) (ws.getD u.1 0)))

/-- Words of a frame corrected on reading it. -/
def ceWords (f : Frame) : Nat := (upsetReads f).countP (fun r => match r with | some (_, c) => c | none => false)

/-- Is a word of a frame uncorrectable, or its descriptor's parity wrong (R85)? -/
def frameUe (f : Frame) : Bool := f.descParity || (upsetReads f).contains none

def State.flight (s : State) (p : Nat) : List InX := Tbl.get [] s.ing.flight p

/-- The words held in the FIFO of a port, and its word i: 0, the reset value, where it holds no packet's. -/
def State.fifo (s : State) (p : Nat) : List (BitVec 137) := (s.flight p).flatMap (fun x => fifoWords x.frame.raw)
def State.fifoAt (s : State) (p i : Nat) : BitVec 137 := (s.fifo p).getD i 0

/-- The packets in flight of a port. FIFO_LEVEL counts their bytes, FCS included (DESIGN CHOICE, log 155). -/
def State.flightSet (s : State) (p : Nat) (l : List InX) : State :=
  let s : State := { s with ing := { s.ing with flight := Tbl.set [] s.ing.flight p l } }
  if p < 16 then s.wr Lp.FIFO_LEVEL p (sumOf (l.map (fun x => x.frame.length))) else s

/-- A frame the MAC has accepted. -/
def State.rxCount (s : State) (f : Frame) : State :=
  if f.port.val < 16 then (s.bump Lp.RX_FRAMES f.port).bump Lp.RX_BYTES f.port f.length else s

/-- A frame with a bad FCS is counted in FCS_ERR alone. -/
def State.fcsCount (s : State) (f : Frame) : State := if f.port.val < 16 then s.bump Lp.FCS_ERR f.port else s

/-- A frame whose fate was settled before its end: counted as received, or for its FCS. -/
def State.settled (s : State) (f : Frame) : State := if f.fcsOk then s.rxCount f else s.fcsCount f

/-- An uncorrectable FIFO word or descriptor. -/
def State.fifoUe (s : State) (f : Frame) : State :=
  if f.port.val < 16 then (s.bump Lp.UE_COUNT f.port).raise Ev.FIFO_UE f.port toPlatform 0 else s

/-- Corrected FIFO words: the correction gives the stored bytes back, and is counted, and reported where a second holds more than CE_THRESH. -/
def State.fifoCe (s : State) (p n : Nat) : State :=
  if n = 0 then s
  else
    let s := s.bump Lp.CE_COUNT p n
    let sec := s.ns / 1000000000
    let (at_, had) := Tbl.get (0, 0) s.ing.ce p
    let had := if at_ = sec then had else 0
    let s := { s with ing := { s.ing with ce := Tbl.set (0, 0) s.ing.ce p (sec, had + n) } }
    let th := s.rd Lp.CE_THRESH p
    if th ≠ 0 && had ≤ th && th < had + n then s.raise Ev.FIFO_CE_RATE p toPlatform (had + n) else s

/-! Classification (R90 to R94). -/

/-- The ACTIVE leg of a classifier key. -/
def State.legFor (s : State) (port vid : Nat) (v6 : Bool) (src dst sport dport : Nat) : Option Nat :=
  (s.elemsWith Leg.STATE 2).find? (fun l =>
    (if s.radio l then 16 + s.rd Leg.PORT l else s.rd Leg.PORT l) == port && s.rd Leg.VLAN l == vid &&
    s.rd Leg.LOCAL_IP l == dst && s.rd Leg.LOCAL_UDP l == dport && s.rd Leg.REMOTE_IP l == src &&
    s.rd Leg.REMOTE_UDP l == sport && isV4 (s.rd Leg.LOCAL_IP l) == !v6)

/-- The header extension elements of a packet that the leg's IDs name, within its first 1,024 bytes: kind and data. -/
def State.extracted (s : State) (l : Nat) (r : RtpPkt) : List (Nat × Bytes) :=
  [0, 1, 2].filterMap (fun k =>
    let id := s.extId l k
    if id = 0 then none else (r.exts.find? (fun e => e.id == id && e.endsAt ≤ 1024)).map (fun e => (k, e.data)))

/-- The packet index of a sequence number (RFC 3711, section 3.3.1). -/
def indexOf (top : Option Nat) (seq : Nat) : Nat :=
  match top with
  | none => seq
  | some h =>
    let roc := h / 65536
    let sl := h % 65536
    let v := if sl < 32768 then (if 32768 + sl < seq then (roc + 2 ^ 32 - 1) % 2 ^ 32 else roc)
      else if seq < sl - 32768 then (roc + 1) % 2 ^ 32 else roc
    v * 65536 + seq

/-- Is an index behind the window, or marked in it? -/
def replayed (top : Option Nat) (seen win i : Nat) : Bool :=
  match top with
  | none => false
  | some h => i + win ≤ h || (i ≤ h && bitOf seen (h - i))

/-- Is an index marked by a packet verified meanwhile? -/
def marked (top : Option Nat) (seen i : Nat) : Bool :=
  match top with | none => false | some h => i ≤ h && bitOf seen (h - i)

/-- Mark an index; h advances only where the index exceeds it. -/
def markIndex (top : Option Nat) (seen i : Nat) : Option Nat × Nat :=
  match top with
  | none => (some i, 1)
  | some h =>
    if h < i then (some i, if 65536 ≤ i - h then 1 else (seen * 2 ^ (i - h) + 1) % 2 ^ 65536)
    else (some h, seen ||| 2 ^ (h - i))

/-- Replay state of a stream, for SRTP or SRTCP. -/
def StreamX.window (t : StreamX) (rtcp : Bool) : Option Nat × Nat := if rtcp then (t.topC, t.seenC) else (t.top, t.seen)

/-- Stage 4: the receive context is fetched. None where the packet is dropped there. -/
def State.fetchRx (s : State) (f : Frame) (l ssrc : Nat) (rtcp : Bool) : State × Bool :=
  let c := rxCtx l
  if f.cacheFault then (((s.parityError 4 0 toPlatform).ctxFault c).bump Ctx.NOKEY c, false)
  else if !s.ctxKeyed c then (s.bump Ctx.NOKEY c, false)
  else
    let r := s.fetchCtx c
    if !r.2 || s.streamFull c ssrc then (r.1.bump Ctx.NOKEY c, false)
    else match (s.ctxX c).stream? ssrc with
      | some t => if t.exhausted (s.ctxGen c) rtcp then (r.1.refuse c t rtcp, false) else r
      | none => r

/-- A packet that goes on is in flight until its commit. -/
def State.inFlight (s : State) (f : Frame) (x : InX) : State := s.flightSet f.port (s.flight f.port ++ [x])

/-- Replay state that the pre-check reads. -/
def State.windowOf (s : State) (l ssrc : Nat) (rtcp : Bool) : Option Nat × Nat :=
  match (s.ctxX (rxCtx l)).stream? ssrc with | some t => t.window rtcp | none => (none, 0)

/-- An SRTP packet of a leg, stages 1 to 4. -/
def State.srtpIn (s : State) (f : Frame) (l dscp ipLen : Nat) (v6 : Bool) (r : RtpPkt) : State :=
  let tag := srtpTag (s.rd Ctx.SUITE (rxCtx l))
  let n := ipLen - (if v6 then 48 else 28)
  if !r.ok n || 2048 < r.hdrLen || n < r.hdrLen + tag then (s.bump LegIn.MALFORMED l).settled f
  else
    let main := s.srcBySsrc l r.ssrc
    match main.orElse (fun _ => s.srcByRtx l r.ssrc) with
    | none =>
      if !f.fcsOk then s.fcsCount f
      else if frameUe f then (s.rxCount f).fifoUe f
      else ((s.rxCount f).bump LegIn.UNKNOWN_SSRC l).punt f 4 (some l)
    | some src =>
      let w := s.windowOf l r.ssrc false
      let i := indexOf w.1 r.seq
      if replayed w.1 w.2 (s.rd LegIn.REPLAY_WIN l) i then (s.bump LegIn.REPLAY_DROP l).settled f
      else
        let (colour, s) := s.mark src ipLen (s.preColour f.port dscp)
        if colour = 2 then s.settled f
        else
          let (s, ok) := s.fetchRx f l r.ssrc false
          if !ok then s.settled f
          else s.inFlight f {
            frame := f
            arrived := s.ns
            leg := l
            src := src
            kind := if main.isSome then 0 else 1
            index := i
            colour := colour
            gen := s.ctxGen (rxCtx l)
            epoch := (s.dispatch (rxCtx l)).epoch
            keys := s.ctxKeys (rxCtx l)
            kept := s.extracted l r }

/-- An SRTCP packet of a leg, stages 1, 2 and 4. -/
def State.srtcpIn (s : State) (f : Frame) (l : Nat) (r : RtcpPkt) : State :=
  let suite := s.rd Ctx.SUITE (rxCtx l)
  let tag := srtcpTag suite
  let w := s.windowOf l r.ssrc true
  if r.len < 8 + 4 + tag then (s.bump LegIn.MALFORMED l).settled f
  else if replayed w.1 w.2 (s.rd LegIn.REPLAY_WIN l) (r.index suite) then (s.bump LegIn.REPLAY_DROP l).settled f
  else
    let (s, ok) := s.fetchRx f l r.ssrc true
    if !ok then s.settled f
    else s.inFlight f {
      frame := f
      arrived := s.ns
      leg := l
      kind := 2
      index := r.index suite
      gen := s.ctxGen (rxCtx l)
      epoch := (s.dispatch (rxCtx l)).epoch
      keys := s.ctxKeys (rxCtx l) }

/-- A frame that is punted is stored whole first: one with a bad FCS or an uncorrectable word never is. -/
def State.wholePunt (s : State) (f : Frame) (reason : Nat) (leg : Option Nat) : State :=
  if !f.fcsOk then s.fcsCount f
  else if frameUe f then (s.rxCount f).fifoUe f
  else (s.rxCount f).punt f reason leg

/-- Classification of a frame admitted to the FIFO. -/
def State.classify (s : State) (f : Frame) : State :=
  if 2 ≤ f.vids.length then s.wholePunt f 7 none
  else match f.l3 with
    | .fragment _ => s.wholePunt f 5 none
    | .options _ => s.wholePunt f 6 none
    | .other => s.wholePunt f 7 none
    | .ptpManagement => s.wholePunt f 8 none
    | .esmc => s.wholePunt f 9 none
    | .ptp =>
      if !s.on Ptp.ENABLE f.port then s.wholePunt f 7 none
      else if f.fcsOk && frameUe f then (s.rxCount f).fifoUe f
      else s.settled f
    | .udp v6 src dst sport dport dscp ipLen u =>
      match s.legFor f.port (f.vids.headD 0xFFFF) v6 src dst sport dport with
      | none => s.wholePunt f 3 none
      | some l =>
        if u.b0 ≤ 3 then s.wholePunt f 1 (some l)
        else if 20 ≤ u.b0 && u.b0 ≤ 63 then s.wholePunt f 2 (some l)
        else if !(128 ≤ u.b0 && u.b0 ≤ 191) then s.wholePunt f 11 (some l)
        else if 192 ≤ u.b1 && u.b1 ≤ 223 then
          match u.rtcp with | some r => s.srtcpIn f l r | none => (s.bump LegIn.MALFORMED l).settled f
        else match u.rtp with | some r => s.srtpIn f l dscp ipLen v6 r | none => (s.bump LegIn.MALFORMED l).settled f

/-- A frame on a logical port (R82 to R88). Admission is decided first, at the frame's first byte: a
PAUSE frame that meets a full FIFO counts in FIFO_OVF alone (DESIGN CHOICE, log 232). -/
def State.mediaFrame (s : State) (f : Frame) : State :=
  let p := f.port.val
  if !s.on Lp.ENABLE p || !s.on Lp.LINK p then s
  else if 524288 - s.rd Lp.FIFO_LEVEL p < s.rd Lp.MAX_FRAME p || 2048 ≤ (s.flight p).length then s.bump Lp.FIFO_OVF p
  else if f.aborted then s.bump Lp.ZERO_LEN p
  else if f.length < 64 then s.bump Lp.RUNT p
  else if s.rd Lp.MAX_FRAME p < f.length then s.bump Lp.OVERSIZE p
  else if f.pause && f.fcsOk then s.bump Lp.PAUSE_RX p
  else (s.fifoCe p (ceWords f)).classify f

/-- A frame on FP0 or FP1 that is no valid Fret frame (R134). The port's FIFO admits it as R87 says, at MAX_FRAME 9,216; no object
counts one that it refuses. -/
def State.fretPortFrame (s : State) (f : Frame) : State :=
  let k := f.port.val - 16
  let ptp := (match f.l3 with | .ptp => true | .ptpManagement => true | _ => false) && s.on Ptp.ENABLE f.port
  let vlan := s.rd Fret.VLAN k
  if f.length < 64 then s.bump Fret.RX_DISCARD k
  else if !s.on Fret.ENABLE k then (if ptp then s.classify f else s.bump Fret.RX_DISCARD k)
  else if 524288 - sumOf ((s.flight f.port).map (fun x => x.frame.length)) < 9216 || 2048 ≤ (s.flight f.port).length then s
  else if 9216 < f.length || f.aborted || f.pause then s
  else if f.etype = s.rd Fret.ETYPE k then
    -- a Fret frame proper reaches the device as the command of its type
    (if f.toLocal && f.vids.headD 0xFFFF == vlan && f.vids.length ≤ 1 then s else s.bump Fret.RX_DISCARD k)
  else s.classify f

/-- INGRESS_FRAME. Context records in HBM that have been damaged meanwhile are known so. -/
def ingressFrame (f : Frame) (s : State) : State :=
  let s : State := { s with cip := { s.cip with damaged := f.damaged.filter (fun c => !s.cip.damaged.contains c) ++ s.cip.damaged } }
  if f.port.val < 16 then s.mediaFrame f else s.fretPortFrame f

/-! Tags (R104 to R106). -/

/-- Is a layer descriptor's data well formed (R106)? -/
def ldOk (b : Bytes) : Bool :=
  let s := byteAt b 0 / 16 % 4
  b.length == 8 && byteAt b 0 / 64 == 1 && s != 3 && byteAt b 1 % 16 == 0 && byteAt b 5 % 128 == 0 &&
    !(byteAt b 5 / 128 == 1 && s == 0) && byteAt b 7 == 0

/-- The number of w bits nearest a reference count that is congruent to v. -/
def unwrapNear (w ref v : Nat) : Nat :=
  let base := ref / 2 ^ w * 2 ^ w + v % 2 ^ w
  if ref + 2 ^ (w - 1) < base then base - 2 ^ w
  else if base + 2 ^ (w - 1) < ref then base + 2 ^ w
  else base

/-- A source's frame number from its 16 bits on the wire; counting starts in the second cycle. -/
def SrcX.fnOf (x : SrcX) (v : Nat) : Nat := if x.fn = 0 then 65536 + v else unwrapNear 16 x.fn v

/-- The tag of a layer descriptor. -/
def ldTag (x : SrcX) (b : Bytes) : TagX :=
  let s := byteAt b 0 / 16 % 4
  let t := byteAt b 0 / 4 % 4
  let fn := x.fnOf (beAt b 2 2)
  let tref := byteAt b 4
  { s := s
    t := t
    fn := fn
    sof := bitOf (byteAt b 0) 1
    eof := bitOf (byteAt b 0) 0
    refs := (if tref = 0 then [] else [(s, fn - tref)]) ++ (if bitOf (byteAt b 5) 7 then [(s - 1, fn)] else [])
    cumulative := false
    previous := false
    irap := tref == 0
    tsa := false
    switchFor := if bitOf (byteAt b 1) 7 then [4 * s + t] else []
    first := false
    sp := bitOf (byteAt b 1) 6
    ia := bitOf (byteAt b 1) 5
    di := bitOf (byteAt b 1) 4
    group := byteAt b 6 }

/-- The tag of an AV1 dependency descriptor. A frame difference names the layer frame tagged with that number. -/
def ddTag (x : SrcX) (d : DdInfo) : TagX :=
  let fn := x.fnOf d.frameNumber
  let ref (k : Nat) : Nat × Nat :=
    match x.frames.find? (fun r => r.1 == fn - k) with | some r => (r.2, r.1) | none => (d.s, fn - k)
  { s := d.s
    t := d.t
    fn := fn
    sof := d.start
    eof := d.last
    refs := d.fdiffs.map ref
    cumulative := false
    previous := false
    irap := d.key
    tsa := false
    switchFor := if d.key then List.range 12 else d.switchFor
    first := false
    sp := false
    ia := false }

/-- Is a time-stamp later than another (RFC 1982)? -/
def tsLater (a b : Nat) : Bool := a != b && (a + 2 ^ 32 - b) % 2 ^ 32 < 2 ^ 31

/-- The frame number of a time-stamp, and whether it starts the frame: none where it can no longer be known. -/
def SrcX.frameOf (x : SrcX) (ts : Nat) : Option (Nat × Bool) :=
  match x.stamps.find? (fun p => p.1 == ts) with
  | some p => some (p.2, false)
  | none => match x.stamps with
    | [] => some (x.fn + 1, true)
    | p :: _ => if tsLater ts p.1 then some (x.fn + 1, true) else none

/-- The tag of a frame counted by time-stamp. `nal` where temporal ids can be read. -/
def stampTag (fn : Nat) (start marker nal : Bool) (n : NalInfo) : TagX :=
  let t := min n.tid 3
  { s := 0
    t := if nal then t else 0
    fn := fn
    sof := start
    eof := marker
    refs := []
    cumulative := nal
    previous := !nal
    irap := nal && n.irap
    tsa := nal && n.tsa
    switchFor := if !nal then [] else if n.irap then [0, 1, 2, 3] else if n.tsa then [t] else []
    first := !nal
    sp := false
    ia := false }

/-- What tagging a packet yields: dropped as untagged, or a tag with the source's state. -/
def State.tagOf (s : State) (src ts : Nat) (marker : Bool) (kept : List (Nat × Bytes)) (r : RtpPkt) : Option (TagX × State) :=
  let x := s.srcX src
  let codec := s.rd Src.CODEC src
  let e2e := s.on Src.E2E src
  match kept.find? (fun e => e.1 == 2) with
  | some e => some (ldTag x e.2, s)
  | none =>
    let dd := if codec = 16 && kept.any (fun e => e.1 == 1) then r.dd else none
    match dd with
    | some d =>
      if !d.carries && !x.structs.contains d.structureId then none
      else
        let s := if d.carries && !x.structs.contains d.structureId then
          s.srcUpd src (fun x => { x with structs := d.structureId :: x.structs }) else s
        some (ddTag x d, s)
    | none =>
      match x.frameOf ts with
      | none => none
      | some (fn, start) =>
        let s := if start then s.srcUpd src (fun x => { x with stamps := ((ts, fn) :: x.stamps).take 16 }) else s
        some (stampTag fn start marker ((codec = 17 || codec = 18) && !e2e) r.nal, s)

/-! Commit. -/

/-- Packets that mosaics still need (R30, R122). -/
def State.tilePkts (s : State) : List Nat := s.fwd.srcs.flatMap (fun r => r.2.tiles.flatMap (·.pkts))

/-- A tagged packet: its layer is present, its bytes count, and its layer frame counts once in FRAMES. -/
def State.tagSeen (s : State) (src : Nat) (t : TagX) (ipLen : Nat) : State :=
  let l := 4 * t.s + t.t
  let new := !s.layerPresent src l
  let frame := !(s.srcX src).frames.contains (t.fn, t.s)
  let s := s.srcUpd src (fun x => { x with
    fn := max x.fn t.fn
    seen := Tbl.set 0 x.seen l (s.phys + 1)
    bytes := (s.phys, l, ipLen) :: x.bytes.filter (fun b => s.since b.1 < cycS)
    frames := if frame then ((t.fn, t.s) :: x.frames).take 64 else x.frames })
  let s := if frame then s.bump SrcFwd.FRAMES src else s
  -- how FPS is measured is the device's own: a free value
  if new then let (v, s) := s.draw 16; s.wr Layer.FPS (16 * src + l) v else s

/-- The size of a spatial layer. -/
def State.layerSize (s : State) (src sl w h : Nat) : State :=
  [0, 1, 2, 3].foldl (fun s t => (s.wr Layer.WIDTH (16 * src + 4 * sl + t) w).wr Layer.HEIGHT (16 * src + 4 * sl + t) h) s

/-- A packet enters the packet store and reaches everything that uses it (R19, R96). -/
def State.storePkt (s : State) (p : PktX) (ipLen : Nat) : Nat × State :=
  let k := s.fwd.nextPkt
  let s := { s with fwd := { s.fwd with store := s.fwd.store ++ [(k, p)], nextPkt := k + 1 } }
  let s := match p.tag with
    | some t => ((s.settleCur p.src).tagSeen p.src t ipLen).abandonOlder p.src t.fn
    | none => if s.rd Src.MEDIA p.src = 0 then s.audioCommit p.src k p.ts p.level else s
  (k, (s.decodeInput k p).fanOut k p)

/-- What no one refers to any more is released. -/
def State.sweepStore (s : State) : State := s.release (s.jitterPkts ++ s.decodePkts ++ s.tilePkts ++ s.itemPkts)

/-- Receive statistics of RFC 3550, A.8: transit in units of the RTP clock. -/
def State.rxStats (s : State) (src ext ts at_ : Nat) : State :=
  let rate := rtpRate (s.rd Src.CODEC src)
  let arr : Nat := at_ * rate / 1000000000
  let tr : Nat := (arr + 2 ^ 32 - ts % 2 ^ 32) % 2 ^ 32
  s.srcUpd src (fun x =>
    let d : Nat := match x.transit with
      | some o => (toInt 32 (ofInt 32 ((tr : Int) - (o : Nat)))).natAbs
      | none => 0
    { x with
      rcvd := x.rcvd + 1
      firstExt := if x.rcvd = 0 then ext else x.firstExt
      jitter16 := if x.transit.isSome then x.jitter16 + d - (x.jitter16 + 8) / 16 else x.jitter16
      transit := some tr })

/-- Numbers of a source received and missing: those skipped are due for a NACK 10 ms from now (R118). -/
def State.seqSeen (s : State) (src ext : Nat) : State :=
  s.srcUpd src (fun x => match x.top with
    | none => { x with top := some ext }
    | some h =>
      if h < ext then
        let gap := (List.range (min (ext - h - 1) 32768)).map (fun i => (ext - 1 - i, s.phys + 10 * cycMs, false))
        { x with top := some ext, missing := (gap ++ x.missing).filter (fun m => ext ≤ m.1 + 32768) }
      else { x with missing := x.missing.filter (fun m => m.1 != ext) })

/-- The original packet of a retransmission: its extended number, where it is still missing or newer than any. -/
def State.rtxExt (s : State) (src osn : Nat) : Option Nat :=
  let x := s.srcX src
  match x.top with
  | none => some osn
  | some h =>
    let e := unwrapNear 16 h osn
    if h < e || x.missing.any (fun m => m.1 == e) then some e else none

/-- An SRTP packet is committed with its deciphered payload: tagged, stored, and forwarded. A retransmission's payload begins with
the original number (RFC 4588). -/
def State.commitRtp (s : State) (x : InX) (r : RtpPkt) (payload : Bytes) (v6 : Bool) (ipLen : Nat) : State :=
  let src := x.src
  let ext := if x.kind = 1 then s.rtxExt src (beAt payload 0 2) else some x.index
  match ext with
  | none => s
  | some ext =>
    let video := s.rd Src.MEDIA src == 1
    let bad := x.kept.any (fun e => e.1 == 2 && !ldOk e.2)
    let s := if bad then s.bump LegIn.MALFORMED x.leg else s
    let kept := x.kept.filter (fun e => e.1 != 2 || ldOk e.2)
    let s := if x.kind = 0 then s.rxStats src ext r.ts x.arrived else s
    let s := s.seqSeen src ext
    let len := r.payLen (ipLen - (if v6 then 48 else 28)) (srtpTag (s.rd Ctx.SUITE (rxCtx x.leg)))
    let level := match kept.find? (fun e => e.1 == 0) with | some e => some (byteAt e.2 0) | none => none
    let pkt : PktX := {
      src := src
      ssrc := s.rd Src.SSRC src
      seq := ext
      ts := r.ts
      pt := if x.kind = 1 then s.rd Src.PT src else r.pt
      marker := r.marker
      csrcs := r.csrcs
      csrc := slice r.bytes 12 (4 * r.csrcs)
      pad := r.pad
      payload := if x.kind = 1 then payload.drop 2 else payload
      payLen := if x.kind = 1 then len - 2 else len
      exts := kept
      level := level
      tag := none
      colour := x.colour
      atNs := s.ns
      cn := r.cn }
    if !video then (s.storePkt pkt ipLen).2
    else match s.tagOf src r.ts r.marker kept r with
      | none =>
        let s := s.bump SrcFwd.UNTAGGED src
        if s.rd Src.CODEC src = 16 && kept.any (fun e => e.1 == 1) then s.wantRefresh src false else s
      | some (t, s) =>
        let s := if r.width ≠ 0 && !s.on Src.E2E src then s.layerSize src t.s r.width r.height else s
        (s.storePkt { pkt with tag := some t } ipLen).2

/-- What a packet holds under a key set: its deciphered payload, or the compound packet of an SRTCP packet; none where the tag
fails. -/
def InX.opened (x : InX) (k : KeySet) : Option Bytes :=
  match x.frame.l3 with
  | .udp _ _ _ _ _ _ _ u =>
    if x.kind = 2 then u.rtcp.bind (fun r => srtcpOpen k r.bytes)
    else u.rtp.bind (fun r => srtpOpen k r.ssrc x.index r.head r.body)
  | _ => none

/-- Stage 5: does the tag verify, under the keys snapshotted or the previous generation's (R191)? The counts on the way; what the
packet holds, and SRTCP_ENC of the keys. -/
def State.verify (s : State) (x : InX) : State × Option (Bytes × Bool) :=
  let c := rxCtx x.leg
  match x.keys.bind (fun k => (x.opened k).map (fun b => (b, k.srtcpEnc))) with
  | some r => (s.bump Ctx.PKTS c, some r)
  | none =>
    match (if s.rd Ctx.GEN c = x.gen then (s.ctxX c).prev.bind (fun p => (x.opened p.1).map (fun b => (b, p.1.srtcpEnc))) else none) with
    | some r => ((s.bump Ctx.PREV_USED c).bump Ctx.PKTS c, some r)
    | none => (s.bump LegIn.AUTH_FAIL x.leg, none)

/-- Stage 6 and the checks on a verified index: the replay window marks it. -/
def State.acceptIndex (s : State) (x : InX) (ssrc : Nat) (rtcp : Bool) : State × Bool :=
  let c := rxCtx x.leg
  match s.streamFor c ssrc with
  | none => (s.bump Ctx.NOKEY c, false)
  | some (_, s) =>
    let (s, ok) := s.protectCheck c ssrc x.index rtcp
    if !ok then (s, false)
    else match (s.ctxX c).stream? ssrc with
      | none => (s, false)
      | some t =>
        let w := t.window rtcp
        if marked w.1 w.2 x.index then (s.bump LegIn.REPLAY_DROP x.leg, false)
        else
          let m := markIndex w.1 w.2 x.index
          (s.streamUpd c ssrc (fun u => if rtcp then { u with topC := m.1, seenC := m.2 } else { u with top := m.1, seen := m.2 }), true)

/-- Stages 5 to 7 of a packet. -/
def State.verifyAndCommit (s : State) (x : InX) : State :=
  match x.frame.l3 with
  | .udp v6 _ _ _ _ _ ipLen u =>
    if x.kind = 2 then
      match u.rtcp with
      | none => s
      | some r =>
        match s.verify x with
        | (s, none) => s
        | (s, some (m, enc)) =>
        if enc && !r.e (s.rd Ctx.SUITE (rxCtx x.leg)) then s.bump LegIn.AUTH_FAIL x.leg
        else
          let (s, ok) := s.acceptIndex x r.ssrc true
          if !ok then s
          else
            let s := s.bump LegIn.RTCP_RX x.leg
            (readRtcp m.length m).foldl (fun s p => match p with
              | .nack _ _ _ => if s.rd Leg.STATE x.leg = 3 then s else s.rtcpPart x.leg p
              | _ => s.rtcpPart x.leg p) s
    else match u.rtp with
      | none => s
      | some r =>
        match s.verify x with
        | (s, none) => s
        | (s, some (m, _)) =>
          let (s, ok) := s.acceptIndex x r.ssrc false
          if !ok || s.rd Src.STATE x.src ≠ 1 || s.rd Src.LEG x.src ≠ x.leg then s else s.commitRtp x r m v6 ipLen
  | _ => s

/-- PACKET_COMMIT: the oldest packet in flight of a port reaches its end. A parity error of the subscription cache that its
fan-out meets is reported, and the entry read again (R445). -/
def packetCommit (p : Nat) (parity : Bool) (s : State) : State :=
  match s.flight p with
  | [] => s
  | x :: rest =>
    let s := s.flightSet p rest
    let s := if parity then s.parityError 3 0 toPlatform else s
    let f := x.frame
    let c := rxCtx x.leg
    if !f.fcsOk then s.fcsCount f
    else
      let s := s.rxCount f
      let s := if frameUe f then s.fifoUe f
        else if f.storeParity then s.parityError 1 p toPlatform
        else if (s.ctxX c).epoch ≠ x.epoch then s.bump Ctx.DISCARDED c
        else s.verifyAndCommit x
      s.sweepStore

/-! Ports and links (R81 to R83). -/

/-- Is logical port p provided by its physical port's split? -/
def State.provided (s : State) (p : Nat) : Bool := p % 4 < 2 ^ s.rd Mp.SPLIT (p / 4)

/-- LINK follows ENABLE and the link. -/
def State.linkSet (s : State) (p : Nat) (up : Bool) : State :=
  if s.on Lp.LINK p = up then s
  else (s.wr Lp.LINK p up.toNat).raise (if up then Ev.LINK_UP else Ev.LINK_DOWN) p toPlatform 0

/-- The link of a Fret port, which has no LINK object and is told while the port is enabled, or of a management port. -/
def State.otherLink (s : State) (p : Nat) (up : Bool) : State :=
  if 18 ≤ p then
    let was := s.on Mg.LINK (p - 18)
    let s := s.wr Mg.LINK (p - 18) up.toNat
    if was = up then s else s.raise (if up then Ev.LINK_UP else Ev.LINK_DOWN) p toPlatform 0
  else
    let was := Tbl.get false s.ing.up p
    if was = up || !s.on Fret.ENABLE (p - 16) then s
    else s.raise (if up then Ev.LINK_UP else Ev.LINK_DOWN) p toPlatform 0

/-- What the PHY of a port reports: lanes with block lock, and codewords corrected and uncorrectable since the last report. -/
def State.phy (s : State) (p lanes corr uncorr : Nat) : State :=
  if p < 16 then ((s.wr Mp.LANES_UP (p / 4) (lanes % 16)).bump Mp.FEC_CORR (p / 4) corr).bump Mp.FEC_UNCORR (p / 4) uncorr else s

def State.partner (s : State) (p : Nat) (up : Bool) : State := { s with ing := { s.ing with up := Tbl.set false s.ing.up p up } }

/-- The SerDes lanes of a port: those of a logical port by its split (Table 4.1), one of the others (Table 18.14). -/
def State.lanesOf (s : State) (p : Nat) : List Nat :=
  if p < 16 then
    let n := 4 / 2 ^ s.rd Mp.SPLIT (p / 4)
    (List.range n).map (fun l => 4 * (p / 4) + p % 4 * n + l)
  else [p]

/-- Link training of a port's lanes: their overrides act from here (R413, Table 19.14). -/
def State.trainLanes (s : State) (p : Nat) : State :=
  { s with ing := { s.ing with lanes := (s.lanesOf p).foldl (fun t q => Tbl.set none t q
      (if s.on Lane.OVERRIDE q then
        some ⟨s.rdI Lane.TX_PRE q, s.rd Lane.TX_MAIN q, s.rdI Lane.TX_POST q, s.rd Lane.RX_CTLE q⟩ else none)) s.ing.lanes } }

/-- LINK_UP: the partner of a port is present. -/
def linkUp (p lanes corr uncorr : Nat) (s : State) : State :=
  let s := (s.phy p lanes corr uncorr).trainLanes p
  if p < 16 then
    let s := s.partner p true
    if s.on Lp.ENABLE p && s.provided p then s.linkSet p true else s
  else (s.otherLink p true).partner p true

/-- LINK_DOWN: the link of a port is lost; a frame then being received is dropped whole. -/
def linkDown (p lanes corr uncorr : Nat) (receiving : Bool) (s : State) : State :=
  let s := s.phy p lanes corr uncorr
  if p < 16 then
    let s := if receiving && Tbl.get false s.ing.up p then s.bump Lp.FCS_ERR p else s
    (s.partner p false).linkSet p false
  else (s.otherLink p false).partner p false

/-- A discarded copy's layer frame is not delivered (R166). -/
def State.lostQueued (s : State) (c : CopyX) : State :=
  if !c.video then s
  else match s.subOf c with
    | some h => s.subLost h c.frame.1 c.frame.2 (c.layer % 4)
    | none => s

/-- Copies queued for a port whose ENABLE falls are discarded, and R166 applies to their layer frames (R83). -/
def State.portDown (s : State) (p : Nat) : State :=
  let s := (s.wr Lp.ENABLE p 0).linkSet p false
  (s.legsInUse.filter (fun l => !s.radio l && s.rd Leg.PORT l == p)).foldl (fun s l =>
    (s.legEg l).all.foldl (fun s c => s.lostQueued c) (s.discardQueues l)) s

/-- A write of a logical port's object. -/
def lpWrite (col p v : Nat) (s : State) : Except Status State :=
  if col = Lp.ENABLE then
    if v = 0 then .ok (s.portDown p)
    else if !s.provided p || !s.hbmUp then .error .eState
    else
      let t := ((if s.on Lp.ENABLE p then s else s.pointersReset p).wr col p 1).demand netPart
      .ok (if Tbl.get false t.ing.up p then t.linkSet p true else t)
  else if col = Lp.DSCP_COLOUR then
    if (List.range 64).any (fun d => v / 4 ^ d % 4 == 3) then .error .eRange else .ok (s.wr col p v)
  else .ok (s.wr col p v)

/-- A write of a physical port's object. SPLIT changes which factory corrections apply (R67, State.factRx). -/
def mpWrite (col n v : Nat) (s : State) : Except Status State :=
  if (col = Mp.SPLIT || col = Mp.MEDIUM) && (List.range 4).any (fun m => s.on Lp.ENABLE (4 * n + m)) then .error .eState
  else .ok (s.wr col n v)

/-! The commands. -/

def execLinkUp (port : Fin 20) (lanes corr uncorr : Nat) (s : State) : Out := live (linkUp port lanes corr uncorr) s

def execLinkDown (port : Fin 20) (lanes corr uncorr : Nat) (receiving : Bool) (s : State) : Out :=
  live (linkDown port lanes corr uncorr receiving) s

def execPortDisable (h port : Nat) (s : State) : Out := live (hostWrite h Lp.ENABLE port 0 (lpWrite Lp.ENABLE port 0)) s

/-- Does a port take a PTP or ESMC frame: its MAC accepts frames (R83), and a Fret port that is not enabled takes in PTP
messages alone, where PTP is enabled on it (R134)? -/
def State.ptpPort (s : State) (m : PtpMsg) : Bool :=
  let p := m.port.val
  if p < 16 then s.on Lp.ENABLE p
  else 18 ≤ p || s.on Fret.ENABLE (p - 16) || (s.on Ptp.ENABLE p && m.kind != .esmc)

/-- A PTP message received: Management and ESMC go to the punt path (R65, R100), and so does any message on a media or Fret
port without PTP, with reason 7. -/
def ptpMessage (m : PtpMsg) (s : State) : State :=
  let p := m.port.val
  let plain := p < 18 && !s.on Ptp.ENABLE p && m.kind != .management && m.kind != .esmc
  let reason := if plain then 7 else if m.kind = .esmc then 9 else 8
  let punt (raw : Bytes) (s : State) : State := s.puntTo (s.puntHost reason none (udpDport raw))
    { reason := reason, port := p, vid := m.vlan, v6 := m.srcAddr != 0 && !isV4 m.srcAddr, leg := 0xFFFFFFFF,
      time := time80 (s.ingressTime p).toNat, raw := raw }
  if !s.ptpPort m then (if p < 16 then s else s.bump Fret.RX_DISCARD (p - 16))
  else if plain then punt m.bytes s
  else ptpRx punt m s

def execPtpMessageRx (m : PtpMsg) (s : State) : Out := live (ptpMessage m) s

def execIngressFrame (frame : Frame) (s : State) : Out := live (ingressFrame frame) s

def execPacketCommit (port : Fin 18) (parity : Bool) (s : State) : Out := live (packetCommit port parity) s

def execMeterRefill (h source : Nat) (s : State) : Out := live (hostWrite h Meter.CMD source 1 (meterWrite [] Meter.CMD source 1)) s

end Sys2Proof.Machine
end

