-- ==== Sys2Proof/Machine/Venc.lean ====
section
/-! DEFINITION. Video encoding (chapter 14): sessions, layers and references, refresh and switch points, rate control row by
row, deadlines, and the retirement of encode cores. The samples that a picture codes are held with it; what the codec makes of
them is no part of the model: the bits of its rows and the lengths of its packets reach it as operands. -/

namespace Sys2Proof.Machine

/-! Layers and ticks (R311, Table 14.2). -/

/-- The cycle C of TEMPORAL. -/
def cycleOf (temporal : Nat) : Nat := 2 ^ (temporal - 1)

/-- The temporal id of picture n. -/
def temporalId (temporal n : Nat) : Nat :=
  let m := n % cycleOf temporal
  match temporal with
  | 2 => m
  | 3 => if m = 0 then 0 else if m = 2 then 1 else 2
  | 4 => if m = 0 then 0 else if m = 4 then 1 else if m % 2 = 0 then 2 else 3
  | _ => 0

/-- Width and height of spatial layer sl. -/
def State.encSize (s : State) (e sl : Nat) : Nat × Nat :=
  let k := 2 ^ (s.rd Enc.SPATIAL e - 1 - sl)
  (ceil2 (ceilDiv (s.rd Enc.WIDTH e) k), ceil2 (ceilDiv (s.rd Enc.HEIGHT e) k))

/-- Luma pixels of a picture over all layers. -/
def State.encPixels (s : State) (e : Nat) : Nat :=
  sumOf ((List.range (s.rd Enc.SPATIAL e)).map (fun k => let z := s.encSize e k; z.1 * z.2))

def State.encSplices (s : State) (e : Nat) : Bool := s.rd Enc.SPLICE e != 0xFF

/-- The charge of R320. -/
def State.encCharge (s : State) (e : Nat) : Nat :=
  let a := s.encPixels e * s.rd Enc.RATE_N e
  let d := 1000 * s.rd Enc.RATE_D e
  if s.encSplices e then
    let p := s.rd Splice.PERIOD (s.rd Enc.SPLICE e)
    ceilDiv (a * (p + 1)) (d * p)
  else ceilDiv a d

/-- RATE_S of a spatial layer. -/
def rateCol (sl : Nat) : Nat := if sl = 0 then Enc.RATE_S0 else if sl = 1 then Enc.RATE_S1 else Enc.RATE_S2

/-- Nanoseconds in a frame period, and the instant of tick n of a session. -/
def State.encAt (s : State) (e n : Nat) : Nat := (s.encGrid e).at n

/-- The levels of HEVC and AV1, ten times each: the largest picture in luma pixels and the largest rate in luma pixels per
second (R310; PRESUMED from the codecs' standards, log 226). -/
def encLevels (codec : Nat) : List (Nat × Nat × Nat) :=
  if codec = 16 then [(20, 147456, 4423680), (21, 278784, 8363520), (30, 665856, 19975680), (31, 1065024, 31950720),
    (40, 2359296, 70778880), (41, 2359296, 141557760), (50, 8912896, 267386880), (51, 8912896, 534773760),
    (52, 8912896, 1069547520), (60, 35651584, 1069547520), (61, 35651584, 2139095040), (62, 35651584, 4278190080)]
  else [(10, 36864, 552960), (20, 122880, 3686400), (21, 245760, 7372800), (30, 552960, 16588800), (31, 983040, 33177600),
    (40, 2228224, 66846720), (41, 2228224, 133693440), (50, 8912896, 267386880), (51, 8912896, 534773760),
    (52, 8912896, 1069547520), (60, 35651584, 1069547520), (61, 35651584, 2139095040), (62, 35651584, 4278190080)]

/-- The level signalled for spatial layer sl: the lowest that holds its size and picture rate; the highest where none does. -/
def State.encLevel (s : State) (e sl : Nat) : Nat :=
  let z := s.encSize e sl
  let a := z.1 * z.2
  match (encLevels (s.rd Src.CODEC (s.rd Enc.OUT_SOURCE e))).find? (fun l =>
      a ≤ l.2.1 && a * s.rd Enc.RATE_N e ≤ l.2.2 * s.rd Enc.RATE_D e) with
  | some l => l.1
  | none => 62

/-- A QP, or a difference of QPs, on the codec's own scale (R310): 5 times it in AV1. -/
def State.codecQp (s : State) (e : Nat) (q : Int) : Int := if s.rd Src.CODEC (s.rd Enc.OUT_SOURCE e) = 16 then 5 * q else q

/-! Budgets (R323). -/

def qShare (t : Nat) : Nat := match t with | 0 => 8 | 1 => 6 | 2 => 4 | _ => 3

/-- Q: the sum of q over one cycle. -/
def qSum (temporal : Nat) : Nat := sumOf ((List.range (cycleOf temporal)).map (fun n => qShare (temporalId temporal n)))

/-- b of a spatial layer and temporal id. -/
def rcBudget (rate temporal t n d : Nat) : Nat :=
  rate * 1000 * cycleOf temporal * qShare t * d / (n * qSum temporal)

/-! rc_picture (R323). -/

/-- scale. -/
def rcScale (x k : Nat) : Nat :=
  x * ([65536, 58386, 52016, 46341, 41285, 36781].getD (k % 6) 65536) / 65536 / 2 ^ (k / 6)

/-- Where rate control stands between two rows of a picture; mode 0 normal, 1 ceiling, 2 skip. `keep` is the last
normal-mode or ceiling-mode row QP. -/
structure Rc where
  qp : Nat
  spent : Nat := 0
  mode : Nat := 0
  last : Nat × Nat := (0, 0)
  keep : Nat
  skipped : Nat := 0
  rows : List (Nat × Nat) := []    -- mode and QP of each row coded
  deriving DecidableEq, Repr

/-- Row r of rows, which took `bits`. -/
def rcRow (b rows qpMin qpMax qp0 : Nat) (x : Rc) (r : Nat × Nat) : Rc :=
  let lim := b + b / 8
  let n := rows - r.1
  let mode := if 0 < r.1 && x.mode = 0 && lim < x.spent + n * x.last.1 then 1 else x.mode
  let e := if x.last.2 = qpMax then x.last.1 else rcScale x.last.1 (qpMax - x.last.2)
  let mode := if mode = 1 && lim < x.spent + n * e then 2 else mode
  let q := if mode = 0 then x.qp else if mode = 1 then qpMax else x.last.2
  let spent := x.spent + r.2
  let t := b * (r.1 + 1) / rows
  let qp := if mode ≠ 0 then x.qp
    else if 9 * t < 8 * spent then min (min (x.qp + 1) qpMax) (qp0 + 6)
    else if 8 * spent < 7 * t then max (max (x.qp - 1) qpMin) (qp0 - 6)
    else x.qp
  { qp := qp
    spent := spent
    mode := mode
    last := (r.2, q)
    keep := if mode = 2 then x.keep else q
    skipped := if mode = 2 then x.skipped + 1 else x.skipped
    rows := x.rows ++ [(mode, q)] }

/-- A layer picture's rows, of the bits given. -/
def rcPicture (b qpMin qpMax qp0 : Nat) (rows : List Nat) : Rc :=
  ((List.range rows.length).zip rows).foldl (rcRow b rows.length qpMin qpMax qp0) { qp := qp0, keep := qp0 }

/-- CTU columns of core k of u, at the boundaries nearest equal shares of K columns. -/
def tileCols (K u k : Nat) : Nat := (2 * (k + 1) * K + u) / (2 * u) - (2 * k * K + u) / (2 * u)

/-! The split over cores (R320). -/

/-- CTU columns and rows of spatial layer sl. -/
def State.ctus (s : State) (e sl : Nat) : Nat × Nat := (ceilDiv (s.encSize e sl).1 64, ceilDiv (s.encSize e sl).2 64)

/-- The core of each CTU column, in tile columns, or of each CTU row, in wavefront rows; nothing on one core. -/
def State.encSplit (s : State) (e sl : Nat) (cores : List Nat) : List Nat :=
  let u := cores.length
  let z := s.ctus e sl
  if u ≤ 1 then []
  else if s.rd Enc.SPLIT e = 1 then (List.range z.2).map (fun r => cores.getD (r % u) 0)
  else (List.range u).flatMap (fun k => List.replicate (tileCols z.1 u k) (cores.getD k 0))

/-- A layer picture on cores: its split, the rows' lag, and which core filters across each tile boundary: the one on its right,
after the left one has published its edge columns. -/
def State.placeLayer (s : State) (e : Nat) (cores : List Nat) (l : LPic) : LPic :=
  let split := s.encSplit e l.s cores
  let wave := s.rd Enc.SPLIT e = 1
  { l with split := split, lag := if split != [] && wave then 2 else 0, edges := if wave then [] else splitEdges split }

/-! Session state. -/

def EncX.lay (x : EncX) (sl : Nat) : LEnc := Tbl.get {} x.lays sl
def EncX.layUpd (x : EncX) (sl : Nat) (f : LEnc → LEnc) : EncX := { x with lays := Tbl.upd {} x.lays sl f }

/-- The temporal reference of a picture of layer sl (R312): the latest coded picture it may reference. -/
def EncX.ref (x : EncX) (sl t : Nat) : Option Nat :=
  let ids := if t = 0 then [0] else List.range t
  let c := ids.foldl (fun m u => max m (Tbl.get 0 (x.lay sl).coded u)) 0
  if c = 0 then none else some (c - 1)

/-- qp0 of a picture of layer (sl, t). -/
def EncX.qp0 (x : EncX) (sl t qpMin qpMax : Nat) : Nat :=
  let q := match Tbl.get none (x.lay sl).qp t with
    | none => 32
    | some q => if q.excess then q.qp + 1 else if q.low then q.qp - 1 else q.qp
  max qpMin (min qpMax q)

/-- The layer picture of a spatial layer of a picture. -/
def EPic.layer? (p : EPic) (sl : Nat) : Option LPic := p.layers.find? (fun l => l.s == sl)
def EPic.layUpd (p : EPic) (sl : Nat) (f : LPic → LPic) : EPic :=
  { p with layers := p.layers.map (fun l => if l.s = sl then f l else l) }
def EPic.open (p : EPic) : Bool := p.layers.any (fun l => l.fate == 0)

def State.picUpd (s : State) (e n : Nat) (f : EPic → EPic) : State :=
  s.encUpd e (fun x => { x with pics := x.pics.map (fun p => if p.n = n then f p else p) })

/-! before_picture and after_picture (R324). -/

/-- The repayment of a list of layer pictures in descending layer id, and what has been paid. A dropped layer picture may
pay more than is owed; the next then gives the difference back. -/
def repay (a : Int) : List LPic → Int → List LPic × Int
  | [], paid => ([], paid)
  | l :: ls, paid =>
    if a - paid = 0 then (l :: ls, paid)
    else if ((l.budget / 2 : Nat) : Int) < a - paid then
      let r := repay a ls (paid + l.budget)
      ({ l with fate := 2 } :: r.1, r.2)
    else
      let r := repay a ls a
      ({ l with repay := a - paid } :: r.1, r.2)

/-- before_picture: the layer pictures with their repayments and drops. -/
def State.beforePicture (s : State) (e t : Nat) (ls : List LPic) : List LPic × State :=
  let debt := s.rd Enc.DEBT e
  if debt = 0 then (ls, s)
  else
    let w := (s.encX e).window
    let a := ceilDiv debt w
    let others := if t = 0 then ls.filter (fun l => l.s != 0) else ls
    let base := if t = 0 then ls.filter (fun l => l.s == 0) else []
    let (ls, paid) : List LPic × Int := if others = [] then
        let p : Nat := match base with | l :: _ => min a (l.budget / 4) | [] => 0
        (base.map (fun l => { l with repay := (p : Int) }), (p : Int))
      else
        let r := repay a others.reverse 0
        (base ++ r.1.reverse, r.2)
    let debt : Nat := ((debt : Int) - paid).toNat
    let s := s.encUpd e (fun x => { x with window := w - 1 })
    let s := if w ≤ 1 && 0 < debt then (s.bump Enc.FORGIVEN e debt).wr Enc.DEBT e 0 else s.wr Enc.DEBT e debt
    (ls, s)

/-- after_picture, once every layer picture has its fate. -/
def State.afterPicture (s : State) (e n : Nat) : State :=
  match (s.encX e).pics.find? (fun p => p.n == n) with
  | none => s
  | some p =>
    if p.open then s
    else
      let coded := p.layers.filter (fun l => l.fate == 1)
      let o := sumOf (coded.map (·.excess)) + (if p.key && coded != [] then 3 * sumOf (p.layers.map (fun l => l.budget / 4)) else 0)
      let s := s.encUpd e (fun x => { x with
        pics := x.pics.filter (fun q => q.n != n)
        window := if 0 < o then 8 else x.window })
      if o = 0 then s else s.wr Enc.DEBT e (min (s.rd Enc.DEBT e + o) 0xFFFFFFFF)

/-! Loss (R322, R326, R328). -/

/-- A layer picture is dropped: not sent, and its sweep stays where it is (R325). -/
def State.dropLayer (s : State) (e n sl : Nat) : State :=
  (s.bump Enc.LATE e).picUpd e n (fun p => p.layUpd sl (fun l => { l with fate := 2 }))

/-- A layer picture of picture n is lost. The loss of S0T0 loses the whole picture, and the next temporal-id-0 picture
restarts the layers; a spliceable session relies on its references alone. -/
def State.loseLayer (s : State) (e n sl : Nat) : State :=
  match (s.encX e).pics.find? (fun p => p.n == n) with
  | none => s
  | some p =>
    let base : Bool := p.t == 0 && sl == 0
    let gone := if base then (p.layers.filter (fun l => l.fate == 0)).map (·.s) else [sl]
    let s := gone.foldl (fun s k => s.dropLayer e n k) s
    let s := if base && !s.encSplices e then s.encUpd e (fun x => { x with keyT0 := true }) else s
    s.afterPicture e n

/-- Nominal time of a picture in cycles (Table 14.4, steps 3 and 4). -/
def State.encNominal (s : State) (e cores : Nat) : Nat :=
  120 * cycUs + s.encPixels e * cycS / (497664000 * max 1 cores)

/-! Retirement of an encode core (R327, R328). -/

def State.veX (s : State) (v : Nat) : UnitX := Tbl.get {} s.vid.ves v
def State.veUpd (s : State) (v : Nat) (f : UnitX → UnitX) : State := { s with vid := { s.vid with ves := Tbl.upd {} s.vid.ves v f } }

/-- A layer picture is re-encoded where cores are left and its deadline can be met; it is lost otherwise. -/
def State.reencode (s : State) (e n sl : Nat) (cores : List Nat) : State :=
  let late := s.encAt e (n + 1) * 8 / 5 < s.ns * 8 / 5 + s.encNominal e cores.length
  if cores = [] || late then s.loseLayer e n sl
  else (s.bump Enc.REENCODED e).picUpd e n (fun p => { p with cores := cores, layers := p.layers.map (s.placeLayer e cores) })

/-- The layer pictures that a session has in progress on core v move to other cores or are lost. -/
def State.encMove (s : State) (e v : Nat) (cores : List Nat) : State :=
  ((s.encX e).pics.filter (fun p => p.cores.contains v)).foldl (fun s p => (p.layers.filter (fun l => l.fate == 0)).foldl (fun s l =>
    match (s.encX e).pics.find? (fun q => q.n == p.n) with
    | some q => (match q.layer? l.s with | some m => if m.fate = 0 then s.reencode e p.n l.s cores else s | none => s)
    | none => s) s) s

/-- A session that lost core v is placed, or goes to NO_CORE. What it had in progress there goes to its other cores, `rest`; where it
has none, to those that it is placed on. -/
def State.encPlace (s : State) (e v : Nat) (rest : List Nat) : State :=
  match s.placeCores veCols (s.rd Enc.CHARGE e) with
  | some (vs, s) => (s.wr Enc.CORES e (maskOf vs)).encMove e v (if rest = [] then vs else rest)
  | none => (((s.encMove e v rest).wr Enc.CORES e 0).wr Enc.STATE e 3).raise Ev.VE_NO_CORE e toPlatform 0

/-- An encode core retires. Its work is handed on as the cycle ends (State.handOffVe): a completion of the same cycle stands. -/
def State.retireVe (s : State) (v cause : Nat) : State :=
  if s.rd Ve.STATE v ≠ 0 then s
  else
    let s := (s.wr Ve.STATE v 1).wr Ve.CAUSE v cause
    let s : State := { s with vid := { s.vid with retired := s.vid.retired ++ [(2, v)] } }
    s.unitRetired 4 v cause s.veIn (s.cap .venc)

/-- Sessions with an open picture on a core, in ascending order. -/
def State.encOn (s : State) (v : Nat) : List Nat :=
  (s.vid.enc.filter (fun r => r.2.pics.any (fun p => p.open && p.cores.contains v))).map (·.1)

/-- The sessions of a retired core are placed again; pictures that other sessions had sent to it move too. -/
def State.handOffVe (s : State) (v : Nat) : State :=
  let es := ((s.column Enc.CORES).filter (fun r => bitOf r.2 v)).map (·.1)
  let rest (s : State) (e : Nat) : List Nat := (bitsSet (s.rd Enc.CORES e)).filter (fun w => w != v && s.rd Ve.STATE w == 0)
  let kept := es.map (fun e => (e, rest s e))
  let s := es.foldl (fun s e => s.leaveCores veCols (s.rd Enc.CHARGE e) (bitsSet (s.rd Enc.CORES e))) s
  let s := (s.wr Ve.USED v 0).wr Ve.SESSIONS v 0
  let s := kept.foldl (fun s r => (s.wr Enc.CORES r.1 0).encPlace r.1 v r.2) s
  (s.encOn v).foldl (fun s e => s.encMove e v (rest s e)) s

/-- Where the procedure of R293 finds room for a session beside core v. -/
def State.spareFor (s : State) (e v : Nat) : List Nat :=
  let r := s.rd Enc.CHARGE e
  if coreRate < r then [] else (s.findCore veCols r v).toList

/-- A layer picture faults on an uncorrectable error of an internal memory of core v (R446): every layer picture in progress there
is coded again on its session's other cores, or on a core with room (R328). -/
def State.encFault (s : State) (v : Nat) : State :=
  let s := s.parityError 6 v toPlatform
  let l := s.addDay (s.veX v).memAt
  let s := s.veUpd v (fun x => { x with memAt := l })
  let s := (s.encOn v).foldl (fun s e =>
    let mine := (bitsSet (s.rd Enc.CORES e)).filter (fun w => w != v && s.rd Ve.STATE w == 0)
    s.encMove e v (if mine ≠ [] then mine else s.spareFor e v)) s
  if 2 ≤ l.length then s.retireVe v 2 else s

/-- A layer picture that is not complete within twice its nominal time counts against the cores that it is alone on; the second
in 24 h retires them (Table 14.5, cause 3; log 111). The cores to retire. -/
def State.overtime (s : State) (e : Nat) (p : EPic) : List Nat × State :=
  if s.rd Enc.INPUT e = 1 && p.alone && 2 * s.encNominal e p.cores.length < s.since p.at_ then
    p.cores.foldl (fun (a : List Nat × State) v =>
      let l := a.2.addDay (a.2.veX v).faultAt
      let s := (a.2.bump Ve.OVERTIME v).veUpd v (fun x => { x with faultAt := l })
      (if 2 ≤ l.length then a.1 ++ [v] else a.1, s)) ([], s)
  else ([], s)

/-- The same for every layer picture left over at a deadline. -/
def State.overtimes (s : State) (e : Nat) (ps : List EPic) : State :=
  let r := ps.foldl (fun (a : List Nat × State) p => (p.layers.filter (fun l => l.fate == 0)).foldl (fun a _ =>
    let b := a.2.overtime e p
    (a.1 ++ b.1, b.2)) a) ([], s)
  r.1.foldl (fun s v => s.retireVe v 3) r.2

/-- Layer pictures past their deadline are dropped; VE_LATE at most once per second. -/
def State.encLate (s : State) (e : Nat) : State :=
  let due := (s.encX e).pics.filter (fun p => p.open && s.encAt e (p.n + 1) ≤ s.ns)
  if due = [] then s
  else
    let s := due.foldl (fun s p => (p.layers.filter (fun l => l.fate == 0)).foldl (fun s l =>
      match (s.encX e).pics.find? (fun q => q.n == p.n) with
      | some q => (match q.layer? l.s with | some m => if m.fate = 0 then s.loseLayer e p.n l.s else s | none => s)
      | none => s) s) s
    let s := s.overtimes e due
    let fresh := match (s.encX e).lateAt with | some c => decide (cycS ≤ s.since c) | none => true
    if fresh then (s.encUpd e (fun x => { x with lateAt := some s.phys })).raise Ev.VE_LATE e toPlatform 0 else s

/-! A picture begins (R312, R315 to R318, R321, R323). -/

/-- What the session's input offers at a tick: 0 a new picture, 1 none new (or REPEAT), 2 none yet, 3 closed. -/
abbrev inNew : Nat := 0
abbrev inRepeat : Nat := 1
abbrev inNone : Nat := 2
abbrev inClosed : Nat := 3

/-- A refresh request for a session's source is served or ignored (R317). -/
def State.encRefresh (s : State) (e : Nat) : State :=
  let src := s.rd Enc.OUT_SOURCE e
  let n := (s.fwd.encReq.filter (fun r => r.1 == src)).length
  if n = 0 then s
  else
    let s := { s with fwd := { s.fwd with encReq := s.fwd.encReq.filter (fun r => r.1 != src) } }
    if s.encSplices e then s.bump Enc.IGNORED e n
    else
      let s := s.bump Enc.REFRESHES e n
      s.encUpd e (fun x => if s.rd Enc.REFRESH e = 0 then { x with keyNext := true } else { x with keyT0 := true })

/-- The sweep position of a layer at picture n: the refresh start of a waiting sweep comes at a temporal-id-0 picture; a
spliceable session's sweeps start where n mod REFRESH is PHASE. A position whose picture was dropped or fell back is coded by the
layer's next picture, whatever its temporal id (R325). -/
def State.sweepAt (s : State) (e n t sl : Nat) (key restart : Bool) : Option Nat :=
  let r := s.rd Enc.REFRESH e
  if r = 0 || key then none
  else
    let pos := ((s.encX e).lay sl).pos
    if s.encSplices e then
      let i := (n + r - s.rd Splice.PHASE (s.rd Enc.SPLICE e) % r) % r
      if i = 0 then some 0 else if pos.isSome then some i else none
    else if t = 0 && (restart || pos.isNone) then some 0
    else pos

/-- The CTU columns that a picture at a sweep position codes as intra (R316): from the first up to the second. -/
def State.sweepCols (s : State) (e sl : Nat) : Option Nat → Nat × Nat
  | some i => let k := (s.ctus e sl).1; let r := s.rd Enc.REFRESH e; (i * k / r, (i + 1) * k / r)
  | none => (0, 0)

/-- Is tick n a splice point of the session's group? -/
def State.splicePoint (s : State) (g n : Nat) : Bool := n % s.rd Splice.PERIOD g == s.rd Splice.PHASE g

/-- Another member of the session's splice group that has coded pictures: a member that joins it codes its first picture with
intra blocks under the frame header that the group has at that tick (R121), and so under that member's references. -/
def State.spliceMate (s : State) (e : Nat) : Option Nat :=
  if !s.encSplices e then none
  else (s.elemsWith Enc.SPLICE (s.rd Enc.SPLICE e)).find? (fun k =>
    k != e && s.rd Enc.STATE k == 2 && !((s.encX k).lay 0).coded.isEmpty)

/-- What a session that joins a running splice group takes from it: no key picture, and the group's references (DEDUCED, log
159). -/
def State.spliceJoin (s : State) (e : Nat) : State :=
  if !(s.encX e).keyNext then s
  else match s.spliceMate e with
    | none => s
    | some k => s.encUpd e (fun x => { x with
        keyNext := false
        lays := Tbl.set {} x.lays 0 { ({} : LEnc) with coded := ((s.encX k).lay 0).coded } })

/-- The static metadata of a composition output's frame (R341): on a PQ output the primaries and white point of BT.2020, OUT_PEAK and
0.005 cd/m², MaxCLL OUT_PEAK and MaxFALL 0; none otherwise. -/
def outMeta (x : OutX) : List Nat × List Nat :=
  if x.colours.1 = 1 then
    ([35400, 14600, 8500, 39850, 6550, 2300, 15635, 16450, x.colours.2.2 * 10000, 50], [x.colours.2.2, 0])
  else ([], [])

/-- What a session codes at a tick (R321): the picture with its size and depth, and the colour description and metadata copied
from it; flat Y′ 64, Cb and Cr 512 before the first picture; nothing where it codes an all-skip picture. -/
def State.encSource (s : State) (e kind : Nat) (input : Option (Nat × PicX)) :
    Option (Pix × Nat × Nat × Nat × List Nat × List Nat × List Nat) :=
  if kind = inNone then some (.flat 0x04080200, s.rd Enc.WIDTH e, s.rd Enc.HEIGHT e, 10, [], [], [])
  else if kind ≠ inNew then none
  else if s.rd Enc.INPUT e = 0 then
    let k := s.rd Enc.INPUT_ID e
    let x := Tbl.get {} s.vid.out k
    let wide := if x.colours.2.1 = 1 then 9 else 1
    some (x.draft, s.rd Outp.WIDTH k, s.rd Outp.HEIGHT k, s.rd Outp.DEPTH k,
      [wide, if x.colours.1 = 0 then 1 else if x.colours.1 = 1 then 16 else 18, wide, 0], outMeta x)
  else input.map (fun q =>
    let d := q.2.desc
    (q.2.pix, leAt d 20 2, leAt d 22 2, byteAt d 24, [byteAt d 28, byteAt d 29, byteAt d 30, byteAt d 31 % 2], q.2.mdcv, q.2.cll))

/-- The samples of spatial layer sl: scaled from the picture, or, inline, downscaled 2:1 from the layer above. -/
def State.layerPix (s : State) (e sl : Nat) (q : Pix × Nat × Nat × Nat × List Nat × List Nat × List Nat) : Pix :=
  let top := s.rd Enc.SPATIAL e - 1
  let d := s.rd Enc.DEPTH e
  let whole (k : Nat) : Pix := .coded q.1 q.2.1 q.2.2.1 q.2.2.2.1 (s.encSize e k).1 (s.encSize e k).2 d
  if s.rd Enc.INPUT e ≠ 0 then whole sl
  else (List.range (top - sl)).foldl (fun p j =>
    let a := s.encSize e (top - j)
    let b := s.encSize e (top - j - 1)
    .coded p a.1 a.2 d b.1 b.2 d) (whole top)

/-- Picture n of a session begins. -/
def State.encBegin (s : State) (e n kind : Nat) (input : Option (Nat × PicX)) : State :=
  let st := s.rd Enc.STATE e
  if st ≠ 1 && st ≠ 2 then s
  else
    let s := ((s.wr Enc.STATE e 2).encRefresh e).spliceJoin e
    let temporal := s.rd Enc.TEMPORAL e
    let t := temporalId temporal n
    let refresh := s.rd Enc.REFRESH e
    let x := s.encX e
    let before := x
    let key := x.keyNext || (x.keyT0 && t = 0 && refresh = 0)
    let restart := x.keyT0 && t = 0 && refresh ≠ 0
    let spatial := s.rd Enc.SPATIAL e
    let av1 := s.rd Src.CODEC (s.rd Enc.OUT_SOURCE e) = 16
    let sw := refresh = 0 && 1 < spatial && !key && n % s.rd Enc.SPATIAL_SW e = 0
    let qpMin := s.rd Enc.QP_MIN e
    let qpMax := s.rd Enc.QP_MAX e
    -- a key picture starts every reference and every qp0 anew
    let s := if key then s.encUpd e (fun x => { x with
        lays := (List.range spatial).foldl (fun l k => Tbl.set {} l k { ({} : LEnc) with swept := (x.lay k).swept }) x.lays })
      else s
    let x := s.encX e
    let from_ := s.encSource e kind input
    let lay (sl : Nat) : LPic :=
      let pos := s.sweepAt e n t sl key restart
      let start := pos = some 0 && !key
      let ref := if key || (sw && (!av1 || 0 < sl)) then none else x.ref sl t
      let b := rcBudget (s.rd (rateCol sl) e) temporal t (s.rd Enc.RATE_N e) (s.rd Enc.RATE_D e)
      { s := sl
        budget := if key then 4 * b else b
        repay := 0
        qp0 := before.qp0 sl t qpMin qpMax
        tref := if start then 0 else match ref with | some m => n - m | none => 0
        sref := av1 && 0 < sl
        start := start
        cols := s.sweepCols e sl pos
        pix := from_.map (s.layerPix e sl)
        sp := if s.encSplices e then s.splicePoint (s.rd Enc.SPLICE e) n else start && (x.lay sl).swept }
    let (ls, s) := s.beforePicture e t ((List.range spatial).map lay)
    let dropped := ls.filter (fun l => l.fate == 2)
    let s := s.bump Enc.DROPPED e dropped.length
    let ls := if s.encSplices e then ls.map (fun l => if l.fate = 2 then { l with fate := 0, skip := true } else l) else ls
    -- a dropped layer picture leaves its sweep where it was, and the layer above without inter-layer reference
    let ls := ls.map (fun l => { l with sref := l.sref && ls.any (fun m => m.s + 1 == l.s && m.fate != 2) })
    let s := ls.foldl (fun s l => s.encUpd e (fun x => x.layUpd l.s (fun y =>
      { y with pos := s.sweepAt e n t l.s key restart }))) s
    let cores := bitsSet (s.rd Enc.CORES e)
    let busy := s.vid.enc.any (fun r => r.1 != e && r.2.pics.any (fun p => p.cores.any (fun v => cores.contains v)))
    let pic : EPic := {
      n := n
      at_ := s.phys
      t := t
      key := key
      splice := s.encSplices e && s.splicePoint (s.rd Enc.SPLICE e) n
      repeat_ := kind == inRepeat || kind == inClosed
      flat := kind == inNone
      qpMin := qpMin
      qpMax := qpMax
      cores := cores
      waiting := kind == inNew && s.rd Enc.INPUT e == 0 && !x.inline
      layers := ls.map (s.placeLayer e cores)
      colour := match from_ with | some q => q.2.2.2.2.1 | none => []
      mdcv := match from_ with | some q => q.2.2.2.2.2.1 | none => []
      cll := match from_ with | some q => q.2.2.2.2.2.2 | none => []
      alone := !busy }
    let s := s.encUpd e (fun x => { x with
      pics := x.pics ++ [pic]
      keyNext := false
      keyT0 := if t = 0 then false else x.keyT0
      input := input
      coded := match input with | some (_, p) => some p.id | none => if kind = inNew && !pic.waiting then some n else x.coded })
    let s := if pic.repeat_ then s.bump Enc.REPEATS e else s
    let s := if kind = inClosed && !(s.encX e).lost then
      (s.encUpd e (fun x => { x with lost := true })).raise Ev.VE_INPUT_LOST e toPlatform 0 else s
    s.afterPicture e n

/-- The picture that a session takes from a decode session. -/
def State.decInput (s : State) (e : Nat) : Nat × Option (Nat × PicX) :=
  let d := s.rd Enc.INPUT_ID e
  let st := s.rd Dec.STATE d
  if 2048 ≤ d || st = 0 || st = 4 then (inClosed, none)
  else match s.newest d with
    | none => (inNone, none)
    | some p =>
      let old := (s.encX e).coded == some p.id || bitOf (descFlags p.desc) 2
      (if old then inRepeat else inNew, some (d, p))

/-- ENCODE_FRAME_TICK: a tick of a session fed by a decode session. -/
def encodeTick (e : Nat) (s : State) : State :=
  let k := Tbl.get {} s.tim.enc e
  if s.rd Enc.INPUT e ≠ 1 || !k.due (s.encGrid e) s.ns then s
  else
    let s : State := { s with tim := { s.tim with enc := Tbl.set {} s.tim.enc e k.post } }
    let s := s.encLate e
    let i := s.decInput e
    (s.encBegin e (k.next) i.1 i.2).decSweep

/-! Completion (R310, R313, R322, R323, R325). -/

/-- The NAL unit type of an HEVC layer picture (R312, R315): IDR without leading pictures for a key picture, CRA at a spatial switch
picture, TSA_R or TSA_N above temporal id 0, TRAIL_R otherwise. -/
def State.encNal (s : State) (e : Nat) (p : EPic) (l : LPic) : Nat :=
  if p.key then 20 else if l.tref = 0 && !l.start then 21 else if 0 < p.t then (if p.t + 1 = s.rd Enc.TEMPORAL e then 2 else 3) else 1

/-- The tag of a layer picture's packets (Table 14.3). -/
def State.encTag (s : State) (e : Nat) (p : EPic) (l : LPic) (ia first last : Bool) : TagX :=
  let temporal := s.rd Enc.TEMPORAL e
  let smode := s.smode (s.rd Enc.OUT_SOURCE e)
  let below := l.sref && p.layers.any (fun m => m.s + 1 == l.s && m.fate != 2)
  { s := l.s
    t := p.t
    fn := p.n
    sof := first
    eof := last
    refs := (if l.tref = 0 then [] else [(l.s, p.n - l.tref)]) ++ (if below then [(l.s - 1, p.n)] else [])
    cumulative := false
    previous := false
    irap := l.tref == 0
    tsa := decide (0 < p.t)
    switchFor := if l.tref = 0 || 0 < p.t then [4 * l.s + p.t] else []
    first := false
    sp := l.sp
    ia := ia
    di := 2 ≤ temporal && p.t + 1 == temporal && (smode == 1 || l.s + 1 == s.rd Enc.SPATIAL e)
    dti := if smode = 1 || !(l.tref = 0 || 0 < p.t) then []
      else (List.range 12).filter (fun c => l.s ≤ c / 4 && p.t ≤ c % 4 && c / 4 < s.rd Enc.SPATIAL e && c % 4 < temporal)
    nal := if smode = 0 then 0 else s.encNal e p l
    group := s.rd Enc.SPLICE e }

/-- One packet of a layer picture enters the packet store. On AV1 a dependency descriptor stands beside the LD; its
length beyond 3 bytes, where it carries the template structure, is the device's own. -/
def State.encPacket (s : State) (e : Nat) (p : EPic) (tag : TagX) (len : Nat) (structure_ : Bool) : Nat × State :=
  let src := s.rd Enc.OUT_SOURCE e
  let x := s.srcX src
  let av1 := s.rd Src.CODEC src = 16
  let (more, s) := if av1 && structure_ then s.draw 8 else (0, s)
  let (dd, s) := if av1 then s.ddBytes tag more else ([], s)
  let exts : List (Nat × Bytes) := if av1 then [(1, dd), (2, tag.ld)] else [(2, tag.ld)]
  let pkt : PktX := {
    src := src
    ssrc := s.rd Src.SSRC src
    seq := x.outSeq
    ts := rtp90k (s.encAt e p.n) x.rtpOffset
    pt := s.rd Src.PT src
    marker := tag.eof && tag.s + 1 == s.rd Enc.SPATIAL e
    csrcs := 0
    payLen := len
    exts := exts
    level := none
    tag := some tag
    colour := 0
    atNs := s.ns
    cn := false
    payload := videoBytes [0, src, x.outSeq] 0 len }
  let s := s.srcUpd src (fun y => { y with outSeq := y.outSeq + 1 })
  s.storePkt pkt (40 + extBytes (exts.map (fun e => (e.1, e.2.length))) + len)

/-- A run of packets of a layer picture. -/
def State.encPackets (s : State) (e : Nat) (p : EPic) (l : LPic) (ia : Bool) (lens : List Nat) : List Nat × State :=
  ((List.range lens.length).zip lens).foldl (fun (a : List Nat × State) q =>
    let tag := s.encTag e p l ia (q.1 == 0) (q.1 + 1 == lens.length)
    let r := a.2.encPacket e p tag q.2 (q.1 == 0 && !ia && ((p.key && !p.stored) || l.start))
    (a.1 ++ [r.1], r.2)) ([], s)

/-- Sizes and frame rates of a session's layers (Table 2.6). -/
def State.encLayers (s : State) (e : Nat) : State :=
  let src := s.rd Enc.OUT_SOURCE e
  let temporal := s.rd Enc.TEMPORAL e
  (List.range (s.rd Enc.SPATIAL e)).foldl (fun s k =>
    let z := s.encSize e k
    let s := s.layerSize src k z.1 z.2
    (List.range temporal).foldl (fun s t =>
      s.wr Layer.FPS (16 * src + 4 * k + t) (100 * s.rd Enc.RATE_N e * 2 ^ t / (s.rd Enc.RATE_D e * cycleOf temporal))) s) s

/-- Do the rows reported fit the layer picture: one list per tile column, each with a count for every CTU row? -/
def State.rowsFit (s : State) (e sl cores : Nat) (rows : List (List Nat)) : Bool :=
  let u := if s.rd Enc.SPLIT e = 0 then max 1 cores else 1
  rows.length == u && rows.all (fun r => r.length == ceilDiv (s.encSize e sl).2 64)

/-- The cores' part of a completed layer picture: counted, and its time beyond twice the nominal one. -/
def State.encCores (s : State) (e : Nat) (p : EPic) : List Nat × State :=
  (p.cores.foldl (fun s v => s.bump Ve.PICTURES v) s).overtime e p

/-- Rate control over a layer picture: the tiles' ends, budgets shared by CTU columns where there are several. -/
def State.encRows (s : State) (e : Nat) (p : EPic) (l : LPic) (rows : List (List Nat)) : List (Nat × Rc) :=
  let K := ceilDiv (s.encSize e l.s).1 64
  let u := rows.length
  ((List.range u).zip rows).map (fun q =>
    let c := if u = 1 then K else tileCols K u q.1
    let b : Nat := (((l.budget * c / K : Nat) : Int) - l.repay * c / K).toNat
    let x := rcPicture b p.qpMin p.qpMax l.qp0 q.2
    (b, if l.skip then { x with mode := 2, skipped := q.2.length, keep := l.qp0, rows := x.rows.map (fun r => (2, r.2)) } else x))

/-- The headers of a coded layer picture: base QP 32 in a spliceable session (R318), the picture's first QP otherwise (DESIGN
CHOICE, log 227), and the rows' deltas. -/
def State.encHead (s : State) (e : Nat) (p : EPic) (l : LPic) (rc : List (Nat × Rc)) : HeadX :=
  let base := if s.encSplices e then 32 else l.qp0
  { n := p.n
    level := s.encLevel e l.s
    nal := (s.encNal e p l) * (s.smode (s.rd Enc.OUT_SOURCE e))
    base := (s.codecQp e base).toNat
    rows := rc.map (fun r => r.2.rows.map (fun q => (q.1, s.codecQp e ((q.2 : Int) - (base : Int)))))
    cols := l.cols }

/-- A completed layer picture's state: its over, what qp0 follows, its references and its sweep. -/
def State.encDone (s : State) (e : Nat) (p : EPic) (l : LPic) (rc : List (Nat × Rc)) : State :=
  let excess := sumOf (rc.map (fun r => r.2.spent - r.1))
  let b := sumOf (rc.map (·.1))
  let spent := sumOf (rc.map (fun r => r.2.spent))
  let fell := rc.any (fun r => r.2.mode != 0)
  let skips := sumOf (rc.map (fun r => r.2.skipped))
  let q : QpX := ⟨match rc with | r :: _ => r.2.keep | [] => l.qp0, decide (0 < excess), decide (8 * spent < 7 * b)⟩
  let s := if fell && !l.skip then s.bump Enc.FALLBACK e else s
  let s := s.bump Enc.SKIP_ROWS e skips
  let r := s.rd Enc.REFRESH e
  let stays := fell || p.repeat_
  let s := s.encUpd e (fun x => { x with heads := Tbl.set none x.heads l.s (some (s.encHead e p l rc)) })
  let s := s.encUpd e (fun x => x.layUpd l.s (fun y =>
    let y := { y with
      coded := Tbl.set 0 y.coded p.t (p.n + 1)
      qp := if p.key then y.qp else Tbl.set none y.qp p.t (some q)
      swept := if l.start then false else y.swept }
    match y.pos with
    | none => y
    | some i =>
      if s.encSplices e then y
      else if stays then y
      else if i + 1 = r then { y with pos := none, swept := true }
      else { y with pos := some (i + 1) }))
  s.picUpd e p.n (fun p => { p.layUpd l.s (fun l => { l with fate := 1, excess := excess }) with stored := true })

/-- Does a core of a picture still hold a picture of another session with an earlier tick? A core codes its sessions' pictures in
tick order (R322). -/
def State.behind (s : State) (e : Nat) (p : EPic) : Bool :=
  s.vid.enc.any (fun r => r.1 != e && r.2.pics.any (fun q =>
    q.open && q.cores.any (fun v => p.cores.contains v) && s.encAt r.1 q.n < s.encAt e p.n))

/-- Does the compositor still stream picture n to a session? The streamed output and the HBM copy come from one pass, so no layer
picture of it is coded before that pass ends (R29; DEDUCED, log 156). -/
def State.streaming (s : State) (e n : Nat) : Bool :=
  s.rd Enc.INPUT e == 0 && (match (Tbl.get {} s.vid.out (s.rd Enc.INPUT_ID e)).busy with | some b => b.1 == n | none => false)

/-- LAYER_PICTURE_COMPLETE: spatial layer sl of the oldest picture in progress is coded: the bits of its rows by tile, the
payload lengths of its packets and of its intra alternative. A core whose internal memory fails is named instead. -/
def layerComplete (e sl : Nat) (rows : List (List Nat)) (packets alt : List Nat) (fault : Option Nat) (s : State) : State :=
  match (s.encX e).pics.find? (fun p => match p.layer? sl with | some l => l.fate == 0 | none => false) with
  | none => s
  | some p =>
    match p.layer? sl with
    | none => s
    | some l =>
      match fault with
      | some v => if p.cores.contains v then s.encFault v else s
      | none =>
        let ok := s.rowsFit e sl p.cores.length rows && packets != [] && (packets ++ alt).all (fun n => 1 ≤ n && n ≤ 1200) &&
          (alt != []) == p.splice && !s.streaming e p.n && !p.waiting && !s.behind e p
        if !ok then s
        else if s.encAt e (p.n + 1) < s.ns then s.encLate e
        else
          let s := if p.stored then s else s.bump Enc.PICTURES e
          let s := s.encDone e p l (s.encRows e p l rows)
          let (excess, s) := s.encCores e p
          let (ks, s) := s.encPackets e p l false packets
          let (as, s) := s.encPackets e p l true alt
          let s := s.encLayers e
          let s := if !s.encSplices e then s
            else s.srcUpd (s.rd Enc.OUT_SOURCE e) (fun x => { x with tiles := {
              n := p.n
              bytes := sumOf packets
              alt := if alt = [] then none else some (sumOf alt)
              pkts := ks ++ as
              atC := s.phys } :: x.tiles })
          let s := s.afterPicture e p.n
          excess.foldl (fun s v => s.retireVe v 3) s.sweepStore

/-- ENCODE_DEADLINE. -/
def encodeDeadline (e : Nat) (s : State) : State := s.encLate e

/-! Opening, closing and writing (R318, R319, R329, R330). -/

/-- The conditions of R318 for a member of splice group g; its temporal structure is that of the other members (R121, log 214). -/
def State.spliceFits (s : State) (e g : Nat) : Bool :=
  let c := cycleOf (s.rd Enc.TEMPORAL e)
  let src := s.rd Enc.OUT_SOURCE e
  let p := s.rd Splice.PERIOD g
  s.rd Splice.STATE g == 1 && s.rd Src.CODEC src == s.rd Splice.CODEC g && s.rd Enc.DEPTH e == s.rd Splice.DEPTH g &&
    s.rd Enc.WIDTH e == s.rd Splice.TILE_W g && s.rd Enc.HEIGHT e == s.rd Splice.TILE_H g &&
    s.rd Enc.RATE_N e == s.rd Splice.RATE_N g && s.rd Enc.RATE_D e == s.rd Splice.RATE_D g && s.rd Enc.SPATIAL e == 1 &&
    p % c == 0 && s.rd Splice.PHASE g % c == 0 && s.rd Enc.REFRESH e % p == 0 &&
    (s.elemsWith Enc.SPLICE g).all (fun k => k == e || s.rd Enc.STATE k == 0 || s.rd Enc.TEMPORAL k == s.rd Enc.TEMPORAL e)

/-- Can the source be produced by session e? -/
def State.encOutFits (s : State) (e src : Nat) : Bool :=
  let codec := s.rd Src.CODEC src
  s.rd Src.STATE src == 1 && s.rd Src.MEDIA src == 1 && s.rd Src.LEG src == 0xFFFFFFFF && (codec == 16 || codec == 17) &&
    !(s.elemsWith Enc.OUT_SOURCE src).any (fun k => k != e && s.rd Enc.STATE k != 0) && (s.mosaicOf src).isNone

/-- Is the input open and of the session's shape? -/
def State.encInFits (s : State) (e : Nat) : Bool :=
  let i := s.rd Enc.INPUT_ID e
  if s.rd Enc.INPUT e = 0 then
    i < 16 && s.rd Outp.STATE i != 0 && s.rd Outp.WIDTH i == s.rd Enc.WIDTH e && s.rd Outp.HEIGHT i == s.rd Enc.HEIGHT e &&
      s.rd Outp.RATE_N i == s.rd Enc.RATE_N e && s.rd Outp.RATE_D i == s.rd Enc.RATE_D e
  else s.rd Dec.STATE i != 0 && !s.on Src.E2E (s.rd Dec.SOURCE i)

/-- Does the input belong to another tenant? -/
def State.encForeign (s : State) (h e : Nat) : Bool :=
  let i := s.rd Enc.INPUT_ID e
  if h < 2 then false
  else if s.rd Enc.INPUT e = 0 then i < 16 && s.rd Outp.STATE i != 0 && s.rd Outp.OWNER i != h
  else s.rd Dec.STATE i != 0 && s.rd Dec.OWNER i != h

/-- The values that OPEN finds out of range. -/
def State.encBadRange (s : State) (e : Nat) : Bool :=
  let c := cycleOf (s.rd Enc.TEMPORAL e)
  let n := s.rd Enc.SPATIAL e
  let small := (List.range n).any (fun k => let z := s.encSize e k; z.1 < 64 || z.2 < 64)
  (s.rd Enc.SPLIT e == 1 && s.rd Src.CODEC (s.rd Enc.OUT_SOURCE e) == 16) || small || s.rd Enc.REFRESH e % c != 0 ||
    s.rd Enc.SPATIAL_SW e % c != 0 || (List.range n).any (fun k => s.rd (rateCol k) e == 0) ||
    !rateOk (s.rd Enc.RATE_N e) (s.rd Enc.RATE_D e) || 4 * coreRate < s.encCharge e

def encodeOpen (h e : Nat) (s : State) : Except Status State :=
  let src := s.rd Enc.OUT_SOURCE e
  let g := s.rd Enc.SPLICE e
  let spl := g ≠ 0xFF
  let r := s.encCharge e
  guarded [(src < 262144 && !s.reaches .src h src, .eNoObj), (s.encForeign h e, .eNoObj),
      (spl && 2 ≤ h && s.rd Splice.STATE g = 1 && s.rd Splice.OWNER g ≠ h, .eNoObj), (s.encBadRange e, .eRange),
      (s.rd Enc.STATE e != 0, .eState), (!s.encOutFits e src, .eState), (!s.encInFits e, .eState),
      (spl && !s.spliceFits e g, .eState), (spl && s.on Src.E2E src, .eState), (!s.hbmUp, .eState)]
    (match s.admission h .venc r with
     | .error e => .error e
     | .ok t => match t.placeCores veCols r with
       | none => .error .eCapacity
       | some (vs, t) =>
         let t := (((t.wr Enc.STATE e 1).wr Enc.OWNER e h).wr Enc.CORES e (maskOf vs)).wr Enc.CHARGE e r
         let t := if spl then ((t.bump Splice.MEMBERS g).wr Src.SPLICEABLE src 1).wr SrcFwd.GROUP src g else t
         let k := if t.rd Enc.INPUT e = 1 then TickX.start (t.encGrid e) t.ns else {}
         match t.poolTake 2 e 0 24 with
         | none => .error .eCapacity
         | some t => .ok { t with
           vid := { t.vid with enc := Tbl.set {} t.vid.enc e { inline := t.rd Enc.INPUT e == 0 && !t.vid.enc.any (fun r =>
             r.1 != e && r.2.inline && t.rd Enc.INPUT_ID r.1 == t.rd Enc.INPUT_ID e) } }
           tim := { t.tim with enc := Tbl.set {} t.tim.enc e k } })

def encodeClose (e : Nat) (s : State) : Except Status State :=
  if s.rd Enc.STATE e = 0 then .error .eState else .ok ((s.encClose e).decSweep)

/-- A write to an object of 0x4100. QP_MIN against QP_MAX is checked on what the transaction leaves. -/
def encWrite (h col e v : Nat) (s : State) : Except Status State :=
  if col = Enc.CMD then (if v = 1 then encodeOpen h e s else encodeClose e s)
  else if [Enc.RATE_S0, Enc.RATE_S1, Enc.RATE_S2, Enc.QP_MIN, Enc.QP_MAX].contains col then
    let k := col - Enc.RATE_S0
    if s.rd Enc.STATE e ≠ 0 && k < s.rd Enc.SPATIAL e && col ≤ Enc.RATE_S2 && v = 0 then .error .eRange else .ok (s.wr col e v)
  else guarded [((col == Enc.WIDTH || col == Enc.HEIGHT) && v % 2 == 1, .eRange), (s.rd Enc.STATE e != 0, .eState)] (.ok (s.wr col e v))

/-! The commands. -/

def execEncodeOpen (h e : Nat) (s : State) : Out := live (hostWrite h Enc.CMD e 1 (encodeOpen h e)) s

def execEncodeClose (h e : Nat) (s : State) : Out := live (hostWrite h Enc.CMD e 2 (encodeClose e)) s

def execEncodeFrameTick (e : Fin 2048) (s : State) : Out := live (encodeTick e) s

def execEncodeDeadline (e : Fin 2048) (s : State) : Out := live (encodeDeadline e) s

end Sys2Proof.Machine
end

