-- ==== Sys2Proof/Machine/Mosaic.lean ====
section
/-! DEFINITION. Tile splicing (chapter 5, R121 to R131; R30): splice groups, mosaics, and each viewer's picture assembled
from stored tiles. Tile bytes are no part of the model; which tile stands where, and their numbers, are. -/

namespace Sys2Proof.Machine

def State.mosX (s : State) (m : Nat) : MosX := Tbl.get {} s.fwd.mos m
def State.mosUpd (s : State) (m : Nat) (f : MosX → MosX) : State :=
  { s with fwd := { s.fwd with mos := Tbl.upd {} s.fwd.mos m f } }

/-- No source at a position. -/
abbrev posEmpty : Nat := 0xFFFFFFFF

/-- Grid positions of a mosaic. -/
def State.mosCells (s : State) (m : Nat) : Nat := s.rd Mos.COLS m * s.rd Mos.ROWS m

/-- The mosaics of a group that are open. -/
def State.mosaicsOf (s : State) (g : Nat) : List Nat := (s.elemsWith Mos.STATE 1).filter (fun m => s.rd Mos.GROUP m == g)

/-- The leg that a member source comes from: its own, or, for a tile coded from a decoded stream, that stream's; none for a
tile coded from a composition. A member's own LEG is always 0xFFFF_FFFF, and R125's example has members "sent by legs"
(DESIGN CHOICE, log 158). -/
def State.memberLeg (s : State) (src : Nat) : Nat :=
  let l := s.rd Src.LEG src
  if l ≠ 0xFFFFFFFF then l
  else match (s.elemsWith Enc.OUT_SOURCE src).find? (fun e => s.rd Enc.STATE e != 0 && s.rd Enc.INPUT e == 1) with
    | some e => s.rd Src.LEG (s.rd Dec.SOURCE (s.rd Enc.INPUT_ID e))
    | none => 0xFFFFFFFF

/-- The tile of a source at a tick, where it is stored. -/
def State.tile? (s : State) (src n : Nat) : Option TileX := (s.srcX src).tiles.find? (fun t => t.n == n)

/-! wanted, assemble and current (R125, R126). -/

/-- wanted of R125 for positions 0 to k - 1, in order: the sources wanted so far. -/
def State.wantedUpTo (s : State) (m : Nat) (pos : List Nat) (leg : Nat) : Nat → List Nat
  | 0 => []
  | k + 1 =>
    let before := s.wantedUpTo m pos leg k
    let src := pos.getD k posEmpty
    let cells := s.mosCells m
    let w := if !s.on Mos.EXCLUDE_SELF m || src = posEmpty || s.memberLeg src ≠ leg then src
      else (((List.range 64).filter (fun j => cells ≤ j)).map (fun j => pos.getD j posEmpty)).find? (fun sp =>
        sp != posEmpty && s.memberLeg sp != leg && !(pos.take cells).contains sp && !before.contains sp) |>.getD posEmpty
    before ++ [w]

/-- What one position of a picture takes: the tile and its bytes, and the counts of switches and of skips. -/
structure CellX where
  what : TileRef
  bytes : Nat
  show_ : Nat                      -- the source shown from now on
  switch : Nat := 0
  skip : Nat := 0
  deriving DecidableEq, Repr

/-- The fill tile of a group, as a position that shows nothing. -/
def State.fillCell (s : State) (g switch : Nat) : CellX :=
  { what := .fill g, bytes := (Tbl.get {} s.fwd.groups g).fill, show_ := posEmpty, switch := switch }

/-- current of R126. -/
def State.currentCell (s : State) (g have_ n : Nat) : CellX :=
  match if have_ = posEmpty then none else s.tile? have_ n with
  | some t => { what := .tile have_ n, bytes := t.bytes, show_ := have_ }
  | none => { what := .skip g, bytes := (Tbl.get {} s.fwd.groups g).skip, show_ := have_, skip := if have_ = posEmpty then 0 else 1 }

/-- One position of assemble. `fresh` on a viewer's first picture and where it asked for a refresh. -/
def State.cell (s : State) (g have_ want n : Nat) (fresh splice : Bool) : CellX :=
  let alt := if want = posEmpty then none else (s.tile? want n).bind (·.alt)
  if fresh then
    match alt with
    | some b => { what := .intra want n, bytes := b, show_ := want }
    | none => s.fillCell g 0
  else if want ≠ have_ && splice then
    if want = posEmpty then s.fillCell g 1
    else match alt with
      | some b => { what := .intra want n, bytes := b, show_ := want, switch := 1 }
      | none => s.currentCell g have_ n
  else s.currentCell g have_ n

/-- The packets of the packet store that a tile lies in. -/
def State.tilePktsOf (s : State) (t : TileRef) : List Nat :=
  match t with
  | .tile src n => match s.tile? src n with | some t => t.pkts | none => []
  | .intra src n => match s.tile? src n with | some t => t.pkts | none => []
  | _ => []

/-! The units of a picture (R128). -/

/-- A tile by numbers. -/
def TileRef.key : TileRef → List Nat
  | .tile src n => [0, src, n]
  | .intra src n => [1, src, n]
  | .fill g => [2, g]
  | .skip g => [3, g]

def SpliceUnit.bytes : SpliceUnit → Nat
  | .params _ _ _ _ _ b => b
  | .header _ _ _ b => b
  | .tileGroup _ _ b => b
  | .slice _ _ _ _ b => b

/-- The packets of the store that a unit's data lies in. -/
def State.unitPkts (s : State) : SpliceUnit → List Nat
  | .tileGroup _ t _ => s.tilePktsOf t
  | .slice _ _ _ t _ => s.tilePktsOf t
  | _ => []

/-- The address of the first CTB, 64 × 64 luma samples, of tile k of a picture, in raster order. -/
def sliceAddress (cols tileW tileH k : Nat) : Nat := k / cols * (tileH / 64) * (cols * (tileW / 64)) + k % cols * (tileW / 64)

/-- The units of a picture of mosaic m: the parameter sets where it is fresh, the frame header rewritten to the mosaic's
grid (AV1), and the tiles in raster order. `par`, `hdr` and `grow` are the bytes of the parameter sets, of the frame header,
and by which a slice segment's rewritten header exceeds the coded one. -/
def State.pictureUnits (s : State) (m n : Nat) (fresh : Bool) (cells : List CellX) (par hdr grow : Nat) : List SpliceUnit :=
  let g := s.rd Mos.GROUP m
  let codec := s.rd Splice.CODEC g
  let cols := s.rd Mos.COLS m
  let rows := s.rd Mos.ROWS m
  let w := s.rd Splice.TILE_W g
  let h := s.rd Splice.TILE_H g
  (if fresh then [.params codec (cols * w) (rows * h) cols rows par] else []) ++
  (if codec = 16 then [.header n cols rows hdr] else []) ++
  ((List.range cells.length).zip cells).map (fun q =>
    if codec = 16 then .tileGroup q.1 q.2.what q.2.bytes
    else .slice q.1 (q.1 == 0) (sliceAddress cols w h q.1) q.2.what (q.2.bytes + grow))

/-- n bytes in pieces of at most `most`: the offset and length of each. -/
def piecesOf (n most : Nat) : List (Nat × Nat) :=
  (List.range (ceilDiv n most)).map (fun i => (most * i, min most (n - most * i)))

/-- The type of the NAL unit that holds a slice of temporal id t: TRAIL_R, TSA_R, or TSA_N where no picture refers to it (R312). -/
def nalType (t : Nat) (referred : Bool) : Nat := if t = 0 then 1 else if referred then 3 else 2

/-- The packets of one unit: the payload header that its RTP format puts before, and where in the unit its bytes lie. HEVC (RFC
7798): a NAL unit packet, or fragmentation units, which leave the two bytes of the NAL unit's header out. AV1: an aggregation header
with one OBU element. -/
def unitPackets (codec t : Nat) (referred fresh : Bool) (u : SpliceUnit) : List (Bytes × Nat × Nat) :=
  let n := u.bytes
  if codec = 16 then
    (piecesOf n 1199).map (fun q =>
      (natBE 1 (128 * (q.1 != 0).toNat + 64 * (decide (q.1 + q.2 < n)).toNat + 16 + 8 * (fresh && q.1 == 0).toNat), q))
  else if n ≤ 1200 then [([], 0, n)]
  else
    (piecesOf (n - 2) 1197).map (fun q =>
      (natBE 2 (49 * 512 + t + 1) ++
        natBE 1 (128 * (q.1 == 0).toNat + 64 * (q.1 + q.2 == n - 2).toNat + nalType t referred), (q.1 + 2, q.2)))

/-- What a unit codes, as its bytes depend on it. -/
def SpliceUnit.key : SpliceUnit → List Nat
  | .params codec w h cols rows _ => [1, codec, w, h, cols, rows]
  | .header tick cols rows _ => [2, tick, cols, rows]
  | .tileGroup k t _ => 3 :: k :: t.key
  | .slice k first a t _ => 4 :: k :: first.toNat :: a :: t.key

/-- What a viewer's position k shows. -/
def SubX.shows (x : SubX) (k : Nat) : Nat := let v := Tbl.get 0 x.have_ k; if v = 0 then posEmpty else v - 1

/-! A packet stream the device numbers itself, on one subscription: mosaics and override streams. -/

/-- One packet of such a stream on subscription h: consecutive numbers, the subscription's SSRC and time-stamp offset. -/
def State.streamSend (s : State) (h : Nat) (p : PktX) (t : TagX) (marker first : Bool) (body : Body) (holds : List Nat := []) :
    State :=
  let l := s.rd Sub.LEG h
  let c : CopyX := {
    leg := l
    cls := 2
    video := true
    src := p.src
    frame := (t.s, t.fn)
    layer := 4 * t.s + t.t
    ipLen := s.copyLen l p 0
    octets := p.payLen
    ssrc := s.rd Sub.OUT_SSRC h
    pt := p.pt
    ts := (p.ts + s.rd SubFwd.TS_OFFSET h) % 2 ^ 32
    marker := marker
    exts := s.legExts l p.exts
    holds := holds
    payload := p.payload
    body := body }
  let c := { c with cls := if t.t = 0 then 2 else 3 }
  if s.radio l then
    s.radioVideo c h t.t (deadline p.atNs (s.rd Fret.DL_VIDEO (s.rd Leg.PORT l))) first t.eof (t.t == 0) t.refs
  else
    let i := s.nextIndex (txCtx l) c.ssrc (s.rd SubFwd.SEQ_OFFSET h)
    let c := { c with seq := i }
    if c.tooLong then (s.dropCopy c l (s.rd Leg.PORT l)).subLost h t.s t.fn t.t
    else
    let r := s.protect (txCtx l) c.ssrc i false
    if !r.2 then
      let x := r.1.legEg l
      (r.1.legEgSet l { x with dropped := c.layerFrame :: x.dropped }).subLost h t.s t.fn t.t
    else
      let c := r.1.sealCopy c
      let r := r.1.egressAdmit c
      if !r.2 then r.1.subLost h t.s t.fn t.t
      else
        let s := r.1.subUpd h (fun x => { x with sent := i :: x.sent })
        ((s.histAdd c h).countOut h c p.atNs).cutThrough l c.cls

/-- The tag of a whole layer frame (0, t) with its references. -/
def plainTag (t n : Nat) (refs : List (Nat × Nat)) : TagX where
  s := 0
  t := t
  fn := n
  sof := true
  eof := true
  refs := refs
  cumulative := false
  previous := false
  irap := false
  tsa := false
  switchFor := []
  first := false
  sp := false
  ia := false

/-- The packets of a mosaic picture on a subscription: at most 1,200 payload bytes each, each with the unit that lies in it, the
layer descriptor and, on AV1, the dependency descriptor of each packet. -/
def State.streamRun (s : State) (h m n : Nat) (p : PktX) (t : TagX) (us : List SpliceUnit) : State :=
  let codec := s.rd Src.CODEC p.src
  let all := us.zipIdx.flatMap (fun u =>
    (unitPackets codec t.t (!t.di) (t.irap && u.2 == 0) u.1).map (fun q => (u.1, q.1, q.2.1, q.2.2)))
  let k := all.length
  all.zipIdx.foldl (fun s x =>
    let q : Nat × SpliceUnit × Bytes × Nat × Nat := (x.2, x.1)
    let t := { t with sof := q.1 == 0, eof := q.1 + 1 == k }
    let (dd, s) := if codec = 16 then s.ddBytes t 0 else ([], s)
    let exts : List (Nat × Bytes) := if codec = 16 then [(1, dd), (2, t.ld)] else [(2, t.ld)]
    let (u, head, from_, len) := q.2
    let payload := head ++ videoBytes u.key from_ len
    s.streamSend h { p with payLen := payload.length, payload := payload, exts := exts } t (q.1 + 1 == k) (q.1 == 0)
      (.mosaic m n [u]) (s.unitPkts u)) s

/-! Emission (R30, R126 to R129). -/

/-- The temporal structure of a group: TEMPORAL of a member's session, 1 without one. -/
def State.groupTemporal (s : State) (g : Nat) : Nat :=
  match (s.elemsWith Enc.SPLICE g).find? (fun e => s.rd Enc.STATE e != 0) with
  | some e => s.rd Enc.TEMPORAL e
  | none => 1

/-- The tick that picture n references: the latest one emitted that its temporal id may reference. -/
def tickRef (temporal n : Nat) (past : List Nat) : Nat :=
  let t := temporalId temporal n
  (past.find? (fun m => m < n && (if t = 0 then temporalId temporal m == 0 else temporalId temporal m < t))).getD (n - 1)

/-- One viewer's picture of tick n. -/
def State.viewerPicture (s : State) (m n : Nat) (pos : List Nat) (h : Nat) : State :=
  let l := s.rd Sub.LEG h
  let g := s.rd Mos.GROUP m
  let out := s.rd Mos.OUT_SOURCE m
  let splice := s.splicePoint g n
  let x := s.subX h
  let fresh : Bool := !x.mosStarted || (x.mosRefresh && splice)
  if s.rd Leg.STATE l ≠ 2 || s.overridden h || (fresh && !splice) then s
  else
    let temporal := s.groupTemporal g
    let t := temporalId temporal n
    let tag : TagX := { plainTag t n (if fresh then [] else [(0, tickRef temporal n (s.mosX m).past)]) with
      irap := fresh
      di := 2 ≤ temporal && t + 1 == temporal
      switchFor := if splice then [0, 1, 2, 3] else []
      sp := splice }
    let (d, _, s) := s.decision h tag
    if !d.fwd then s
    else
      let want := s.wantedUpTo m pos (s.rd Sub.LEG h) (s.mosCells m)
      let cells := ((List.range (s.mosCells m)).zip want).map (fun q => s.cell g (x.shows q.1) q.2 n fresh splice)
      let s := s.subUpd h (fun y => { y with
        mosStarted := true
        mosRefresh := if fresh then false else y.mosRefresh
        have_ := ((List.range cells.length).zip cells).foldl (fun t q =>
          Tbl.set 0 t q.1 (if q.2.show_ = posEmpty then 0 else q.2.show_ + 1)) y.have_ })
      let skips := sumOf (cells.map (·.skip))
      let s := (s.bump Mos.SWITCHES m (sumOf (cells.map (·.switch)))).bump Mos.SKIPS m skips
      let s := s.bump SubFwd.SKIP_TILES h skips
      -- the lengths of the rewritten frame header and of the parameter sets are the device's own
      let (hdr, s) := s.draw 6
      let (par, s) := if fresh then s.draw 8 else (0, s)
      let (grow, s) := if s.rd Splice.CODEC g = 16 then (0, s) else s.draw 2
      let p : PktX := {
        src := out
        ssrc := s.rd Src.SSRC out
        seq := 0
        ts := rtp90k ((frameGrid (s.rd Splice.RATE_N g) (s.rd Splice.RATE_D g)).at n) (s.srcX out).rtpOffset
        pt := s.rd Src.PT out
        marker := false
        csrcs := 0
        payLen := 0
        exts := []
        level := none
        tag := some tag
        colour := 0
        atNs := s.ns
        cn := false }
      s.streamRun h m n p tag (s.pictureUnits m n fresh cells (par + 1) (hdr + 1) grow)

/-- The sources whose tiles a mosaic's picture waits for: those of its grid positions, and those its viewers still show there
while they are members of the group. -/
def State.mosNeeds (s : State) (m : Nat) (pos : List Nat) : List Nat :=
  let shown := (s.subsOfSource (s.rd Mos.OUT_SOURCE m)).flatMap (fun h =>
    let x := s.subX h; (List.range (s.mosCells m)).map (fun k => x.shows k))
  let members := shown.filter (fun x => s.rd SrcFwd.GROUP x == s.rd Mos.GROUP m)
  distinct ((pos.take (s.mosCells m) ++ members).filter (fun x => x != posEmpty))

/-- The position table of a mosaic as it stands. A source that has become end-to-end encrypted stands in none (R120). -/
def State.mosPos (s : State) (m : Nat) : List Nat := (List.range 64).map (fun k =>
  let src := s.rd MosPos.SOURCE (64 * m + k)
  if s.on Src.E2E src then posEmpty else src)

/-- The first tile of a tick not yet emitted opens the picture of that tick, and the position table is read. -/
def State.mosArm (s : State) (m : Nat) : State :=
  let x := s.mosX m
  if x.since.isSome then s
  else
    let pos := s.mosPos m
    let ts := (s.mosNeeds m pos).flatMap (fun src => (s.srcX src).tiles.filter (fun t => x.emitted = 0 || x.tick < t.n))
    match ts with
    | [] => s
    | t :: rest =>
      let n := rest.foldl (fun a q => min a q.n) t.n
      let c := (ts.filter (fun q => q.n == n)).foldl (fun a q => min a q.atC) s.phys
      s.mosUpd m (fun y => { y with tick := n, since := some c, pos := pos })

/-- A tile has been stored: the mosaics of its group may open their pictures. Tiles two ticks old are needed no more. -/
def State.tileStored (s : State) (src : Nat) : State :=
  let g := s.rd SrcFwd.GROUP src
  let s := s.srcUpd src (fun x => match x.tiles with
    | t :: _ => { x with tiles := x.tiles.filter (fun u => t.n ≤ u.n + 2) }
    | [] => x)
  (s.mosaicsOf g).foldl (fun s m => s.mosArm m) s

/-- Tiles of a group's ticks that all its mosaics have emitted are released. -/
def State.dropTiles (s : State) (g : Nat) : State :=
  let xs := (s.mosaicsOf g).map (fun m => s.mosX m)
  let done (n : Nat) : Bool := xs.all (fun x => n ≤ x.tick && x.since.isNone)
  ((s.elemsWith SrcFwd.GROUP g)).foldl (fun s src =>
    s.srcUpd src (fun x => { x with tiles := x.tiles.filter (fun t => !done t.n) })) s

/-- Is a part powered and its clock running? -/
def State.partOn (s : State) (k : Nat) : Bool := s.part k == 2 || s.part k == 3 || s.part k == 4

/-- A spliced mosaic asks for NET, SCHED and an encode core in service (R34, Table 1.11), which a picture waits for. -/
def State.mosaicDemand (s : State) : State :=
  let vs := (List.range 16).filter (fun v => s.rd Ve.STATE v == 0)
  match vs.find? (fun v => s.partOn (vePart v)) with
  | some v => if s.partOn netPart && s.partOn schedPart then s else (s.demand netPart).demand (vePart v)
  | none => match vs with | v :: _ => (s.demand netPart).demand (vePart v) | [] => s

/-- Is every domain of the spliced mosaic's path powered? -/
def State.mosaicUp (s : State) : Bool :=
  s.hbmUp && s.partOn netPart && s.partOn schedPart && (List.range 16).any (fun v => s.partOn (vePart v))

/-- MOSAIC_PICTURE_EMIT. A picture that is due goes out once the path's domains are powered. -/
def mosaicEmit (m : Nat) (s : State) : State :=
  if s.rd Mos.STATE m ≠ 1 then s
  else
    let g := s.rd Mos.GROUP m
    let x := s.mosX m
    let out := s.rd Mos.OUT_SOURCE m
    let idle := x.since.isNone && s.mosNeeds m (s.mosPos m) == []
    let now := (frameGrid (s.rd Splice.RATE_N g) (s.rd Splice.RATE_D g)).latest s.ns
    let due : Bool := match x.since with
      | some c => decide (8 * cycMs ≤ s.since c) || (s.mosNeeds m x.pos).all (fun src => (s.tile? src x.tick).isSome)
      | none => idle && (x.emitted == 0 || decide (x.tick < now))
    if !due || s.rd Src.STATE out ≠ 1 then s
    else if !s.mosaicUp then s.mosaicDemand
    else
      let n := if idle then now else x.tick
      let pos := if idle then s.mosPos m else x.pos
      let temporal := s.groupTemporal g
      let tag := plainTag (temporalId temporal n) n []
      let s := s.tagSeen out tag 0
      let s := s.wr Layer.FPS (16 * out + tag.t) (100 * s.rd Splice.RATE_N g * 2 ^ tag.t / (s.rd Splice.RATE_D g * cycleOf temporal))
      let s := (s.subsOfSource out).foldl (fun s h => s.viewerPicture m n pos h) s
      let s := s.mosUpd m (fun y => { y with tick := n, since := none, emitted := y.emitted + 1, past := (n :: y.past).take 16 })
      ((s.dropTiles g).mosArm m).sweepStore

/-! Opening, closing and writing (R122 to R124). -/

/-- A group or mosaic of another TENANT host does not exist for host h (R123). -/
def State.splOwned (s : State) (h stateCol ownerCol el : Nat) : Bool := h < 2 || s.rd stateCol el == 0 || s.rd ownerCol el == h

/-- May a source stand at a position of a mosaic of group g: a SPLICEABLE source of the group, not end-to-end encrypted (R120)? -/
def State.mayTile (s : State) (g src : Nat) : Bool := s.on Src.SPLICEABLE src && s.rd SrcFwd.GROUP src == g && !s.on Src.E2E src

def spliceOpen (h g : Nat) (s : State) : Except Status State :=
  guarded [(!rateOk (s.rd Splice.RATE_N g) (s.rd Splice.RATE_D g) || s.rd Splice.PERIOD g ≤ s.rd Splice.PHASE g, .eRange),
      (s.rd Splice.STATE g != 0, .eState), (!s.hbmUp, .eState)]
    (let (f, s) := s.draw 12
     let (k, s) := s.draw 8
     let s := (s.wr Splice.STATE g 1).wr Splice.OWNER g h
     let c := s.rd Splice.FILL g
     let x : GrpX := { fill := f + 1, skip := k + 1, colour := (c / 2 ^ 20 % 1024, c / 2 ^ 10 % 1024, c % 1024) }
     .ok { s with fwd := { s.fwd with groups := Tbl.set {} s.fwd.groups g x } })

def spliceClose (g : Nat) (s : State) : Except Status State :=
  if s.rd Splice.STATE g = 0 || s.rd Splice.MEMBERS g ≠ 0 then .error .eState
  else
    let t := s.clearEl Splice.index g
    .ok { t with fwd := { t.fwd with groups := Tbl.set {} t.fwd.groups g {} } }

/-- A write to an object of a group. PHASE against PERIOD is checked on what the transaction leaves. -/
def spliceWrite (h col g v : Nat) (s : State) : Except Status State :=
  if col = Splice.CMD then (if v = 1 then spliceOpen h g s else spliceClose g s)
  else guarded [((col == Splice.TILE_W || col == Splice.TILE_H) && v % 64 != 0, .eRange), (s.rd Splice.STATE g != 0, .eState)]
    (.ok (s.wr col g v))

def mosaicOpen (h m : Nat) (s : State) : Except Status State :=
  let g := s.rd Mos.GROUP m
  let out := s.rd Mos.OUT_SOURCE m
  let open_ := g < 255 && s.rd Splice.STATE g == 1
  let w := s.rd Mos.COLS m * s.rd Splice.TILE_W g
  let v := s.rd Mos.ROWS m * s.rd Splice.TILE_H g
  let outOk := s.rd Src.STATE out == 1 && s.rd Src.MEDIA out == 1 && s.rd Src.LEG out == 0xFFFFFFFF &&
    !(s.elemsWith Enc.OUT_SOURCE out).any (fun e => s.rd Enc.STATE e != 0) && (s.mosaicOf out).isNone
  let posOk := (s.mosPos m).all (fun x => x == posEmpty || s.mayTile g x)
  guarded [(out < 262144 && !s.reaches .src h out, .eNoObj), (g < 255 && !s.splOwned h Splice.STATE Splice.OWNER g, .eNoObj),
      (open_ && (7680 < w || 4320 < v), .eRange), (s.rd Mos.STATE m != 0, .eState), (!open_, .eState), (!outOk, .eState), (!posOk, .eState),
      (!s.hbmUp, .eState)]
    (let s := (s.wr Mos.STATE m 1).wr Mos.OWNER m h
     let s := s.layerSize out 0 w v
     .ok { s with fwd := { s.fwd with mos := Tbl.set {} s.fwd.mos m {} } })

def mosaicClose (m : Nat) (s : State) : Except Status State :=
  if s.rd Mos.STATE m = 0 || s.subsOfSource (s.rd Mos.OUT_SOURCE m) ≠ [] then .error .eState
  else
    let t := s.clearEl Mos.index m
    let t := (List.range 64).foldl (fun t k => t.clearEl MosPos.index (64 * m + k)) t
    .ok { t with fwd := { t.fwd with mos := Tbl.set {} t.fwd.mos m {} } }

/-- A write to an object of a mosaic. -/
def mosaicWrite (h col m v : Nat) (s : State) : Except Status State :=
  if col = Mos.CMD then (if v = 1 then mosaicOpen h m s else mosaicClose m s)
  else if col ≠ Mos.EXCLUDE_SELF && s.rd Mos.STATE m ≠ 0 then .error .eState
  else .ok (s.wr col m v)

/-- A write to a mosaic position. -/
def mosPosWrite (h e v : Nat) (s : State) : Except Status State :=
  let g := s.rd Mos.GROUP (e / 64)
  if v = posEmpty then .ok (s.wr MosPos.SOURCE e v)
  else guarded [(!s.reaches .src h v, .eNoObj), (!s.mayTile g v, .eState)]
    (.ok (s.wr MosPos.SOURCE e v))

/-! The commands. -/

/-- A layer picture of a spliceable session is a tile. -/
def layerOrTile (e sl : Nat) (rows : List (List Nat)) (packets alt : List Nat) (fault : Option Nat) (s : State) : State :=
  let src := s.rd Enc.OUT_SOURCE e
  let t := layerComplete e sl rows packets alt fault s
  if s.rd SrcFwd.GROUP src = 0xFF then t else t.tileStored src

def execLayerPictureComplete (e : Fin 2048) (layer : Fin 3) (rows : List (List Nat)) (packets alt : List Nat)
    (fault : Option Nat) (s : State) : Out := live (layerOrTile e layer rows packets alt fault) s

def execSpliceGroupOpen (h g : Nat) (s : State) : Out := live (hostWrite h Splice.CMD g 1 (spliceOpen h g)) s

def execSpliceGroupClose (h g : Nat) (s : State) : Out := live (hostWrite h Splice.CMD g 2 (spliceClose g)) s

def execMosaicOpen (h m : Nat) (s : State) : Out := live (hostWrite h Mos.CMD m 1 (mosaicOpen h m)) s

def execMosaicClose (h m : Nat) (s : State) : Out := live (hostWrite h Mos.CMD m 2 (mosaicClose m)) s

def execMosaicPictureEmit (m : Fin 8192) (s : State) : Out := live (mosaicEmit m) s

end Sys2Proof.Machine
end

