-- ==== Sys2Proof/Machine/Compose.lean ====
section
/-! DEFINITION. Composition and the Rosette layer (chapter 15): outputs, layers and their checks, frames, the peak of the
tone mapping, what a frame shows, compositors that fail, the override of the SAFETY host and its store. -/

namespace Sys2Proof.Machine

/-! The peak of a layer (R340). -/

/-- MaxCLL, and the maximum luminance of the mastering display, of a picture's static metadata in cd/m²; 0 where absent. -/
def PicX.maxcll (p : PicX) : Nat := p.cll.headD 0
def PicX.mastering (p : PicX) : Nat := p.mdcv.getD 8 0 / 10000

/-- peak of R340: the peak taken, and layer.p after. -/
def peakOf (transfer sdrNits tone maxcll mastering code : Nat) (p : Option Nat) : Nat × Option Nat :=
  if transfer = 18 then (1000, p)
  else if transfer ≠ 16 then (sdrNits, p)
  else if tone = 1 then
    let q := Config.pqEotf code
    let v := match p with | some o => max q (o * 63 / 64) | none => q
    (min v 10000, some v)
  else (if maxcll ≠ 0 then maxcll else if mastering ≠ 0 then mastering else 1000, p)

/-! Layers (R334, R336, R337). -/

/-- The width and height of a layer's source: its latest picture, or what its session may decode. -/
def State.layerSrcSize (s : State) (e : Nat) : Nat × Nat :=
  let k := s.rd Lay.SRC e
  if s.rd Lay.KIND e = 1 then
    match (s.decX k).latest with
    | some p => (descW p.desc, descH p.desc)
    | none => (s.rd Dec.MAX_WIDTH k, s.rd Dec.MAX_HEIGHT k)
  else (s.rd Outp.WIDTH k, s.rd Outp.HEIGHT k)

/-- The size of the crop that a layer asks for of a picture w × h. -/
def State.cropOf (s : State) (e w h : Nat) : Nat × Nat :=
  let cw := s.rd Lay.CROP_W e
  let ch := s.rd Lay.CROP_H e
  (if cw = 0 then w else cw, if ch = 0 then h else ch)

/-- Does a layer bypass scaling: non-zero crop equal to its destination? -/
def State.bypasses (s : State) (e : Nat) : Bool :=
  s.rd Lay.CROP_W e != 0 && s.rd Lay.CROP_H e != 0 && s.rd Lay.CROP_W e == s.rd Lay.DST_W e && s.rd Lay.CROP_H e == s.rd Lay.DST_H e

/-- Scalers that a layer holds. -/
def State.scalersOf (s : State) (e : Nat) : Nat :=
  let k := s.rd Lay.KIND e
  if (k ≠ 1 && k ≠ 2) || s.bypasses e then 0 else if s.on Lay.PAIR e then 2 else 1

/-- The checks of R336 and R337 on a picture w × h in a layer that scales. -/
def State.scales (s : State) (e w h : Nat) : Bool :=
  if s.bypasses e then true
  else
    let (cw, ch) := s.cropOf e w h
    let dw := s.rd Lay.DST_W e
    let dh := s.rd Lay.DST_H e
    let cols := if s.on Lay.PAIR e then ceilDiv cw 2 + 16 else cw
    let n := s.rd Outp.RATE_N (e / 32)
    let d := s.rd Outp.RATE_D (e / 32)
    decide (cols ≤ 4096) && decide (cw ≤ 8 * dw) && decide (dw ≤ 8 * cw) && decide (ch ≤ 8 * dh) && decide (dh ≤ 8 * ch) &&
      decide (cols * ch * 2 * n ≤ 2400000000 * d)

/-- Layers of an output with KIND not 0, and the scalers they hold. -/
def State.outLayers (s : State) (k : Nat) : List Nat := (List.range 32).map (32 * k + ·) |>.filter (fun e => s.rd Lay.KIND e != 0)
def State.outScalers (s : State) (k : Nat) : Nat := sumOf ((s.outLayers k).map s.scalersOf)

/-- Outputs served by a compositor. -/
def State.servedBy (s : State) (i : Nat) : List Nat := (List.range 16).filter (fun k => bitOf (s.rd Cmp.OUTPUTS i) k)

/-- Layers and scalers of a compositor. -/
def State.cmpLayers (s : State) (i : Nat) : Nat := sumOf ((s.servedBy i).map (fun k => (s.outLayers k).length))
def State.cmpScalers (s : State) (i : Nat) : Nat := sumOf ((s.servedBy i).map s.outScalers)

/-- The checks of a layer of output k, opened by `owner`, when it is accepted (R334, R336, R337). -/
def State.layerCheck (s : State) (owner e : Nat) : Except Status Unit :=
  let out := e / 32
  let kind := s.rd Lay.KIND e
  let k := s.rd Lay.SRC e
  let x := s.rd Lay.DST_X e
  let y := s.rd Lay.DST_Y e
  let w := s.rd Lay.DST_W e
  let h := s.rd Lay.DST_H e
  let z := s.layerSrcSize e
  let box : Bool := w < 2 || h < 2 || s.rd Outp.WIDTH out < x + w || s.rd Outp.HEIGHT out < y + h
  if kind = 0 then .ok ()
  else if kind = 3 then lowest [(box, .eRange)]
  else
    let free := if kind = 1 then s.rd Dec.STATE k == 0 else 16 ≤ k || k == out || s.rd Outp.STATE k == 0
    let foreign := !free && (if kind = 1 then s.rd Dec.OWNER k else s.rd Outp.OWNER k) != owner
    lowest [(foreign, .eNoObj), (box, .eRange), (!free && !s.scales e z.1 z.2, .eRange),
      (free || (kind == 1 && s.on Src.E2E (s.rd Dec.SOURCE k)), .eState)]

/-- The checks on the compositor of an open output. -/
def State.cmpCheck (s : State) (k : Nat) : Except Status Unit :=
  let i := s.rd Outp.HOST k
  lowest [(decide (32 < s.cmpLayers i) || decide (16 < s.cmpScalers i), .eCapacity)]

/-- The colour settings that an output may have. -/
def State.outColourOk (s : State) (k : Nat) : Bool :=
  let tf := s.rd Outp.OUT_TF k
  let peak := s.rd Outp.OUT_PEAK k
  if tf = 0 then true
  else s.rd Outp.DEPTH k == 10 && s.rd Outp.OUT_PRIM k == 1 && 400 ≤ peak && peak ≤ (if tf = 1 then 10000 else 4000)

/-! Outputs (R332, R333). -/

/-- kpixel/s × RATE_D of an output, as a fraction: numerator and denominator. -/
def State.outRate (s : State) (k : Nat) : Nat × Nat :=
  (s.rd Outp.WIDTH k * s.rd Outp.HEIGHT k * s.rd Outp.RATE_N k, 1000 * s.rd Outp.RATE_D k)

/-- Do outputs together stay within one compositor's pixel rate? -/
def State.ratesFit (s : State) (ks : List Nat) : Bool :=
  let t := ks.foldl (fun (a : Nat × Nat) k => let r := s.outRate k; (a.1 * r.2 + r.1 * a.2, a.2 * r.2)) (0, 1)
  decide (t.1 ≤ 497664 * t.2)

def State.twoSlots (s : State) (k : Nat) : Bool := 1920 < s.rd Outp.WIDTH k || 1080 < s.rd Outp.HEIGHT k

/-- Frozen outputs move, in ascending k, to a compositor that is free, as far as it can serve them (R350). -/
def State.moveFrozenTo (s : State) (i : Nat) : State :=
  if s.rd Cmp.STATE i ≠ 0 || s.rd Cmp.OUTPUTS i ≠ 0 then s
  else (s.elemsWith Outp.STATE 2).foldl (fun s k =>
    let ks := s.servedBy i ++ [k]
    if 2 < sumOf (ks.map (fun k => s.rd Outp.SLOTS k)) || !s.ratesFit ks || 32 < sumOf (ks.map (fun k => (s.outLayers k).length)) ||
        16 < sumOf (ks.map s.outScalers) then s
    else
      let s := (((s.wr Cmp.OUTPUTS i (s.rd Cmp.OUTPUTS i ||| 2 ^ k)).wr Outp.HOST k i).wr Outp.STATE k 1).demand (cmpPart i)
      let s := (s.bump Outp.MOVES k).outUpd k (fun x => { x with resumeAt := s.phys + 2 * cycMs })
      s.raise Ev.CMP_MOVED k toPlatform i) s

/-- Every compositor that is free takes frozen outputs. -/
def State.moveFrozen (s : State) : State :=
  if s.elemsWith Outp.STATE 2 = [] then s else (List.range 8).foldl (fun s i => s.moveFrozenTo i) s

def outputOpen (h k : Nat) (s : State) : Except Status State :=
  let i := k / 2
  let two := s.twoSlots k
  let other := k / 2 * 2 + (1 - k % 2)
  let moved := (s.servedBy i).any (fun j => j / 2 != i)
  let taken := s.rd Outp.STATE other != 0 && (two || s.rd Outp.SLOTS other == 2)
  let peers := if s.rd Outp.STATE other = 0 then [k] else [k, other]
  let slots : Nat := if two then 2 else 1
  let range : Bool := !rateOk (s.rd Outp.RATE_N k) (s.rd Outp.RATE_D k) || !s.ratesFit peers || !s.outColourOk k
  guarded [(range, .eRange), (s.rd Outp.STATE k != 0, .eState), (moved, .eState), (taken, .eState), (two && k % 2 == 1, .eState),
      (!s.hbmUp, .eState), (s.rd Cmp.STATE i != 0, .eRetired)]
    (match s.admission h .cmp slots with
     | .error e => .error e
     | .ok t =>
       let t := (((t.wr Outp.STATE k 1).wr Outp.OWNER k h).wr Outp.HOST k i).wr Outp.SLOTS k slots
       let t := (t.wr Cmp.OUTPUTS i (t.rd Cmp.OUTPUTS i ||| 2 ^ k)).demand (cmpPart i)
       let t : State := { t with
         vid := { t.vid with out := Tbl.set {} t.vid.out k {} }
         tim := { t.tim with frame := Tbl.set {} t.tim.frame k (TickX.start (t.outGrid k) t.ns) } }
       match (t.outLayers k).foldl (fun (r : Except Status Unit) e => match r with | .ok () => t.layerCheck h e | e => e) (t.cmpCheck k) with
       | .error e => .error e
       | .ok () => match t.poolTake 3 k (s.rd Outp.WIDTH k * s.rd Outp.HEIGHT k * 3 / 2 * (if s.rd Outp.DEPTH k = 8 then 1 else 2)) 24 with
         | none => .error .eCapacity
         | some t => .ok t)

/-- Is the output named by an encode session or by a layer of another output? -/
def State.outNamed (s : State) (k : Nat) : Bool :=
  ((s.elemsWith Enc.STATE 1 ++ s.elemsWith Enc.STATE 2 ++ s.elemsWith Enc.STATE 3).any (fun e =>
    s.rd Enc.INPUT e == 0 && s.rd Enc.INPUT_ID e == k)) ||
  (s.elemsWith Lay.KIND 2).any (fun e => e / 32 != k && s.rd Lay.SRC e == k)

def outputClose (k : Nat) (s : State) : Except Status State :=
  if s.rd Outp.STATE k = 0 || s.outNamed k then .error .eState
  else
    let i := s.rd Outp.HOST k
    let s := s.chargeBy (s.rd Outp.OWNER k) .cmp (-(s.rd Outp.SLOTS k : Int))
    let o := s.rd Cmp.OUTPUTS i
    let s := if bitOf o k then s.wr Cmp.OUTPUTS i (o - 2 ^ k) else s
    let s := (List.range 32).foldl (fun s j => s.freeEl Lay.index (32 * k + j) layCounters) ((s.freeEl Outp.index k outCounters).poolGive 3 k)
    let s : State := { s with
      vid := { s.vid with out := Tbl.set {} s.vid.out k {} }
      tim := { s.tim with frame := Tbl.set {} s.tim.frame k {} } }
    .ok (s.unitUsed.decSweep).moveFrozen

/-- A write to an object of an output. The colour settings of an open one are checked on what the transaction leaves. -/
def outWrite (h col k v : Nat) (s : State) : Except Status State :=
  if col = Outp.CMD then (if v = 1 then outputOpen h k s else outputClose k s)
  else if [Outp.OUT_TF, Outp.OUT_PRIM, Outp.OUT_PEAK, Outp.SDR_NITS, Outp.TONE, Outp.BG].contains col then .ok (s.wr col k v)
  else guarded [((col == Outp.WIDTH || col == Outp.HEIGHT) && v % 2 == 1, .eRange), (s.rd Outp.STATE k != 0, .eState)] (.ok (s.wr col k v))

/-- A write to an object of a layer: positions are even. The checks of R334 to R337 are made on what the transaction leaves. -/
def layWrite (col e v : Nat) (s : State) : Except Status State :=
  let even := Lay.CROP_X ≤ col && col ≤ Lay.DST_H
  if even && v % 2 = 1 then .error .eRange else .ok (s.wr col e v)

/-! Frames (R28, R338 to R342). -/

/-- The picture that a layer's source offers at a tick, and whether its source is gone. -/
def State.layerPic (s : State) (e : Nat) : Option PicX × Bool :=
  let k := s.rd Lay.SRC e
  if s.rd Lay.KIND e = 1 then
    let st := s.rd Dec.STATE k
    if st = 0 || st = 4 then (none, true) else if st = 3 then (none, false) else (s.newest k, false)
  else if 16 ≤ k || s.rd Outp.STATE k = 0 then (none, true)
  else ((s.outX k).latest, false)

/-- A layer at a tick: latched, or fallen back where its picture breaks a check of R337 or holds a poisoned word (Table 16.3). -/
def State.latchLayer (s : State) (k j : Nat) : State :=
  let e := 32 * k + j
  let kind := s.rd Lay.KIND e
  let upd (s : State) (f : LayX → LayX) : State := s.outUpd k (fun x => { x with layers := Tbl.upd {} x.layers j f })
  if kind = 0 then (upd s (fun _ => {})).wr Lay.SHOWING e 0
  else if kind = 3 then (upd s (fun _ => {})).wr Lay.SHOWING e 1
  else
    let src := (kind, s.rd Lay.SRC e)
    let s := upd s (fun x => if x.src = src then x else { ({} : LayX) with src := src, shortAt := x.shortAt })
    let (pic, gone) := s.layerPic e
    let s := if gone then upd s (fun x => { x with pic := none, good := none }) else s
    let x := Tbl.get {} (s.outX k).layers j
    let size := match pic with | some p => s.scales e (descW p.desc) (descH p.desc) | none => false
    let bad := match pic with | some p => s.picBad p | none => false
    let s := match pic with | some p => if bad then s.picMeet p else s | none => s
    let fits := size && !bad
    let show_ := if fits then pic else if s.rd Lay.FALLBACK e = 1 then x.good else none
    let pk : Nat × Option Nat := match show_ with
      | some p => peakOf (byteAt p.desc 29) (s.rd Outp.SDR_NITS k) (s.rd Outp.TONE k) p.maxcll p.mastering (leAt p.desc 34 2) x.p
      | none => (s.rd Outp.SDR_NITS k, x.p)
    let s := upd s (fun x => { x with pic := pic, good := if fits then pic else x.good, p := pk.2, peak := pk.1 })
    if fits then s.wr Lay.SHOWING e 1
    else
      let s := if s.rd Lay.SHOWING e = 2 then s else (s.wr Lay.SHOWING e 2).bump Lay.FALLBACKS e
      match pic, size with
      | none, _ => s
      | some _, true => s
      | some p, false =>
        let fresh := match x.shortAt with | some c => decide (cycS ≤ s.since c) | none => true
        if fresh then (upd s (fun x => { x with shortAt := some s.phys })).raise Ev.CMP_LINE_SHORT k (toSlot (s.rd Outp.OWNER k))
          (j + 2 ^ 16 * (s.cropOf e (descW p.desc) (descH p.desc)).1)
        else s

/-- Is a store entry a READY image? -/
def State.image (s : State) (v : Nat) : Bool := v < 64 && s.on Store.READY v && s.rd Store.KIND v == 1

/-- What the Rosette layer of output k shows at an instant (R346, R348, Table 15.6): a store entry, 256 the fill. -/
def State.rosetteAt (s : State) (k t : Nat) : Option Nat :=
  let e := ofTime80 (s.rd Ros.ENGAGED_AT 0) / nsU
  let excess : Bool := match s.ros.at_ with
    | some e => decide (e + 1000000 ≤ t)
    | none => match s.ros.ended with | some d => decide (t < d + 1000000 && e + 1000000 ≤ t) | none => false
  if excess then (let v := s.rd RosOut.OVERRIDE k; some (if s.image v then v else 256))
  else (let v := s.rd RosOut.NORMAL k; if s.image v then some v else none)

/-! What a frame shows. -/

/-- L_out of R340, and the mapping of a layer of that peak in output k. -/
def State.lOut (s : State) (k : Nat) : Nat := if s.rd Outp.OUT_TF k = 0 then s.rd Outp.SDR_NITS k else s.rd Outp.OUT_PEAK k
def State.toneOf (s : State) (k peak : Nat) : List Nat :=
  [peak, s.lOut k, (decide (peak ≤ s.lOut k) || s.rd Outp.TONE k == 2).toNat, s.rd Outp.SDR_NITS k, s.rd Outp.OUT_TF k,
    s.rd Outp.OUT_PRIM k]

/-- How a picture is read, by its descriptor (Table 15.3): matrix 0 BT.709, 1 BT.601, 2 BT.2020; range; transfer 0 SDR, 1 PQ, 2 HLG;
primaries 0 BT.709, 1 BT.2020; bits. -/
def colourRead (d : Bytes) : List Nat :=
  let m := byteAt d 30
  let t := byteAt d 29
  [if m = 9 then 2 else if m = 5 || m = 6 then 1 else 0, byteAt d 31 % 2, if t = 16 then 1 else if t = 18 then 2 else 0,
    if byteAt d 28 = 9 then 1 else 0, byteAt d 24]

/-- The destination of a layer. -/
def State.dstOf (s : State) (e : Nat) : Nat × Nat × Nat × Nat :=
  (s.rd Lay.DST_X e, s.rd Lay.DST_Y e, s.rd Lay.DST_W e, s.rd Lay.DST_H e)

/-- FILL drawn over a layer's destination. -/
def State.fillDraw (s : State) (k e : Nat) : Pix × Draw :=
  let dst := s.dstOf e
  (.flat (s.rd Lay.FILL e), { crop := (0, 0, dst.2.2.1, dst.2.2.2), dst := dst, filter := 4, alpha := s.rd Lay.ALPHA e,
                              read := fillRead, tone := s.toneOf k (s.rd Outp.SDR_NITS k) })

/-- What a latched layer draws: nothing where it is off or its crop lies outside the picture; its crop clipped to the picture. -/
def State.layerDraw (s : State) (k j : Nat) : Option (Pix × Draw) :=
  let e := 32 * k + j
  let x := Tbl.get {} (s.outX k).layers j
  let shown := if s.rd Lay.SHOWING e = 1 then x.pic else if s.rd Lay.FALLBACK e = 1 then x.good else none
  match s.rd Lay.KIND e, shown with
  | 0, _ => none
  | 3, _ => some (s.fillDraw k e)
  | _, none => some (s.fillDraw k e)
  | _, some p =>
    let cw := s.rd Lay.CROP_W e
    let ch := s.rd Lay.CROP_H e
    let cx := if cw = 0 then 0 else s.rd Lay.CROP_X e
    let cy := if ch = 0 then 0 else s.rd Lay.CROP_Y e
    let w := min (if cw = 0 then descW p.desc else cw) (descW p.desc - cx)
    let h := min (if ch = 0 then descH p.desc else ch) (descH p.desc - cy)
    if w = 0 || h = 0 then none
    else some (p.pix, { crop := (cx, cy, w, h), dst := s.dstOf e, filter := if s.bypasses e then 4 else s.rd Lay.FILTER e,
                        alpha := s.rd Lay.ALPHA e, read := colourRead p.desc, tone := s.toneOf k x.peak })

/-- The Rosette layer over a frame (R343, R346): an image scaled to the whole output, or DEFAULT_FILL over it, opaque. -/
def State.rosetteOver (s : State) (k : Nat) (ros : Option Nat) (below : Pix) : Pix :=
  let dst := (0, 0, s.rd Outp.WIDTH k, s.rd Outp.HEIGHT k)
  let tone := s.toneOf k (s.rd Outp.SDR_NITS k)
  match ros with
  | none => below
  | some v =>
    if v < 64 then
      let w := s.rd Store.WIDTH v
      let h := s.rd Store.HEIGHT v
      .over below (.image w h (Tbl.get [] s.ros.data v))
        { crop := (0, 0, w, h), dst := dst, filter := 3, alpha := 1024, read := [3, 1, 0, 0, 8], tone := tone }
    else .over below (.flat (s.rd Ros.DEFAULT_FILL 0)) { crop := dst, dst := dst, filter := 4, alpha := 1024, read := fillRead, tone := tone }

/-- What the frame of a tick shows: the background, the layers in ascending order, and the Rosette layer above them. -/
def State.composed (s : State) (k : Nat) (ros : Option Nat) : Pix :=
  let base : Pix := .ground (s.rd Outp.BG k) (s.toneOf k (s.rd Outp.SDR_NITS k))
  let layers := (List.range 32).foldl (fun b j => match s.layerDraw k j with | some d => Pix.over b d.1 d.2 | none => b) base
  .frame (s.rosetteOver k ros layers) (s.rd Outp.OUT_PRIM k) (s.rd Outp.DEPTH k)

/-- Encode sessions that take their pictures from an output: the inline one, and those that read its HBM copy (R321). -/
def State.encOf (s : State) (k : Nat) : List Nat :=
  (s.elemsWith Enc.STATE 1 ++ s.elemsWith Enc.STATE 2).filter (fun e => s.rd Enc.INPUT e == 0 && s.rd Enc.INPUT_ID e == k)

/-- The encode sessions of an output begin picture n; with no picture since OPEN a repeat is the flat picture. -/
def State.driveEncoders (s : State) (k n kind : Nat) : State :=
  (s.encOf k).foldl (fun s e =>
    (s.encLate e).encBegin e n (if kind = inRepeat && (s.encX e).coded.isNone then inNone else kind) none) s

/-- Sessions that read the HBM copy start at the last line of frame n; where the frame was discarded they have no new picture. -/
def State.startCopies (s : State) (k n : Nat) (whole : Bool) : State :=
  (s.encOf k).foldl (fun s e =>
    if !(s.encX e).pics.any (fun p => p.n == n && p.waiting) then s
    else
      let kind := if whole then inNew else if (s.encX e).coded.isNone then inNone else inRepeat
      let t := s.picUpd e n (fun p =>
        if whole then { p with waiting := false, at_ := s.phys }
        else { p with
          waiting := false, repeat_ := kind == inRepeat, flat := kind == inNone
          layers := p.layers.map (fun l => { l with pix := (s.encSource e kind none).map (s.layerPix e l.s) }) })
      if whole then t.encUpd e (fun x => { x with coded := some n })
      else if kind = inRepeat then t.bump Enc.REPEATS e else t) s

/-- The inline encode session loses the picture of a frame that is discarded (R328, R350). -/
def State.loseInline (s : State) (k n : Nat) : State :=
  ((s.encOf k).filter (fun e => (s.encX e).inline)).foldl (fun s e =>
    match (s.encX e).pics.find? (fun p => p.n == n) with
    | none => s
    | some p => (p.layers.filter (fun l => l.fate == 0)).foldl (fun s l =>
        match ((s.encX e).pics.find? (fun q => q.n == n)).bind (·.layer? l.s) with
        | some m => if m.fate = 0 then s.loseLayer e n l.s else s
        | none => s) s) s

/-- An output whose compositor has retired: its frame in progress is discarded from both copies. -/
def State.dropFrame (s : State) (k : Nat) : State :=
  match (s.outX k).busy with
  | none => s
  | some (n, _) => ((s.outUpd k (fun x => { x with busy := none })).loseInline k n).startCopies k n false

def State.cmpX (s : State) (i : Nat) : UnitX := Tbl.get {} s.vid.cmps i
def State.cmpUpd (s : State) (i : Nat) (f : UnitX → UnitX) : State := { s with vid := { s.vid with cmps := Tbl.upd {} s.vid.cmps i f } }

/-- A compositor retires (R350). Its outputs are handed on as the cycle ends (State.handOffCmp): a frame that is complete in the
same cycle stands. -/
def State.retireCmp (s : State) (i cause : Nat) : State :=
  if s.rd Cmp.STATE i ≠ 0 then s
  else
    let s := (s.wr Cmp.STATE i 1).wr Cmp.CAUSE i cause
    let s : State := { s with vid := { s.vid with retired := s.vid.retired ++ [(3, i)] } }
    s.unitRetired 5 i cause s.cmpIn (s.cap .cmp)

/-- The outputs of a retired compositor lose their frames in progress and move together, or freeze. -/
def State.handOffCmp (s : State) (i : Nat) : State :=
  let ks := s.servedBy i
  let s := ks.foldl (fun s k => s.dropFrame k) s
  let s := s.wr Cmp.OUTPUTS i 0
  if ks = [] then s
  else match (List.range 8).find? (fun c => s.rd Cmp.STATE c == 0 && s.rd Cmp.OUTPUTS c == 0) with
    | some c =>
      ks.foldl (fun s k =>
        let s := (((s.wr Cmp.OUTPUTS c (s.rd Cmp.OUTPUTS c ||| 2 ^ k)).wr Outp.HOST k c).bump Outp.MOVES k).demand (cmpPart c)
        (s.outUpd k (fun x => { x with resumeAt := s.phys + 2 * cycMs })).raise Ev.CMP_MOVED k toPlatform c) s
    | none => ks.foldl (fun s k => (s.wr Outp.STATE k 2).raise Ev.CMP_FROZEN k toPlatform 0) s

/-- What the codec cores and compositors retired in this cycle still held is handed on (R305, R329, R350). -/
def State.settleVideo (s : State) : State :=
  let s := s.vid.retired.foldl (fun s u =>
    if u.1 = 1 then s.handOffVd u.2 else if u.1 = 2 then s.handOffVe u.2 else s.handOffCmp u.2) s
  { s with vid := { s.vid with retired := [] } }

/-- A tick that latches nothing still frees the pictures of sessions that are closed or CLOSING (R306). -/
def State.releaseClosed (s : State) (k : Nat) : State :=
  (s.outUpd k (fun x => { x with layers := x.layers.map (fun l =>
    if l.2.src.1 = 1 && (s.rd Dec.STATE l.2.src.2 = 0 || s.rd Dec.STATE l.2.src.2 = 4) then (l.1, { l.2 with pic := none, good := none })
    else l) })).decSweep

/-- A frozen output's copy stays; its descriptor carries REPEAT. -/
def State.frozenFrame (s : State) (k n : Nat) : State :=
  match (s.outX k).latest with
  | none => s
  | some p =>
    let b := setDesc (setDesc p.desc 12 (natLE 4 (rtp90k ((s.outGrid k).at n) 0))) 26 (natLE 1 (descFlags p.desc ||| 4))
    (s.outUpd k (fun x => { x with latest := some { p with desc := b } })).wr Outp.LAST_DESC k (leNat b)

/-- FRAME_TICK of output k: the completion is posted, layers are latched, and a frame begins. -/
def frameTick (k : Nat) (s : State) : State :=
  let t := Tbl.get {} s.tim.frame k
  let g := s.outGrid k
  if !t.due g s.ns then s
  else
    let n := t.next
    let s := (({ s with tim := { s.tim with frame := Tbl.set {} s.tim.frame k t.post } } : State).postTick (k + 1) n t.skipped).pumpAll
    let x := s.outX k
    if s.rd Outp.STATE k = 2 then ((s.frozenFrame k n).driveEncoders k n inRepeat).releaseClosed k
    else if x.busy.isSome then
      let i := s.rd Outp.HOST k
      let s := if x.counted then s
        else
          let l := s.addDay (s.cmpX i).faultAt
          let s := (s.bump Outp.LATE k).cmpUpd i (fun x => { x with faultAt := l })
          let s := s.outUpd k (fun x => { x with counted := true })
          if 2 ≤ l.length then s.retireCmp i 3 else s
      (s.driveEncoders k n inRepeat).releaseClosed k
    else if s.phys < x.resumeAt then (s.driveEncoders k n inRepeat).releaseClosed k
    else
      let s := (List.range 32).foldl (fun s j => s.latchLayer k j) s
      let ros := s.rosetteAt k (g.at n)
      let s := s.outUpd k (fun x => { x with
        busy := some (n, s.phys), counted := false, rosette := ros
        draft := s.composed k ros, colours := (s.rd Outp.OUT_TF k, s.rd Outp.OUT_PRIM k, s.rd Outp.OUT_PEAK k) })
      (s.driveEncoders k n inNew).decSweep

/-- The descriptor of a frame (R341). -/
def State.frameDesc (s : State) (k n luma chroma stride : Nat) : Bytes :=
  let tf := (s.outX k).colours.1
  let wide := (s.outX k).colours.2.1 = 1
  let depth := s.rd Outp.DEPTH k
  let c : PicResult := {
    conceal := []
    primaries := if wide then 9 else 1
    transfer := if tf = 0 then 1 else if tf = 1 then 16 else 18
    colours := if wide then 9 else 1
    fullRange := false
    mdcv := []
    cll := [] }
  picDesc s.now80 (0x8000 + k) (rtp90k ((s.outGrid k).at n) 0) ((s.outX k).count + 1) (s.rd Outp.WIDTH k) (s.rd Outp.HEIGHT k)
    depth (if depth = 8 then 0 else 1) (if tf = 1 then 32 else 0) 0 c 0 (s.outX k).draft luma chroma stride

/-- COMPOSE_FRAME_COMPLETE: the frame in progress is complete, or lost to an uncorrectable error of an internal memory. -/
def composeComplete (k : Nat) (fault : Bool) (s : State) : State :=
  match (s.outX k).busy with
  | none => s
  | some (n, _) =>
    let i := s.rd Outp.HOST k
    if fault then
      let s := (s.dropFrame k).parityError 7 i toPlatform
      let l := s.addDay (s.cmpX i).memAt
      let s := s.cmpUpd i (fun x => { x with memAt := l })
      if 2 ≤ l.length then s.retireCmp i 2 else s
    else
      let (luma, s) := s.draw 64
      let (chroma, s) := s.draw 64
      let (stride, s) := s.draw 32
      let b := s.frameDesc k n luma chroma stride
      let s := s.outUpd k (fun x => { x with
        busy := none
        count := x.count + 1
        latest := some { id := x.count + 1, desc := b, mdcv := (outMeta x).1, cll := (outMeta x).2, pix := x.draft } })
      (((s.bump Outp.FRAMES k).bump Cmp.FRAMES i).wr Outp.LAST_DESC k (leNat b)).startCopies k n true

/-! The override (R345 to R348). -/

/-- Is media running: the device ACTIVE? -/
def State.mediaRuns (s : State) : Bool := s.rd Pwr.PSTATE 0 == 0

/-- The instant E at which the streams play, in ns. -/
def playFrom (e : Nat) : Nat := e + 1000000

/-- Engagement at the present instant. -/
def State.engage (s : State) (cause : Nat) : State :=
  let s := ({ s with ros := { s.ros with
    at_ := some s.ns, playing := false, spans := s.ros.spans ++ [(s.ns, none)] } } : State).wr Ros.ENGAGED_AT 0 s.now80
  let s := (s.bump Ros.ENGAGES 0).raise Ev.ROS_ENGAGED 0 toAll cause
  let open_ := (List.range 16).filter (fun k => s.rd Outp.STATE k != 0)
  let s := if open_.any (fun k => !s.image (s.rd RosOut.OVERRIDE k)) then s.raise Ev.ROS_NO_CONTENT 0 3 1 else s
  let a := s.rd Ros.ANNOUNCE 0
  if a < 64 && s.on Store.READY a && s.rd Store.KIND a == 3 then s else s.raise Ev.ROS_NO_CONTENT 0 3 2

/-- A subscription cut off from its source returns to it as a new one would (R348). -/
def State.returnSub (s : State) (h : Nat) : State :=
  let s := (s.wr Sub.CUR_LAYER h 0xFF).subUpd h (fun x => { x with
    decided := [], deliv := [], lostT := [0, 1, 2, 3], clearAt := [], prevBad := false, started := false, rebase := true,
    mosStarted := false })
  let s := s.forgetDropped (s.rd Sub.SOURCE h)
  if (s.mosaicOf (s.rd Sub.SOURCE h)).isSome then s else s.wantRefresh (s.rd Sub.SOURCE h) false

/-- ACTIVE video subscriptions. -/
def State.videoSubs (s : State) : List Nat := (s.elemsWith Sub.STATE 1).filter (fun h => s.rd Src.MEDIA (s.rd Sub.SOURCE h) == 1)

/-- Items of a source in a subscription's radio queue are removed and counted in TRIMMED. -/
def State.trimSub (s : State) (h : Nat) : State :=
  let l := s.rd Sub.LEG h
  if !s.radio l then s
  else ((s.fLeg l).video.filter (fun v => v.sub == h)).foldl (fun s v =>
    let s := s.fLegUpd l (fun x => { x with video := x.video.filter (fun w => !(w.sub == v.sub && w.s == v.s && w.fn == v.fn)) })
    let s := ((s.loseFrame l v).drop FLeg.QBYTES l v.size).bump FLeg.TRIMMED l
    (s.genBump l).refill l) s

/-- OVERRIDE_PLAY_START: at E + 1 ms every READY stream entry plays from its first record. -/
def overridePlayStart (s : State) : State :=
  match s.ros.at_ with
  | none => s
  | some e =>
    if s.ros.playing || s.ns < playFrom e || !s.mediaRuns then s
    else
      let es := (List.range 64).filter (fun k => s.on Store.READY k && s.rd Store.KIND k == 2)
      let s : State := { s with ros := { s.ros with
        playing := true
        subs := []
        play := es.foldl (fun t k => Tbl.set none t k (some ⟨8, 0, 0, none⟩)) [] } }
      (s.videoSubs.filter (fun h => s.overridden h)).foldl (fun s h =>
        if (s.overrideEntry h).isNone then s.bump Ros.MISSING 0 else s) s

/-- A record of an override stream at a byte offset: time, payload length, flags, and the next record's offset. -/
structure OvRec where
  time : Nat
  len : Nat
  flags : Nat
  reserved : Nat
  next : Nat
  deriving DecidableEq, Repr

def ovRec (b : Bytes) (o : Nat) : Option OvRec :=
  if b.length < o + 8 then none
  else
    let n := beAt b (o + 4) 2
    some ⟨beAt b o 4, n, byteAt b (o + 6), byteAt b (o + 7), o + 8 + n⟩

/-- A store entry's bytes. -/
def State.storeBytes (s : State) (e : Nat) : Bytes := Tbl.get [] s.ros.data e

/-- One override packet for one subscription. -/
def State.overrideSend (s : State) (e off at_ : Nat) (r : OvRec) (fn : Nat) (sof eof : Bool) (h : Nat) : State :=
  if s.rd Leg.STATE (s.rd Sub.LEG h) ≠ 2 then s
  else
    let src := s.rd Sub.SOURCE h
    let rap : Bool := bitOf r.flags 1
    let tag : TagX := { plainTag 0 fn (if rap then [] else [(0, fn - 1)]) with
      sof := sof
      eof := eof
      irap := rap }
    let p : PktX := {
      src := src
      ssrc := s.rd Src.SSRC src
      seq := 0
      ts := rtp90k at_ 0
      pt := s.rd Src.PT src
      marker := bitOf r.flags 0
      csrcs := 0
      payLen := r.len
      exts := [(2, tag.ld)]
      level := none
      tag := some tag
      colour := 0
      atNs := s.ns
      cn := false }
    s.streamSend h p tag p.marker sof (.override e off)

/-- The play instant of a 90 kHz time of a stream engaged at E, after whole loops. -/
def playAt (e loop loops time : Nat) : Nat := playFrom e + ceilDiv ((loops * loop + time) * 100000) 9

/-- A subscription joins an override stream at a refresh picture. -/
def State.joinStream (s : State) (e h : Nat) : State :=
  if (Tbl.get none s.ros.subs h).isSome || s.overrideEntry h ≠ some e then s
  else ({ s with ros := { s.ros with subs := Tbl.set none s.ros.subs h (some e) } } : State).trimSub h |>.forgetDropped (s.rd Sub.SOURCE h)

/-- OVERRIDE_STREAM_PLAYOUT: the next record of an entry is due. -/
def overridePlayout (e : Nat) (s : State) : State :=
  match s.ros.at_, Tbl.get none s.ros.play e with
  | some at_, some x =>
    let b := s.storeBytes e
    let loop := beAt b 0 4
    match ovRec b x.next with
    | none => s
    | some r =>
      let t := playAt at_ loop x.loops r.time
      if !s.ros.playing || s.ns < t then s
      else
        let sof := x.last != some r.time || x.next == 8
        let fn := x.pics + sof.toNat
        let nxt := ovRec b r.next
        let eof := match nxt with | some q => q.time != r.time | none => true
        let s := if sof && bitOf r.flags 1 then (s.videoSubs.filter (fun h => s.overridden h)).foldl (fun s h => s.joinStream e h) s else s
        let s := (s.ros.subs.filter (fun q => q.2 == some e)).foldl (fun s q => s.overrideSend e x.next t r fn sof eof q.1) s
        let x' : PlayX := if nxt.isSome then ⟨r.next, x.loops, fn, some r.time⟩ else ⟨8, x.loops + 1, fn, some r.time⟩
        { s with ros := { s.ros with play := Tbl.set none s.ros.play e (some x') } }
  | _, _ => s

/-- A stream plays the records left of the picture that it is in (R348). -/
def State.finishPicture (e : Nat) : Nat → State → State
  | 0, s => s
  | k + 1, s =>
    match Tbl.get none s.ros.play e with
    | none => s
    | some x =>
      match ovRec (s.storeBytes e) x.next with
      | some r => if x.next ≠ 8 && x.last = some r.time then State.finishPicture e k (overridePlayout e s) else s
      | none => s

/-- Release at the present instant D: playouts stop after their current picture, and the switched subscriptions return. -/
def State.disengage (s : State) : State :=
  let s := if s.ros.playing then s.ros.play.foldl (fun s q => State.finishPicture q.1 (s.storeBytes q.1).length s) s else s
  let back := if s.ros.playing then s.videoSubs.filter (fun h => s.overridden h) else []
  let s : State := { s with ros := { s.ros with
    at_ := none, ended := some s.ns, playing := false, play := [], subs := []
    spans := s.ros.spans.map (fun p => (p.1, some (p.2.getD s.ns))) } }
  (back.foldl (fun s h => s.returnSub h) s).raise Ev.ROS_RELEASED 0 toAll 0

/-- HOST_ENG and PIN_ENG take their values; the override follows them. -/
def State.setEng (s : State) (v cause : Nat) : State :=
  let s := s.wr Ros.STATE 0 v
  if v ≠ 0 && s.ros.at_.isNone then s.engage cause
  else if v = 0 && s.ros.at_.isSome then s.disengage
  else s

/-- A write of ENGAGE. -/
def engageWrite (v : Nat) (s : State) : Except Status State :=
  let pin := s.rd Ros.STATE 0 / 2 * 2
  .ok ((s.wr Ros.ENGAGE 0 v).setEng (pin + v) 1)

def State.setPin (s : State) (high : Bool) : State := { s with ros := { s.ros with pinHigh := high } }

/-- PIN_ENGAGE: SAFETY_N has been low for 100 µs. -/
def pinEngage (s : State) : State := (s.setPin false).setEng (s.rd Ros.STATE 0 % 2 + 2) 2

/-- PIN_RELEASE: SAFETY_N has been high for 10 ms. -/
def pinRelease (s : State) : State := if s.on Ros.PIN_LATCH 0 then s.setPin true else (s.setPin true).setEng (s.rd Ros.STATE 0 % 2) 2

/-- A write of PIN_LATCH: without it an engagement ends that SAFETY_N, high for 10 ms, no longer holds (R345). -/
def pinLatch (v : Nat) (s : State) : State :=
  let t := s.wr Ros.PIN_LATCH 0 v
  if v = 0 && s.ros.pinHigh then t.setEng (s.rd Ros.STATE 0 % 2) 2 else t

/-- A write of RELEASE_PIN, with the level of SAFETY_N. -/
def releasePin (high : Bool) (s : State) : Except Status State :=
  .ok (if high && s.on Ros.PIN_LATCH 0 then s.setEng (s.rd Ros.STATE 0 % 2) 2 else s)

/-! The Rosette store (R344, R349, Tables 15.4 and 15.5). -/

/-- Is an entry named by ANNOUNCE, NORMAL or OVERRIDE, or playing? -/
def State.entryUsed (s : State) (e : Nat) : Bool :=
  s.rd Ros.ANNOUNCE 0 == e || (List.range 16).any (fun k => s.rd RosOut.NORMAL k == e || s.rd RosOut.OVERRIDE k == e) ||
    (Tbl.get none s.ros.play e).isSome

def State.storeSet (s : State) (e : Nat) (b : Bytes) : State :=
  ({ s with ros := { s.ros with data := Tbl.set [] s.ros.data e b } } : State).wr Store.LEN e b.length

/-- The records of an override stream from an offset: the first failing one's status and byte offset. `prev` is the time
of the record before, `rap` that of the latest RAP. Fuel is the number of bytes. -/
def streamCheck (b : Bytes) (loop : Nat) : Nat → Nat → Nat → Nat → Option (Status × Nat)
  | 0, _, _, _ => none
  | k + 1, o, prev, rap =>
    if b.length ≤ o then (if 9000 < loop - rap then some (.eRange, 0) else none)
    else match ovRec b o with
      | none => some (.eLength, o)
      | some r =>
        if r.time < prev || loop ≤ r.time || (o = 8 && (r.time ≠ 0 || !bitOf r.flags 1)) then some (.eRange, o)
        else if r.len = 0 || 1200 < r.len then some (.eRange, o + 4)
        else if r.flags / 4 ≠ 0 then some (.eRange, o + 6)
        else if r.reserved ≠ 0 then some (.eRange, o + 7)
        else if b.length < r.next then some (.eLength, o + 4)
        else if bitOf r.flags 1 && 9000 < r.time - rap then some (.eRange, o)
        else streamCheck b loop k r.next r.time (if bitOf r.flags 1 then r.time else rap)

/-- SEAL's check of an entry against Table 15.4: the status and the byte offset. -/
def State.sealCheck (s : State) (e : Nat) : Option (Status × Nat) :=
  let b := s.storeBytes e
  match s.rd Store.KIND e with
  | 1 =>
    let w := s.rd Store.WIDTH e
    let h := s.rd Store.HEIGHT e
    if w % 2 = 1 || w < 16 || 4096 < w || h % 2 = 1 || h < 16 || 2160 < h then some (.eRange, 0)
    else if b.length ≠ 4 * w * h then some (.eLength, min b.length (4 * w * h)) else none
  | 2 =>
    if b.length < 8 then some (.eLength, b.length)
    else if beAt b 4 4 ≠ 0 then some (.eRange, 4)
    else if b.length = 8 then some (.eLength, 8)
    else streamCheck b (beAt b 0 4) b.length 8 0 0
  | 3 =>
    let n := b.length
    if n % 4 ≠ 0 || n < 4 * 48000 || 4 * 2880000 < n then some (.eLength, n) else none
  | _ => some (.eState, 0)

/-- CMD SEAL: the outcome reads in READY, ERROR and ERR_AT. -/
def sealEntry (e : Nat) (s : State) : Except Status State :=
  .ok (match s.sealCheck e with
    | none => ((s.wr Store.READY e 1).wr Store.ERROR e 0).wr Store.ERR_AT e 0
    | some (st, o) => ((s.wr Store.READY e 0).wr Store.ERROR e st.code).wr Store.ERR_AT e o)

/-- CMD CLEAR. -/
def clearEntry (e : Nat) (s : State) : Except Status State :=
  if s.entryUsed e then .error .eState
  else
    let t := s.clearEl Store.index e
    .ok { t with ros := { t.ros with data := Tbl.set [] t.ros.data e [] } }

/-- Bytes staged in all entries. -/
def State.storeTotal (s : State) : Nat := sumOf (s.ros.data.map (fun r => r.2.length))

/-- A write of DATA: at most 8,192 bytes are appended to a started entry, which must be sealed again. -/
def storeData (e : Nat) (b : Bytes) (s : State) : Except Status State :=
  let had := s.storeBytes e
  guarded [(s.rd Store.KIND e = 0 || s.entryUsed e, .eState), (256 * mib < had.length + b.length || 1024 * mib < s.storeTotal + b.length, .eCapacity),
      (8192 < b.length, .eLength)]
    (.ok ((s.storeSet e (had ++ b)).wr Store.READY e 0))

/-- A write to the objects of Table 15.7. DATA comes with its bytes. -/
def rosWrite (col el v : Nat) (blob : Bytes) (s : State) : Except Status State :=
  if col = Ros.ENGAGE then engageWrite v s
  else if col = Ros.PIN_LATCH then .ok (pinLatch v s)
  else if col = Store.KIND then
    if s.entryUsed el then .error .eState
    else .ok (((((s.wr col el v).storeSet el []).wr Store.READY el 0).wr Store.ERROR el 0).wr Store.ERR_AT el 0)
  else if col = Store.DATA then storeData el blob s
  else if col = Store.CMD then (if v = 1 then sealEntry el s else clearEntry el s)
  else .ok (s.wr col el v)

/-! The commands. -/

def execOutputOpen (h k : Nat) (s : State) : Out := live (hostWrite h Outp.CMD k 1 (outputOpen h k)) s

def execOutputClose (h k : Nat) (s : State) : Out := live (hostWrite h Outp.CMD k 2 (outputClose k)) s

def execFrameTick (k : Fin 16) (s : State) : Out := live (frameTick k) s

def execComposeFrameComplete (k : Fin 16) (fault : Bool) (s : State) : Out := live (composeComplete k fault) s

def execEngage (h value : Nat) (s : State) : Out := live (hostWrite h Ros.ENGAGE 0 value (engageWrite value)) s

def execPinRelease (s : State) : Out := live pinRelease s

def execReleasePin (h value : Nat) (high : Bool) (s : State) : Out :=
  live (hostWrite h Ros.RELEASE_PIN 0 value (releasePin high)) s

def execOverridePlayStart (s : State) : Out := live overridePlayStart s

def execOverrideStreamPlayout (entry : Fin 64) (s : State) : Out := live (overridePlayout entry) s

def execSeal (h entry : Nat) (s : State) : Out := live (hostWrite h Store.CMD entry 1 (sealEntry entry)) s

def execStoreClear (h entry : Nat) (s : State) : Out := live (hostWrite h Store.CMD entry 2 (clearEntry entry)) s

def execStoreData (h entry : Nat) (bytes : Bytes) (s : State) : Out :=
  live (hostWriteOp h { col := Store.DATA, el := entry, val := 0, blob := bytes } (storeData entry bytes)) s

end Sys2Proof.Machine
end

