-- ==== Sys2Proof/Machine/Hbm.lean ====
section
/-! DEFINITION. The HBM subsystem (chapter 16): self-refresh, training, fencing and the wipe, tracking, refresh, scrubbing,
margin scans, and the writes of its objects. -/

namespace Sys2Proof.Machine

/-! Training (R365, R369 to R373). -/

/-- Is a pseudo-channel fenced for itself, not with its stack? -/
def State.ownFence (s : State) (i : Nat) : Bool :=
  bitOf (s.rd Hbm.FENCED 0) i && (s.rd Pc.CAUSE i == 1 || s.rd Pc.CAUSE i == 3)

/-- Its own fence stays through a training: no UNFENCE is pending. -/
def State.keepsFence (s : State) (i : Nat) : Bool := s.ownFence i && s.rd Pc.PENDING i != 2

/-- The pseudo-channels of a stack. -/
def stackPcs (k : Nat) : List Nat := (List.range 32).map (32 * k + ·)

/-- Does a stack stay fenced whole, its own fences above 4 whatever training finds? -/
def State.stackStays (s : State) (k : Nat) : Bool := decide (4 < ((stackPcs k).filter s.keepsFence).length)

/-- Is a pseudo-channel trained? -/
def State.isTrained (s : State) (i : Nat) : Bool := !s.keepsFence i && !s.stackStays (i / 32)

/-- Where restored settings come from: 1 last-good, 0 factory baseline. -/
def State.restoreFrom (s : State) (t : Training) (i : Nat) : Nat :=
  if bitOf (s.rd Cal.HBM_LAST_GOOD 0) (i / 32) && (t.stackReads.getD (i / 32) {}).lastGood then 1 else 0

/-- Is a pseudo-channel trained in full? -/
def State.fullTraining (s : State) (full : Bool) (t : Training) (i : Nat) : Bool :=
  full || bitOf (s.rd Hbm.FENCED 0) i || s.rd Pc.CAUSE i == 4 || s.rd Pc.CAUSE i == 5 || !(t.pcs.getD i {}).verifies ||
    (s.restoreFrom t i == 0 && s.rd Cal.FACT_STATE 0 != 1)

/-- The cause of a pseudo-channel's own fence after training; 0 without one. -/
def State.fenceCause (s : State) (full : Bool) (t : Training) (i : Nat) : Nat :=
  if s.keepsFence i then s.rd Pc.CAUSE i
  else if !s.isTrained i then 0
  else if s.fullTraining full t i && !(t.pcs.getD i {}).found then 1
  else if s.rd Pc.PENDING i = 1 then 3
  else 0

/-- Is a stack fenced whole after training (R369)? -/
def State.stackFenced (s : State) (full : Bool) (t : Training) (k : Nat) : Bool :=
  decide (4 < ((stackPcs k).filter (fun i => s.fenceCause full t i != 0)).length)

/-- The settings of a trained pseudo-channel, and its state. -/
def State.trainPc (old : State) (full : Bool) (t : Training) (s : State) (i : Nat) : State :=
  let c := old.fenceCause full t i
  let down := old.stackFenced full t (i / 32)
  let s := if old.isTrained i && c ≠ 1 then
      let f := old.fullTraining full t i
      ((s.wr Pc.SOURCE i (if f then 2 else old.restoreFrom t i)).wr Pc.SPARES i (if f then (t.pcs.getD i {}).spares else s.rd Pc.SPARES i)).wr
        Pc.DRIFT i 0
    else s
  ((s.wr Pc.STATE i (if c ≠ 0 then 2 else if down then 3 else 0)).wr Pc.CAUSE i (if c ≠ 0 then c else if down then 2 else 0)).wr
    Pc.PENDING i 0

/-- What the stacks say at step 1. -/
def State.readStack (t : Training) (s : State) (k : Nat) : State :=
  let x := t.stackReads.getD k {}
  ((((s.wrI Stk.TEMP k x.temp).wr Stk.HOT k (if 85 < x.temp then 1 else 0)).wr Stk.DEVICE_ID k (x.deviceId % 2 ^ 128)).wr
    Stk.RAAIMT k (x.raaimt % 65536)).wr Stk.RAAMMT k (x.raammt % 65536)

/-- The wipe (R373): zeros in every granule; no poison, no repair waiting; the event ring, the outcome table and the
Rosette store go with their bytes. -/
def State.wipeHbm (s : State) (ms : Nat) : State :=
  let s := (List.range 64).foldl (fun s e => s.clearEl Store.index e) s
  let th := s.rd Hbm.RD_TH 0
  { s.wr Hbm.WIPE_MS 0 (ms % 65536) with
    mem := { s.mem with
      hbm := []
      poison := []
      repair := []
      scrubPos := 0
      scrubPass := s.rd Hbm.SCRUB_HOURS 0
      pcs := s.mem.pcs.map (fun r => (r.1, { r.2 with queue := [], drain := false, banks := [], rdTh := th, winAt := s.phys, trackAt := none })) }
    ev := { s.ev with ring := [] }
    sch := { s.sch with outcome := [] }
    ros := { s.ros with play := [], data := [] } }

/-- Steps 1 to 6 of Table 16.4. The records of step 5 are told after the wipe, which the event ring does not outlive. -/
def State.train (s : State) (full : Bool) (t : Training) : State :=
  let old := s
  let s := [0, 1].foldl (fun s k => s.readStack t k) s
  let s := (List.range 64).foldl (fun s i => old.trainPc full t s i) s
  let s := [0, 1].foldl (fun s k => s.wr Stk.STATE k (if old.stackFenced full t k then 1 else 0)) s
  let out := (List.range 64).filter (fun i => s.rd Pc.STATE i != 0)
  let n := 64 - out.length
  let s := ((s.wr Hbm.FENCED 0 (sumOf (out.map (2 ^ ·)))).wr Hbm.DEGRADED 0 0).wr Hbm.IN_SERVICE 0 n
  let s := ((s.wr Hbm.CAP_MIB 0 (768 * n)).wr Hbm.POOL_MIB 0 (768 * n - 4096)).wr Hbm.BW_FACTOR 0 (bwFactor n)
  let s := (s.wr Hbm.TRAIN_MS 0 (t.trainMs % 65536)).wipeHbm t.wipeMs
  let good (k : Nat) : Bool := (bitOf (old.rd Cal.HBM_LAST_GOOD 0) k && (t.stackReads.getD k {}).lastGood) ||
    (stackPcs k).any (fun i => old.isTrained i && old.fenceCause full t i != 1 && old.fullTraining full t i && (t.pcs.getD i {}).changed)
  let lastGood := sumOf (([0, 1].filter good).map (2 ^ ·))
  let s := if lastGood = s.rd Cal.HBM_LAST_GOOD 0 then s else s.ownWrite Cal.HBM_LAST_GOOD 0 lastGood
  -- events
  let newOut := out.filter (fun i => !bitOf (old.rd Hbm.FENCED 0) i)
  let s := newOut.foldl (fun s i =>
    let s := if s.rd Pc.STATE i = 2 then s.raise Ev.HBM_PC_FENCED i toPlatform (s.rd Pc.CAUSE i) else s
    s.unitRetired 6 i (s.rd Pc.CAUSE i) n (768 * n)) s
  let up := ([0, 1].filter (fun k => s.rd Stk.STATE k == 0)).length
  let newStacks := [0, 1].filter (fun k => s.rd Stk.STATE k == 1 && (stackPcs k).any (fun i => !bitOf (old.rd Hbm.FENCED 0) i))
  let s := newStacks.foldl (fun s k => (s.raise Ev.HBM_STACK_FENCED k toPlatform 0).unitRetired 7 k 2 up (768 * n)) s
  let s := s.raise Ev.HBM_TRAINED 0 toPlatform (n + 2 ^ 32 * (t.trainMs % 65536))
  if n = 0 then s.raise Ev.HBM_FATAL 0 toAll 0 else s

/-- Is a decode, encode or composition session or a route graph open, or a leg, conference, source or subscription? -/
def State.mediaUsed (s : State) : Bool :=
  s.elemsWith Leg.STATE 1 != [] || s.elemsWith Leg.STATE 2 != [] || s.elemsWith Leg.STATE 3 != [] ||
    s.elemsWith Conf.STATE 1 != [] || s.elemsWith Src.STATE 1 != [] || s.elemsWith Sub.STATE 1 != []

/-- Any session or output not FREE, or a route graph that is not empty or runs? -/
def State.unitsUsed (s : State) : Bool :=
  s.column Dec.STATE != [] || s.column Enc.STATE != [] || s.column Outp.STATE != [] || s.column Graph.STATE != [] ||
    s.column Graph.RUNNING != []

/-- Every context is emptied and a new internal context key drawn (R196). -/
def State.newContextKey (s : State) : State :=
  let s := (s.cip.ctx.map (·.1)).foldl (fun s c => s.eraseCtx c) s
  let (k, s) := s.draw 256
  ({ s with cip := { s.cip with ick := k, ickWrites := 0, cache := [] } } : State).bump Alarm.ICK_GEN 0

/-- CMD RETRAIN (R368). -/
def retrain (t : Training) (s : State) : Except Status State :=
  if s.rd Pwr.PSTATE 0 ≠ 1 || s.mediaUsed || s.unitsUsed then .error .eState
  else .ok ((s.train true t).newContextKey).enterSelfRefresh

/-! Tracking, refresh, scrubbing (R358 to R367). -/

/-- One step from a towards b. -/
def stepTo (a b : Nat) : Nat := if a < b then a + 1 else if b < a then a - 1 else a

/-- TRACKING_PASS on pseudo-channel i, every 100 ms in ACTIVE and at once after self-refresh. `drift` is how far the eye
centre now lies from the trained values, in steps; the delays follow by at most one step. -/
def trackingPass (i drift : Nat) (s : State) : State :=
  let due : Bool := match (s.pcX i).trackAt with | some c => decide (100 * cycMs ≤ s.since c) | none => true
  if s.rd Pwr.PSTATE 0 ≠ 0 || s.mem.selfRefresh || 1 < s.rd Pc.STATE i || !due then s
  else
    let lim := s.rd Hbm.TRACK_LIMIT 0
    let d := stepTo (s.rd Pc.DRIFT i) drift
    let s := (s.pcUpd i (fun x => { x with trackAt := some s.phys })).wr Pc.DRIFT i (min d lim)
    if lim < d then s.degrade i 5 else s

/-- REFRESH of one bank of pseudo-channel i: its row closes and its rolling activate count falls by RAAIMT. The stack
reports its temperature, which sets the refresh window. -/
def refresh (i bank : Nat) (temp : Int) (s : State) : State :=
  let k := i / 32
  if s.mem.selfRefresh || 1 < s.rd Pc.STATE i then s
  else
    let s := ((s.wrI Stk.TEMP k temp).wr Stk.HOT k (if 85 < temp then 1 else 0)).windowStart i
    let lim := s.rd Stk.RAAIMT k
    s.pcUpd i (fun x => { x with
      banks := Tbl.upd {} x.banks bank (fun b => { b with row := none, raa := b.raa - lim }) })

/-- SCRUB_REPAIR: of the patrol's next granule, or of a granule queued for repair. What the read corrects is written back;
a word that does not correct stays poisoned (R361 to R363). -/
def scrubRepair (queued : Option Nat) (corrected : Nat) (bad : List Nat) (s : State) : State :=
  if s.mem.selfRefresh || !s.hbmUp then s
  else
    let total := s.capBytes / 256
    let g := queued.getD s.mem.scrubPos
    if queued.isSome && !s.mem.repair.contains g then s
    else
      let p := s.locate (256 * g)
      let s := if queued.isSome then s else s.countCe p.pc corrected
      let s := { s with mem := { s.mem with repair := s.mem.repair.filter (· != g) } }
      let s := s.touch 21 (256 * g) 256
      let s := if corrected = 0 && bad = [] then s else s.touch 21 (256 * g) 256 true
      let s := (s.bump Pc.SCRUB_FIX p.pc corrected).readErr ⟨g, 0, bad⟩
      let s := s.meetPoison (256 * g) 256
      if queued.isSome then s
      else if g + 1 < total then { s with mem := { s.mem with scrubPos := g + 1 } }
      else
        let next := s.rd Hbm.SCRUB_HOURS 0
        ({ s with mem := { s.mem with scrubPos := 0, scrubPass := next } } : State).bump Hbm.SCRUB_PASSES 0

/-! Host commands (R370, R374). -/

/-- CMD FENCE. -/
def fence (i : Nat) (s : State) : Except Status State :=
  if bitOf (s.rd Hbm.FENCED 0) i then .ok s else .ok (s.wr Pc.PENDING i 1)

/-- CMD UNFENCE. -/
def unfence (i : Nat) (s : State) : Except Status State :=
  if bitOf (s.rd Hbm.FENCED 0) i then .ok (s.wr Pc.PENDING i 2) else .ok s

/-- CMD MARGIN: the scan's result, or its failure. -/
def margin (result : Option Nat) (s : State) : Except Status State :=
  if s.rd Pwr.PSTATE 0 ≠ 1 || bitOf (s.rd Hbm.FENCED 0) (s.rd Mar.TARGET 0) then .error .eState
  else match result with
    | some v => .ok ((s.wr Mar.STATUS 0 2).wr Mar.MARGIN 0 (v % 2 ^ 576))
    | none => .ok (s.wr Mar.STATUS 0 3)

/-- A write to an object of 0x5200 to 0x5230; the commands come with what training or the scan finds. -/
def hbmObjWrite (col el v : Nat) (t : Training) (scan : Option Nat) (s : State) : Except Status State :=
  if col = Hbm.CMD then retrain t s
  else if col = Pc.CMD then (if v = 1 then fence el s else unfence el s)
  else if col = Mar.CMD then margin scan s
  else .ok (s.wr col el v)

/-! The commands. -/

def execRetrain (h : Nat) (training : Training) (s : State) : Out := live (hostWrite h Hbm.CMD 0 1 (retrain training)) s

def execTrackingPass (pc : Fin 64) (drift : Nat) (s : State) : Out := live (trackingPass pc drift) s

def execRefresh (pc : Fin 64) (bank : Fin 32) (temp : Int) (s : State) : Out := live (refresh pc bank temp) s

def execScrubRepair (queued : Option Nat) (corrected : Fin 33) (bad : List Nat) (s : State) : Out :=
  live (scrubRepair queued corrected bad) s

def execFence (h pc : Nat) (s : State) : Out := live (hostWrite h Pc.CMD pc 1 (fence pc)) s

def execUnfence (h pc : Nat) (s : State) : Out := live (hostWrite h Pc.CMD pc 2 (unfence pc)) s

def execMargin (h : Nat) (result : Option Nat) (s : State) : Out := live (hostWrite h Mar.CMD 0 1 (margin result)) s

end Sys2Proof.Machine
end

