-- ==== Sys2Proof/Machine/Window.lean ====
section
/-! DEFINITION. What a host slot may reach of HBM (R397), and HBM bytes as a host or a DMA channel meets them: the Rosette
store's bytes are its entries' bytes, a picture buffer's its samples; the event ring's layout is not carried, and reads as
free values. -/

namespace Sys2Proof.Machine

/-- Address ranges: first byte and the byte after the last. -/
def inside (a n : Nat) (r : Nat × Nat) : Bool := r.1 ≤ a && a + n ≤ r.2
def meets (a n : Nat) (r : Nat × Nat) : Bool := a < r.2 && r.1 < a + n

/-- The picture buffers of a decode session, and of a composition output, that hold something. -/
def State.decPlanes (s : State) (d : Nat) : List (Nat × Nat) :=
  let x := s.decX d
  ((x.slots.filterMap (·.2)) ++ x.latest.toList).flatMap PicX.planes
def State.outPlanes (s : State) (k : Nat) : List (Nat × Nat) := ((s.outX k).latest.toList).flatMap PicX.planes

/-- Every picture buffer. -/
def State.allPlanes (s : State) : List (Nat × Nat) :=
  (s.vid.dec.map (·.1)).flatMap s.decPlanes ++ (s.vid.out.map (·.1)).flatMap s.outPlanes

/-- The picture buffers of a tenant's own decode sessions and composition outputs. -/
def State.ownPlanes (s : State) (h : Nat) : List (Nat × Nat) :=
  ((s.vid.dec.map (·.1)).filter (fun d => s.rd Dec.STATE d != 0 && s.rd Dec.OWNER d == h)).flatMap s.decPlanes ++
    ((s.vid.out.map (·.1)).filter (fun k => s.rd Outp.STATE k != 0 && s.rd Outp.OWNER k == h)).flatMap s.outPlanes

/-- The trace ring and the event ring. -/
def State.traceRange (s : State) : Nat × Nat := (traceRingAt, traceRingAt + s.rd Trc.RING_MIB 0 * mib)
def eventRange : Nat × Nat :=
  let o := Config.eventRing % (256 * mib - 32 * 65536 + 1)
  (eventRingAt + o, eventRingAt + o + 32 * 65536)
def storeRange : Nat × Nat := (storeBase, storeBase + 1024 * mib)

/-- What slot h may read. -/
def State.readGrants (s : State) (h : Nat) : List (Nat × Nat) :=
  if h = 0 then s.traceRange :: eventRange :: s.allPlanes else if h = 1 then [storeRange] else s.ownPlanes h

/-- May slot h read n bytes from a? -/
def State.mayRead (s : State) (h a n : Nat) : Bool := a + n ≤ s.capBytes && (s.readGrants h).any (inside a n)

/-- The entries of the Rosette store that n bytes from a lie in. -/
def entriesAt (a n : Nat) : List Nat := distinct ((List.range n).map (fun i => (Config.storeEntry (a - storeBase + i)).toNat))

/-- May slot h write n bytes from a: the SAFETY slot in the Rosette store, entries in use excepted? -/
def State.mayWrite (s : State) (h a n : Nat) : Bool :=
  h == 1 && a + n ≤ s.capBytes && inside a n storeRange && (entriesAt a n).all (fun e => !s.entryUsed e)

/-- A byte of the Rosette store. -/
def State.storeByte (s : State) (a : Nat) : Byte :=
  (s.storeBytes (Config.storeEntry (a - storeBase)).toNat).getD (Config.storeOffset (a - storeBase)).toNat 0

/-- A write of one byte of the Rosette store: LEN rises to the highest byte written plus 1, and the entry must be sealed
again. -/
def State.putStoreByte (s : State) (a : Nat) (b : Byte) : State :=
  let e := (Config.storeEntry (a - storeBase)).toNat
  let o := (Config.storeOffset (a - storeBase)).toNat
  let old := s.storeBytes e
  (s.storeSet e ((padTo (o + 1) old).set o b)).wr Store.READY e 0

/-- The byte of a picture at an address in its planes: NV12, or P010 with each sample in the upper bits of 16 (R304). None beyond
the samples of a row. -/
def PicX.byte? (p : PicX) (a : Nat) : Option Byte :=
  let w := descW p.desc
  let h := descH p.desc
  let wide := byteAt p.desc 25 = 1
  let luma := leAt p.desc 40 8
  let chroma := leAt p.desc 48 8
  let stride := leAt p.desc 56 4
  let put (v o : Nat) : Option Byte := some (BitVec.ofNat 8 (if wide then v * 64 / 256 ^ (o % 2) else v))
  let cell (o : Nat) : Nat := if wide then o % stride / 2 else o % stride
  if inside a 1 (luma, luma + stride * h) && cell (a - luma) < w then
    put (p.pix.at (cell (a - luma)) ((a - luma) / stride)).1 (a - luma)
  else if inside a 1 (chroma, chroma + stride * (h / 2)) && cell (a - chroma) < w then
    let c := cell (a - chroma)
    let v := p.pix.at (c / 2 * 2) ((a - chroma) / stride * 2)
    put (if c % 2 = 0 then v.2.1 else v.2.2) (a - chroma)
  else none

/-- Every picture in a buffer. -/
def State.allPics (s : State) : List PicX :=
  s.vid.dec.flatMap (fun r => r.2.slots.filterMap (·.2) ++ r.2.latest.toList) ++ s.vid.out.flatMap (fun r => r.2.latest.toList)

/-- A byte of a record in the event ring: record n stands in slot n mod 65,536 (R16, log 127). -/
def State.ringByte? (s : State) (a : Nat) : Option Byte :=
  if meets a 1 eventRange then
    let o := a - eventRange.1
    (s.ev.ring.find? (fun r => r.seq % 65536 == o / 32)).bind (fun r => r.bytes[o % 32]?)
  else none

/-- n bytes of HBM from a as they read: samples where a picture lies, the records of the event ring, and free values beyond a
picture's rows. -/
def State.bytesAt (s : State) (a n : Nat) : Bytes × State :=
  if inside a n storeRange then ((List.range n).map (fun i => s.storeByte (a + i)), s)
  else if !s.allPlanes.any (meets a n) then
    ((s.hbmGet a n).zipIdx.map (fun b => (s.ringByte? (a + b.2)).getD b.1), s)
  else
    let (v, s) := s.draw (8 * n)
    let had := s.hbmGet a n
    ((natLE n v).zipIdx.map (fun b =>
      match s.allPics.findSome? (fun p => p.byte? (a + b.2)) with
      | some x => x
      | none => if s.allPlanes.any (meets (a + b.2) 1) then b.1 else had.getD b.2 0), s)

/-- Store bytes in HBM from a. -/
def State.putBytes (s : State) (a : Nat) (bs : Bytes) : State :=
  let s := s.hbmPut a bs
  if inside a bs.length storeRange then
    (bs.zipIdx).foldl (fun s b => s.putStoreByte (a + b.2) b.1) s
  else s

/-- A read of n bytes by a requester, with the errors that it meets (R361, R362). -/
def State.fetchBytes (s : State) (req a n : Nat) (errs : List ReadErr) : Bytes × State :=
  let s := ((s.readErrs a n errs).touch req a n).meetPoison a n
  s.bytesAt a n

/-- A write by a requester. -/
def State.storeBytesAt (s : State) (req a : Nat) (bs : Bytes) : State := (s.touch req a bs.length true).putBytes a bs

/-! The stacks in IDLE (R417). -/

/-- An access that reaches HBM in IDLE takes the stacks out of self-refresh for it. -/
def State.idleAccess (s : State) : State :=
  if s.rd Pwr.PSTATE 0 ≠ 1 || !s.hbmUp then s
  else
    let s := s.leaveSelfRefresh
    { s with mem := { s.mem with hbmAt := s.phys } }

end Sys2Proof.Machine
end

