-- ==== Sys2Proof/Machine/Dma.lean ====
section
/-! DEFINITION. Shared-port arbitration's Capo bit and the DMA engine (chapter 17): descriptors, their checks, the
reshaping operations, completion records, channel states and movers. -/

namespace Sys2Proof.Machine

/-! The Capo bit (R379). -/

/-- CAPO = 1. -/
def capoSet (h i : Nat) (s : State) : Except Status State :=
  if s.on APort.CAPO i then .ok s
  else .ok (((s.wr APort.CAPO i 1).wr APort.STATE i 1).pcUpd i (fun x => { x with capoAt := s.phys, capoBy := some h }))

def State.capoRelease (s : State) (i : Nat) : State := (s.wr APort.CAPO i 0).wr APort.STATE i 0

/-- CAPO = 0. -/
def capoClear (i : Nat) (s : State) : Except Status State := .ok (s.capoRelease i)

/-- DRAINED: the controller's queues are empty and no data is in flight. -/
def drained (i : Nat) (s : State) : State :=
  if s.rd APort.STATE i ≠ 1 || (s.pcX i).queue != [] then s
  else
    let s := (s.wr APort.STATE i 2).wr APort.OUTSTANDING i 0
    match (s.pcX i).capoBy with
    | some h => s.raise Ev.DRAINED i (toSlot h) 0
    | none => s

/-- ARB_CAPO_TIMEOUT: 10 ms frozen in ACTIVE. -/
def capoTimeout (i : Nat) (s : State) : State :=
  if s.rd Pwr.PSTATE 0 ≠ 0 || !s.on APort.CAPO i || s.since (s.pcX i).capoAt < 10 * cycMs then s
  else (s.capoRelease i).raise Ev.ARB_CAPO_TIMEOUT i toPlatform 0

/-! Checks of a descriptor. -/

/-- A descriptor that reads or writes PCIe host memory. -/
def isPcie (d : Bytes) : Bool := (dOp d != 7 && (dSrc d).space == 2) || (dDst d).space == 2

/-- LEN does not fit (status 2). -/
def lenBad (d : Bytes) : Bool :=
  1048576 < dLen d || (isPcie d && 131072 < dLen d) || 1048576 < dstExtent d ||
  (match dOp d with
   | 1 | 2 => dLen d != pFrames d * pSlots d * packBytes (pPack d)
   | 3 => dLen d % 3 != 0
   | 4 => dLen d % 4 != 0
   | 5 | 6 => dLen d != pP d * pHeight d * 3 / 2
   | _ => false)

/-- A field or PARAM out of range (status 3). -/
def paramBad (firmware : Bool) (d : Bytes) : Bool :=
  byteAt d 0 != 1 || 7 < dOp d || 8 ≤ byteAt d 2 || byteAt d 3 != 0 || leAt d 60 4 != 0 || (firmware && dFlag d 2) ||
  (match dOp d with
   | 0 => !allZero (slice d 40 16)
   | 1 | 2 => pSlots d == 0 || 32 < pSlots d || 2 < pPack d || pFrames d == 0 || 4096 < pFrames d || pPlane d % 4 != 0 ||
       dPar d 12 4 != 0
   | 3 | 4 => dPar d 0 1 == 0 || 2 < dPar d 0 1 || !allZero (slice d 41 15)
   | 5 | 6 => 1 < dPar d 0 1 || dPar d 1 1 != 0 || pWidth d % 2 == 1 || pHeight d % 2 == 1 || dPar d 6 2 != 0 ||
       pP d < pWidth d * pBps d || pQ d < pWidth d * pBps d || pQ d % 2 == 1
   | 7 => !allZero (slice d 44 12)
   | _ => true)

/-- The host slot of a channel; none for a firmware channel. -/
def chanHost (n : Nat) : Option Nat := if 48 ≤ n then some ((n - 48) / 2) else none

/-- May channel n read, or write, n bytes from an address (R383)? -/
def State.addrOk (s : State) (n : Nat) (a : DAddr) (len : Nat) (write : Bool) : Bool :=
  match a.space, chanHost n with
  | 0, none => a.unit_ == 0 && a.addr + len ≤ s.capBytes
  | 0, some h => a.unit_ == 0 && (if write then s.mayWrite h a.addr len else s.mayRead h a.addr len)
  | 1, none => a.addr + len ≤ mib
  | 2, none => a.addr + len ≤ 2 ^ 57
  | 2, some h => a.unit_ == h && a.addr + len ≤ 2 ^ 57
  | _, _ => false

/-- Do source and destination overlap? -/
def dOverlap (d : Bytes) : Bool :=
  let a := dSrc d
  let b := dDst d
  dOp d != 7 && a.space == b.space && a.unit_ == b.unit_ && a.addr < b.addr + dstExtent d && b.addr < a.addr + srcExtent d

/-- An address or window that the channel may not use (status 4). -/
def State.addrBad (s : State) (n : Nat) (d : Bytes) : Bool :=
  (dOp d != 7 && !s.addrOk n (dSrc d) (srcExtent d) false) || !s.addrOk n (dDst d) (dstExtent d) true || dOverlap d ||
    (dFlag d 0 && !s.addrOk n (dCpl d) 16 true)

/-- The status found before the first byte moves, the lowest first; 0 where none is. -/
def State.dStatus (s : State) (n : Nat) (d : Bytes) : Nat :=
  if dLen d = 0 then (if dFlag d 0 && !s.addrOk n (dCpl d) 16 true then 4 else 1) else if lenBad d then 2 else if paramBad (n < 48) d then 3 else if s.addrBad n d then 4 else 0

/-! Reshaping (R381). -/

/-- What a piece of the destination is made of. -/
inductive MvKind where
  | copy
  | word (from_ to_ : Nat) (clamp : Bool)   -- packings of Table 10.3
  | zero
  | fill (pattern at_ : Nat)
  | shr6                                   -- 16-bit samples
  | shl6
  deriving DecidableEq, Repr

/-- One move: offsets from the source and destination addresses, and byte counts. -/
structure Mv where
  src : Nat
  srcLen : Nat
  dst : Nat
  dstLen : Nat
  kind : MvKind
  deriving DecidableEq, Repr

/-- Pieces of n bytes from a, cut at granules. -/
def pieces (a n : Nat) : List (Nat × Nat) :=
  (granules a n).map (fun g => (max a (256 * g) - a, min (a + n) (256 * g + 256) - max a (256 * g)))

/-- The moves of OP 1 and OP 2. -/
def slotMoves (d : Bytes) (gather : Bool) : List Mv :=
  let b := packBytes (pPack d)
  (List.range (pFrames d)).flatMap (fun f => (List.range (pSlots d)).filterMap (fun k =>
    let i := (f * pSlots d + k) * b
    let p := k * pPlane d + 4 * f
    if bitOf (pMask d) k then
      some (if gather then ⟨p, 4, i, b, .word 2 (pPack d) true⟩ else ⟨i, b, p, 4, .word (pPack d) 2 false⟩)
    else if gather then some ⟨p, 0, i, b, .zero⟩ else none))

/-- The moves between packed and planar pictures, (packed offset, planar offset, bytes). -/
def planeMoves (d : Bytes) : List (Nat × Nat × Nat) :=
  let b := pBps d
  let w := pWidth d
  let h := pHeight d
  let luma := (List.range h).map (fun r => (r * pP d, r * pQ d, w * b))
  let chroma := (List.range (h / 2)).flatMap (fun r => (List.range (w / 2)).flatMap (fun x => [0, 1].map (fun c =>
    (pP d * h + r * pP d + (2 * x + c) * b, pQ d * h + c * (pQ d / 2 * (h / 2)) + r * (pQ d / 2) + x * b, b))))
  luma ++ chroma

/-- The moves of a descriptor. -/
def dMoves (d : Bytes) : List Mv :=
  let n := dLen d
  match dOp d with
  | 0 => (pieces (dSrc d).addr n).map (fun p => ⟨p.1, p.2, p.1, p.2, .copy⟩)
  | 1 => slotMoves d false
  | 2 => slotMoves d true
  | 3 => (List.range (n / 3)).map (fun i => ⟨3 * i, 3, 4 * i, 4, .word 0 (dPar d 0 1) false⟩)
  | 4 => (List.range (n / 4)).map (fun i => ⟨4 * i, 4, 3 * i, 3, .word (dPar d 0 1) 0 (dPar d 0 1 == 2)⟩)
  | 5 => (planeMoves d).map (fun m => ⟨m.1, m.2.2, m.2.1, m.2.2, if pBps d = 1 then .copy else .shr6⟩)
  | 6 => (planeMoves d).map (fun m => ⟨m.2.1, m.2.2, m.1, m.2.2, if pBps d = 1 then .copy else .shl6⟩)
  | _ => (pieces (dDst d).addr n).map (fun p => ⟨0, 0, p.1, p.2, .fill (dPar d 0 4) p.1⟩)

/-- A packed sample's value, and a value packed. -/
def unpack (p : Nat) (b : Bytes) : Int := if p = 0 then toInt 24 (leNat b) else if p = 1 then toInt 24 (leNat b / 256) else toInt 32 (leNat b)
def pack (p : Nat) (v : Int) : Bytes := if p = 0 then natLE 3 (ofInt 24 v) else if p = 1 then natLE 4 (256 * ofInt 24 v) else natLE 4 (ofInt 32 v)

/-- 16-bit samples of a row, each changed; how many were clamped. -/
def samples16 (f : Nat → Nat × Bool) : Bytes → Bytes × Nat
  | a :: b :: bs =>
    let r := f (leNat [a, b])
    let t := samples16 f bs
    (natLE 2 r.1 ++ t.1, r.2.toNat + t.2)
  | _ => ([], 0)

/-- The destination bytes of a move, and the samples clamped. -/
def Mv.apply (m : Mv) (src : Bytes) : Bytes × Nat :=
  match m.kind with
  | .copy => (src, 0)
  | .word i o c =>
    let v := unpack i src
    let w := if c then satInt 24 v else v
    (pack o w, (decide (w ≠ v)).toNat)
  | .zero => (List.replicate m.dstLen 0, 0)
  | .fill p o => ((List.range m.dstLen).map (fun i => BitVec.ofNat 8 (p / 256 ^ ((o + i) % 4))), 0)
  | .shr6 => samples16 (fun v => (v / 64, false)) src
  | .shl6 => samples16 (fun v => (min v 1023 * 64, decide (1023 < v))) src

/-! Bytes in the three spaces. -/

/-- Source bytes of a move; `host` holds the source's bytes where it lies in host memory. -/
def State.dmaGet (s : State) (a : DAddr) (o n : Nat) (host : Bytes) : Bytes × State :=
  match a.space with
  | 0 => s.bytesAt (a.addr + o) n
  | 1 => (s.shmGet a.unit_ (a.addr + o) n, s)
  | _ => ((List.range n).map (fun i => host.getD (o + i) 0), s)

/-- Destination bytes; writes to host memory are posted. -/
def State.dmaPut (s : State) (a : DAddr) (o : Nat) (bs : Bytes) : State :=
  match a.space with
  | 0 => s.putBytes (a.addr + o) bs
  | 1 => s.shmPut a.unit_ (a.addr + o) bs
  | _ => s.emit (.hostWrite a.unit_ (a.addr + o) bs)

/-- The requests of an access of n bytes by a mover; requester 16 + m stands for movers 2m and 2m + 1. -/
def State.dmaTouch (s : State) (mover : Nat) (a : DAddr) (n : Nat) (write : Bool := false) : State :=
  if a.space = 0 then s.touch (16 + mover / 2) a.addr n write (some mover) else s

/-- A frozen port on the way of an access holds it back; the requester's entry is parked there. -/
def State.frozenAt (s : State) (a : DAddr) (n : Nat) : Option Place :=
  if a.space ≠ 0 then none
  else ((granules a.addr n).map (fun g => s.locate (256 * g))).find? (fun p => s.frozen p.pc)

/-- A held access asks once: an entry already parked there stands for it. -/
def State.parkOnce (s : State) (mover : Nat) (write : Bool) (p : Place) : State :=
  if (s.pcX p.pc).parked.any (fun e => e.mover == some mover && e.bank == p.bank && e.row == p.row) then s
  else s.request (16 + mover / 2) write p (some mover)

/-- Does a move's source meet a poisoned granule? -/
def State.mvPoisoned (s : State) (a : DAddr) (m : Mv) : Bool :=
  a.space == 0 && (granules (a.addr + m.src) m.srcLen).any (fun g => s.poisonedAt (256 * g) 256)

/-- Poison of the words that n bytes of HBM from a touch. -/
def State.poisonPut (s : State) (a n : Nat) : State :=
  let ws := (List.range ((a + n - 1) / 8 - a / 8 + 1)).map (· + a / 8)
  { s with mem := { s.mem with poison := s.mem.poison ++ ws.filter (fun w => !s.mem.poison.contains w) } }

/-- What moving a descriptor's bytes has done so far. -/
structure DRun where
  bytes : Nat := 0
  clamps : Nat := 0
  poisoned : Bool := false
  deriving DecidableEq, Repr

/-- One move. A poisoned source granule is written as poison to HBM and as zeros elsewhere (R382). -/
def State.dMove (d host : Bytes) (t : State × DRun) (m : Mv) : State × DRun :=
  let s := t.1
  let z := List.replicate m.dstLen (0 : Byte)
  if dOp d != 7 && s.mvPoisoned (dSrc d) m then
    let s := s.dmaPut (dDst d) m.dst z
    (if (dDst d).space = 0 then s.poisonPut ((dDst d).addr + m.dst) m.dstLen else s,
      { t.2 with bytes := t.2.bytes + m.dstLen, poisoned := true })
  else
    let (src, s) := s.dmaGet (dSrc d) m.src m.srcLen host
    let r := m.apply src
    (s.dmaPut (dDst d) m.dst r.1, { t.2 with bytes := t.2.bytes + m.dstLen, clamps := t.2.clamps + r.2 })

/-! Channels. -/

def State.dmaX (s : State) (n : Nat) : DmaX := Tbl.get {} s.dma n
def State.dmaUpd (s : State) (n : Nat) (f : DmaX → DmaX) : State := { s with dma := Tbl.upd {} s.dma n f }

/-- The hosts byte of a channel's events: its slot, or PLATFORM for a firmware channel's fault. -/
def chanOwner (n : Nat) : Nat := match chanHost n with | some h => toSlot h | none => toPlatform

/-- Does a running channel count as HIGH? -/
def State.dmaHigh (s : State) (n : Nat) : Bool := s.on Dma.HIGH n || (s.dmaX n).part.isSome

/-- Give one ready channel a mover (R385). -/
def State.giveMover (s : State) : State :=
  let run := (List.range 64).filter (fun n => s.rd Dma.STATE n == 1 && (s.dmaX n).desc != [])
  let ready := run.filter (fun n => (s.dmaX n).mover.isNone)
  let pick := match ready.find? s.dmaHigh with | some n => some n | none => ready.head?
  match pick with
  | none => s
  | some n =>
    let used := run.filterMap (fun k => (s.dmaX k).mover)
    match (List.range 8).find? (fun m => !used.contains m) with
    | some m => s.dmaUpd n (fun x => { x with mover := some m })
    | none =>
      match (run.filter (fun k => (s.dmaX k).mover.isSome && !s.dmaHigh k)).getLast? with
      | some k =>
        if s.dmaHigh n then
          let m := (s.dmaX k).mover
          ((s.dmaUpd n (fun x => { x with mover := m })).dmaUpd k (fun x => { x with mover := none })).bump Dma.PREEMPTS k
        else s
      | none => s

/-- Movers are given until nothing changes: at most one per channel. -/
def State.giveMovers (s : State) : State := (List.range 16).foldl (fun s _ => s.giveMover) s

/-- The channel ends: STATE, no descriptor, no mover. -/
def State.dmaEnd (s : State) (n state : Nat) : State :=
  ((s.wr Dma.STATE n state).dmaUpd n (fun x => { x with desc := [], mover := none, part := none, stopping := false, next := none })).giveMovers

/-- The completion record (Table 17.7). -/
def State.dmaRecord (s : State) (n : Nat) (d : Bytes) (status bytes : Nat) : State :=
  if !dFlag d 0 then s
  else
    let s := match (s.dmaX n).mover with | some m => s.dmaTouch m (dCpl d) 16 true | none => s
    let b := natLE 1 status ++ natLE 1 n ++ [0, 0] ++ natLE 4 (dTag d) ++ natLE 4 bytes ++ natLE 4 (s.dmaX n).seq
    (s.dmaPut (dCpl d) 0 b).wr Dma.LAST_STATUS n status

/-- Statuses 2 to 4: record, DMA_FAULT, FAULT. -/
def State.dmaFault (s : State) (n : Nat) (d : Bytes) (status : Nat) : State :=
  let s := if s.addrOk n (dCpl d) 16 true then s.dmaRecord n d status 0 else s
  (s.raise Ev.DMA_FAULT n (chanOwner n) (status + 2 ^ 32 * dTag d)).dmaEnd n 3

/-- Clusters whose shared memory a descriptor touches, its completion record included. -/
def dClusters (d : Bytes) : List Nat :=
  (((if dLen d = 0 then [] else if dOp d = 7 then [dDst d] else [dSrc d, dDst d]) ++ (if dFlag d 0 then [dCpl d] else [])).filter
    (fun a => a.space == 1)).map (·.unit_)

/-- The descriptor at an address is fetched and checked; `host` holds it where it lies in host memory. The fetch waits where a
frozen port lies in its way, or for a cluster that is not up. -/
def State.dmaFetch (s : State) (n addr : Nat) (host : Bytes) : State :=
  let a := dAddr addr
  let m := (s.dmaX n).mover.getD 0
  let later (s : State) : State := (s.wr Dma.STATE n 1).dmaUpd n (fun x => { x with desc := [], next := some addr })
  if !s.addrOk n a 64 false then s.dmaFault n [] 4
  else if a.space = 1 && s.part (cluPart a.unit_) < 2 then
    later (if s.part (cluPart a.unit_) = 0 then s.demand (cluPart a.unit_) else s)
  else match s.frozenAt a 64 with
  | some p => later (s.parkOnce m false p)
  | none =>
    let s := if a.space = 0 then s.idleAccess else s
    let (d, s) := (s.dmaTouch m a 64).dmaGet a 0 64 host
    let st := s.dStatus n d
    if 2 ≤ st then s.dmaFault n d st
    else
      let s := (dClusters d).foldl (fun s c => s.demand (cluPart c)) s
      ((s.wr Dma.STATE n 1).dmaUpd n (fun x => { x with desc := d, next := none })).giveMovers

/-- CMD START. -/
def dmaStart (n : Nat) (host : Bytes) (s : State) : Except Status State :=
  match s.rd Dma.STATE n with
  | 1 => .error .eBusy
  | 2 =>
    let s := match (s.dmaX n).part with | some k => s.demand k | none => s
    .ok (((s.wr Dma.STATE n 1).dmaUpd n (fun x => { x with part := none })).dmaFetch n ((s.dmaX n).next.getD 0) host)
  | _ =>
    if !s.hbmUp then .error .eState
    else
      let s := if (s.dmaX n).undef then (s.wr Dma.DESCS n 0).wr Dma.BYTES n 0 else s
      let s := s.dmaUpd n (fun _ => {})
      .ok (s.dmaFetch n (s.rd Dma.HEAD n) host)

/-- CMD STOP. -/
def dmaStop (n : Nat) (s : State) : Except Status State :=
  match s.rd Dma.STATE n with
  | 1 =>
    if (s.dmaX n).desc = [] then .ok ((s.wr Dma.HEAD n ((s.dmaX n).next.getD 0)).dmaEnd n 0)
    else .ok (s.dmaUpd n (fun x => { x with stopping := true }))
  | 2 => .ok ((s.wr Dma.HEAD n ((s.dmaX n).next.getD 0)).dmaEnd n 0)
  | _ => .ok s

/-- A descriptor cut short: of each of its moves a free part of the bytes has been written (R386). -/
def State.cutShort (s : State) (d host : Bytes) : State :=
  (dMoves d).foldl (fun s m =>
    let (src, s) := s.dmaGet (dSrc d) m.src m.srcLen host
    let (k, s) := s.draw m.dstLen
    ((m.apply src).1.zipIdx).foldl (fun s b => if bitOf k b.2 then s.dmaPut (dDst d) (m.dst + b.2) [b.1] else s) s) s

/-- CMD DISABLE. -/
def dmaDisable (n : Nat) (host : Bytes) (s : State) : Except Status State :=
  let x := s.dmaX n
  let s := if x.desc ≠ [] && s.dStatus n x.desc = 0 then s.cutShort x.desc host else s
  let (a, s) := s.draw 64
  let (b, s) := s.draw 64
  let (q, s) := s.draw 32
  .ok (((((s.wr Dma.DESCS n a).wr Dma.BYTES n b).dmaEnd n 0)).dmaUpd n (fun x => { x with seq := q, undef := true }))

/-- A descriptor is done: counts, record, and what comes next. -/
def State.dmaFinish (s : State) (n : Nat) (d : Bytes) (status bytes : Nat) (nextHost : Bytes) : State :=
  let s := s.dmaUpd n (fun x => { x with seq := (x.seq + 1) % 2 ^ 32 })
  let s := ((s.dmaRecord n d status bytes).bump Dma.DESCS n).bump Dma.BYTES n bytes
  let x := s.dmaX n
  if x.stopping then (s.wr Dma.HEAD n (dNext d)).dmaEnd n 0
  else if !dFlag d 1 then
    let s := match chanHost n with | some h => s.raise Ev.DMA_DONE n (toSlot h) x.seq | none => s
    s.dmaEnd n 0
  else if x.part.isSome then
    (((s.bump Dma.PAUSES n).wr Dma.STATE n 2).dmaUpd n (fun x => { x with desc := [], mover := none, next := some (dNext d) })).giveMovers
  else (s.dmaUpd n (fun x => { x with desc := [] })).dmaFetch n (dNext d) nextHost

/-- Clusters of a descriptor that are not up: a transfer stalls until they are (R38). -/
def State.sleeping (s : State) (d : Bytes) : List Nat := (dClusters d).filter (fun c => s.part (cluPart c) < 2)

/-- A stalled transfer wakes its clusters that are off. -/
def State.wakeFor (s : State) (d : Bytes) : State :=
  (s.sleeping d).foldl (fun s c => if s.part (cluPart c) = 0 then s.demand (cluPart c) else s) s

/-- DMA_DESCRIPTOR_DONE: channel n finishes its descriptor. `host` holds source bytes and `nextHost` the next descriptor
where they lie in host memory; `errs` are what its HBM reads meet. -/
def dmaDone (n : Nat) (host nextHost : Bytes) (errs : List ReadErr) (s : State) : State :=
  let x := s.dmaX n
  if s.rd Dma.STATE n ≠ 1 then s
  else if x.desc = [] then (match x.next with | some a => s.dmaFetch n a nextHost | none => s)
  else match x.mover with
  | none => s
  | some m =>
    let d := x.desc
    if s.sleeping d ≠ [] then s.wakeFor d
    else if let some p := (if dFlag d 0 then s.frozenAt (dCpl d) 16 else none) then s.parkOnce m true p
    else if dLen d = 0 then s.dmaFinish n d 1 0 nextHost
    else
      match (if dOp d = 7 then none else s.frozenAt (dSrc d) (srcExtent d)), s.frozenAt (dDst d) (dstExtent d) with
      | some p, _ => s.parkOnce m false p
      | none, some p => s.parkOnce m true p
      | none, none =>
        let s := s.idleAccess
        let s := if dOp d = 7 || (dSrc d).space ≠ 0 then s
          else ((s.readErrs (dSrc d).addr (srcExtent d) errs).dmaTouch m (dSrc d) (srcExtent d)).meetPoison (dSrc d).addr (srcExtent d)
        let s := s.dmaTouch m (dDst d) (dstExtent d) true
        let (s, r) := (dMoves d).foldl (State.dMove d host) (s, {})
        ((s.bump Dma.CLAMPS n r.clamps).dmaFinish n d (if r.poisoned then 5 else 0) r.bytes nextHost).decSweep

/-- A write to an object of 0x5300 to 0x5400. Firmware channels take from hosts only PLATFORM's DISABLE. -/
def dmaWrite (h col n v : Nat) (host : Bytes) (s : State) : Except Status State :=
  if col = APort.CAPO then (if v = 1 then capoSet h n s else capoClear n s)
  else if col = Dma.CMD then
    if n < 48 && !(v = 3 && h = 0) then .error .eAccess
    else if v = 1 then dmaStart n host s
    else if v = 2 then dmaStop n s
    else dmaDisable n host s
  else if col = Dma.HIGH || col = Dma.HEAD then
    if n < 48 then .error .eAccess
    else if s.rd Dma.STATE n = 0 || (col = Dma.HEAD && s.rd Dma.STATE n = 3) then .ok (s.wr col n v)
    else .error .eState
  else .ok (s.wr col n v)

/-! The commands. A firmware channel's START comes with the HEAD and HIGH that firmware has set. -/

def execCapoSet (h port : Nat) (s : State) : Out := live (hostWrite h APort.CAPO port 1 (capoSet h port)) s

def execCapoClear (h port : Nat) (s : State) : Out := live (hostWrite h APort.CAPO port 0 (capoClear port)) s

def execDrained (port : Fin 64) (s : State) : Out := live (drained port) s

def execArbCapoTimeout (port : Fin 64) (s : State) : Out := live (capoTimeout port) s

/-- START by the control processor's firmware. -/
def fwStart (n head : Nat) (high : Bool) (host : Bytes) (s : State) : State :=
  if 48 ≤ n || s.rd Dma.STATE n = 1 then s
  else
    let s := if s.rd Dma.STATE n = 2 then s else (s.wr Dma.HEAD n head).wr Dma.HIGH n high.toNat
    match dmaStart n host s with | .ok t => t | .error _ => s

def execDmaStart (h channel : Nat) (firmware : Option (Nat × Bool)) (host : Bytes) (s : State) : Out :=
  live (match firmware with
    | some (head, high) => fwStart channel (head % 2 ^ 64) high host
    | none => hostWrite h Dma.CMD channel 1 (dmaWrite h Dma.CMD channel 1 host)) s

/-- STOP by the control processor's firmware. -/
def fwStop (n : Nat) (s : State) : State := if 48 ≤ n then s else match dmaStop n s with | .ok t => t | .error _ => s

def execDmaStop (h channel : Nat) (firmware : Bool) (s : State) : Out :=
  live (if firmware then fwStop channel else hostWrite h Dma.CMD channel 2 (dmaWrite h Dma.CMD channel 2 [])) s

def execDmaDisable (h channel : Nat) (host : Bytes) (s : State) : Out :=
  live (hostWrite h Dma.CMD channel 3 (dmaWrite h Dma.CMD channel 3 host)) s

def execDmaDescriptorDone (channel : Fin 64) (host next : Bytes) (errs : List ReadErr) (s : State) : Out :=
  live (dmaDone channel host next errs) s

end Sys2Proof.Machine
end

