-- ==== Sys2Proof/Machine/Units.lean ====
section
/-! DEFINITION. Retirement of units (R267 to R270, R308, R327, R350, R447): DSP cores, clusters, decode cores, encode cores and
compositors. -/

namespace Sys2Proof.Machine

/-- The units with a CMD of their own: DSP cores, decode cores, encode cores, compositors. -/
inductive Unit_ where
  | dsp | vd | ve | cmp
  deriving DecidableEq, Repr

def unitOf (k : Nat) : Unit_ := match k with | 0 => .dsp | 1 => .vd | 2 => .ve | _ => .cmp

def Unit_.cmd : Unit_ → Nat
  | .dsp => Core.CMD | .vd => Vd.CMD | .ve => Ve.CMD | .cmp => Cmp.CMD
def Unit_.state : Unit_ → Nat
  | .dsp => Core.STATE | .vd => Vd.STATE | .ve => Ve.STATE | .cmp => Cmp.STATE

/-- Units of a kind in service. -/
def State.unitsIn (s : State) : Unit_ → Nat
  | .dsp => s.coresIn | .vd => s.vdIn | .ve => s.veIn | .cmp => s.cmpIn

/-- A unit retires for a cause of its chapter's table. -/
def State.retireUnit (s : State) (k : Unit_) (n cause : Nat) : State :=
  match k with
  | .dsp => (s.retireCore n cause).pumpAll
  | .vd => s.retireVd n cause
  | .ve => s.retireVe n cause
  | .cmp => s.retireCmp n cause

/-- CMD RETIRE: of a retired unit it changes nothing; of the last in service it fails. -/
def retire (k : Unit_) (n : Nat) (s : State) : Except Status State :=
  if s.rd k.state n ≠ 0 then .ok s
  else if s.unitsIn k = 1 then .error .eState
  else .ok (s.retireUnit k n 7)

/-- CMD UNRETIRE: a retired unit's self-test is due at the next reset. -/
def unretire (k : Unit_) (n : Nat) (s : State) : Except Status State :=
  if s.rd k.state n = 1 then .ok (s.wr k.state n 2) else .ok s

/-- A write of CMD of a unit. -/
def unitWrite (k : Unit_) (n v : Nat) (s : State) : Except Status State := if v = 1 then retire k n s else unretire k n s

/-- Errors counted within the latest 24 hours. -/
def State.inDay (s : State) (l : List Nat) : Nat := (l.filter (fun c => s.since c < cycDay)).length

/-- Does a unit meet a cause of its table (Tables 11.12, 14.5 and 15.8, R308)? A self-test that fails does so at reset. -/
def State.causeMet (s : State) (k : Unit_) (n cause : Nat) : Bool :=
  match k, cause with
  | .dsp, 1 => bitOf (s.rd Clu.BIST (n / 16)) (n % 16)
  | .dsp, 2 => 2 ≤ s.inDay (s.coreX n).iAt
  | .dsp, 3 => 3 ≤ s.inDay (s.coreX n).xyAt
  | .dsp, 4 => 2 ≤ s.inDay (s.coreX n).overAt
  | .dsp, 5 => 2 ≤ s.inDay (s.coreX n).faultAt
  | .vd, 2 => 2 ≤ s.inDay (s.vdX n).faultAt
  | .vd, 3 => 2 ≤ s.inDay (s.vdX n).memAt
  | .ve, 2 => 2 ≤ s.inDay (s.veX n).memAt
  | .ve, 3 => 2 ≤ s.inDay (s.veX n).faultAt
  | .cmp, 2 => 2 ≤ s.inDay (s.cmpX n).memAt
  | .cmp, 3 => 2 ≤ s.inDay (s.cmpX n).faultAt
  | _, _ => false

/-- UNIT_RETIREMENT: a unit that meets a cause of its table retires: kind 0 DSP core, 1 decode core, 2 encode core,
3 compositor, 4 cluster, after 3 shared-memory counts within 24 hours. -/
def unitRetirement (kind n cause : Nat) (s : State) : State :=
  if kind < 4 then (if s.causeMet (unitOf kind) n cause then s.retireUnit (unitOf kind) n cause else s)
  else if 3 ≤ s.inDay (s.cluX n).shmAt then (s.retireCluster n).pumpAll else s

/-! The end of a cycle. -/

/-- One cycle passes: while the control processor runs, what units retired in it still held is handed on; then local time and the
memory go on. -/
def advance (s : State) : State := cycle (if s.running then s.settleCores.settleVideo else s)

/-! The commands. -/

def execRetire (h : Nat) (kind : Fin 4) (unit_ : Nat) (s : State) : Out :=
  live (hostWrite h (unitOf kind).cmd unit_ 1 (retire (unitOf kind) unit_)) s

def execUnretire (h : Nat) (kind : Fin 4) (unit_ : Nat) (s : State) : Out :=
  live (hostWrite h (unitOf kind).cmd unit_ 2 (unretire (unitOf kind) unit_)) s

def execUnitRetirement (kind : Fin 5) (unit_ cause : Nat) (s : State) : Out := live (unitRetirement kind unit_ cause) s

end Sys2Proof.Machine
end

