-- ==== Sys2Proof/Machine/Xaras.lean ====
section
/-! DEFINITION. Xaras frames, sessions, rings and event delivery (R392 to R401, R411, R412), and the delivery of punts. -/

namespace Sys2Proof.Machine

/-! Frames (Tables 18.3 and 18.4): network order on MG0 and MG1, little-endian in host memory (R5). -/

/-- A field of n bytes at offset o, and n bytes of a number. -/
def fieldAt (be : Bool) (b : Bytes) (o n : Nat) : Nat := if be then beAt b o n else leAt b o n
def numBytes (be : Bool) (n v : Nat) : Bytes := if be then natBE n v else natLE n v

/-- A frame's header. -/
structure XHdr where
  kind : Nat
  slot : Nat
  prot : Bool
  len : Nat
  counter : Nat
  deriving DecidableEq, Repr

/-- The header of a frame that R392 does not discard. No PROTECTED frame is taken on PCIe (R396), so only a datagram's bytes
must hold a tag. -/
def xHeader (be : Bool) (b : Bytes) : Option XHdr :=
  let prot : Bool := byteAt b 3 % 2 == 1
  let len := fieldAt be b 4 2
  if b.length < 16 || byteAt b 0 ≠ 1 || 6 < byteAt b 1 || 7 < byteAt b 2 || byteAt b 3 / 2 ≠ 0 || fieldAt be b 6 2 ≠ 0 ||
      b.length < 16 + len + (if prot && be then 16 else 0) then none
  else some ⟨byteAt b 1, byteAt b 2, prot, len, fieldAt be b 8 8⟩

/-- A header. -/
def xHead (be : Bool) (kind slot : Nat) (prot : Bool) (len counter : Nat) : Bytes :=
  [1, BitVec.ofNat 8 kind, BitVec.ofNat 8 slot, if prot then 1 else 0] ++ numBytes be 2 len ++ [0, 0] ++ numBytes be 8 counter

/-- The GCM nonce of R199: direction 0 host to device, 1 device to host. -/
def xNonce (slot dir counter : Nat) : Bytes := natBE 1 slot ++ natBE 1 dir ++ [0, 0] ++ natBE 8 counter

/-- A protected frame from the device. -/
def sealFrame (key : Bytes) (kind slot counter : Nat) (body : Bytes) : Bytes :=
  let h := xHead true kind slot true body.length counter
  let r := gcmSeal key (xNonce slot 1 counter) h body
  h ++ r.1 ++ r.2

/-- The plaintext of a protected frame from a host; none where its tag fails. -/
def openFrame (key : Bytes) (x : XHdr) (b : Bytes) : Option Bytes :=
  gcmOpen key (xNonce x.slot 0 x.counter) (b.take 16) (slice b 16 x.len) (slice b (16 + x.len) 16)

/-- A RESPONSE body (Table 18.7). -/
def respBody (be : Bool) (reqId status : Nat) (pend : Bool) (rs : List OpRes) : Bytes :=
  numBytes be 4 reqId ++ natLE 1 status ++ natLE 1 pend.toNat ++ numBytes be 2 rs.length ++
    rs.flatMap (fun r => natLE 1 r.status ++ natLE 1 r.ty ++ numBytes be 2 r.val.length ++ padTo (roundUp 4 r.val.length) r.val)

/-! Slots. -/

def State.hostX (s : State) (h : Nat) : HostX := Tbl.get {} s.ctl.hosts h
def State.hostUpd (s : State) (h : Nat) (f : HostX → HostX) : State :=
  { s with ctl := { s.ctl with hosts := Tbl.upd {} s.ctl.hosts h f } }

/-- The session objects of Table 18.12. -/
def State.showSession (s : State) (h : Nat) : State :=
  let x := s.hostX h
  match x.open_ with
  | some q =>
    ((((((s.wr Slot.SESSION h 2).wr Slot.S_PORT h q.port).wr Slot.S_ADDR h q.addr).wr Slot.S_UDP h q.udp).wr
      Slot.TX_CTR h q.tx).wr Slot.RX_CTR h (q.rx.getD 0))
  | none =>
    ((((((s.wr Slot.SESSION h (if x.pend.isSome then 1 else 0)).wr Slot.S_PORT h 0).wr Slot.S_ADDR h 0).wr Slot.S_UDP h 0).wr
      Slot.TX_CTR h 0).wr Slot.RX_CTR h 0)

/-- The sessions of a slot change. -/
def State.sessUpd (s : State) (h : Nat) (f : HostX → HostX) : State := (s.hostUpd h f).showSession h

/-- A frame discarded and counted (R392, R399). -/
def State.discard (s : State) : State := s.bump Xar.DISCARDED 0

/-- The link-local address formed from a MAC address: fe80::/64 with the modified EUI-64 identifier. -/
def linkLocal (mac : Nat) : Nat :=
  let b := natLE 6 mac
  leNat ([0xFE, 0x80, 0, 0, 0, 0, 0, 0, (b.getD 0 0) ^^^ 2] ++ slice b 1 2 ++ [0xFF, 0xFE] ++ slice b 3 3)

/-- How a datagram of the device leaves an MG port (Table 18.11): its VLAN tag, and the next hop, the destination itself within the
port's prefix and else the gateway of its IP version. -/
def State.mgPath (s : State) (mg addr : Nat) : Nat × Nat :=
  let isV4 (a : Nat) : Bool := a % 2 ^ 96 == 0xFFFF * 2 ^ 80
  let num (a : Nat) : Nat := beNat (natLE 16 a)
  let same (own len : Nat) : Bool := num addr / 2 ^ (128 - len) == num own / 2 ^ (128 - len)
  let near : Bool := if isV4 addr then same (0xFFFF * 2 ^ 80 + s.rd Mg.IPV4 mg * 2 ^ 96) (96 + s.rd Mg.IPV4_PLEN mg)
    else same (s.rd Mg.IPV6 mg) (s.rd Mg.IPV6_PLEN mg) || same (linkLocal (s.rd Mg.MAC mg)) 64
  let gw := s.rd Mg.GATEWAY mg
  (s.rd Mg.VLAN mg, if near || gw == 0 || isV4 gw != isV4 addr then addr else gw)

/-- A RESPONSE in clear, with no results (R398, R400, R401). -/
def State.clearAnswer (s : State) (mg addr udp slot status : Nat) : State :=
  let b := respBody true 0 status false []
  s.emit (.xaras mg (s.mgPath mg addr) addr udp (xHead true 4 slot false b.length 0 ++ b))

/-! Sending in a session (R198 to R200). -/

/-- Each counter of a session that reaches 2^47 is reported once (R200). -/
def State.rekeyWarn (s : State) (h : Nat) : State :=
  match (s.hostX h).open_ with
  | some q =>
    let tx : Bool := !q.warnedTx && 2 ^ 47 ≤ q.tx
    let rx : Bool := !q.warnedRx && 2 ^ 47 ≤ q.rx.getD 0
    let s := if tx || rx then
      s.sessUpd h (fun x => { x with open_ := some { q with warnedTx := q.warnedTx || tx, warnedRx := q.warnedRx || rx } }) else s
    let s := if tx then s.raise Ev.SESSION_REKEY_WARN h toPlatform 0 else s
    if rx then s.raise Ev.SESSION_REKEY_WARN h toPlatform 0 else s
  | none => s

/-- The CLOSE body (Table 18.4). -/
def closeBody (reason : Nat) : Bytes := natBE 1 reason ++ [0, 0, 0]

/-- A frame on the OPEN session: its counter, and the next. A counter of 2^48 - 1 is never used: the session that reaches it
closes, with a CLOSE that no counter is left to protect. -/
def State.sendSess (s : State) (h kind : Nat) (body : Bytes) : State :=
  match (s.hostX h).open_ with
  | none => s
  | some q =>
    let s := s.emit (.xaras q.port (s.mgPath q.port q.addr) q.addr q.udp (sealFrame q.txKey kind h q.tx body))
    if q.tx + 1 = indexLast false then
      let s := s.emit (.xaras q.port (s.mgPath q.port q.addr) q.addr q.udp (xHead true 6 h false 4 0 ++ closeBody 6))
      s.sessUpd h (fun x => { x with open_ := none })
    else (s.sessUpd h (fun x => { x with open_ := some { q with tx := q.tx + 1 } })).rekeyWarn h

/-- The OPEN session ends, its host told why. -/
def State.closeOpen (s : State) (h reason : Nat) : State :=
  if (s.hostX h).open_.isNone then s
  else (s.sendSess h 6 (closeBody reason)).sessUpd h (fun x => { x with open_ := none })

/-- Both sessions of a slot end. -/
def State.closeSlot (s : State) (h reason : Nat) : State :=
  (s.closeOpen h reason).sessUpd h (fun x => { x with pend := none })

/-- The sessions set up on an MG port end (R413). -/
def State.closePort (s : State) (mg reason : Nat) : State :=
  (List.range 8).foldl (fun s h =>
    let x := s.hostX h
    let s := match x.open_ with | some q => if q.port = mg then s.closeOpen h reason else s | none => s
    match x.pend with
    | some q => if q.port = mg then s.sessUpd h (fun x => { x with pend := none }) else s
    | none => s) s

/-- Every session's keys are cleared; nothing is sent (Table 18.10). -/
def State.clearSessions (s : State) : State :=
  (List.range 8).foldl (fun s h => s.sessUpd h (fun x => { x with open_ := none, pend := none })) s

/-! HELLO (R398). -/

/-- Does a datagram reach Xaras on its MG port: port enabled, an address of Table 18.11, its VLAN or untagged (R395)? -/
def State.mgTakes (s : State) (d : Datagram) : Bool :=
  let m := d.mg.val
  let v4 := s.rd Mg.IPV4 m
  s.on Mg.ENABLE m && (d.vlan == 0xFFFF || d.vlan == s.rd Mg.VLAN m) &&
    ((v4 != 0 && d.dst == 0xFFFF * 2 ^ 80 + v4 * 2 ^ 96) || (s.rd Mg.IPV6 m != 0 && d.dst == s.rd Mg.IPV6 m) ||
      d.dst == linkLocal (s.rd Mg.MAC m))

/-- A refused HELLO is answered in clear, at most 10 per second and port. -/
def State.helloRefused (s : State) (d : Datagram) (slot status : Nat) : State :=
  let m := d.mg.val
  let l := (Tbl.get [] s.ctl.helloAt m).filter (fun c => s.since c < cycS)
  if 10 ≤ l.length then s
  else
    let s : State := { s with ctl := { s.ctl with helloAt := Tbl.set [] s.ctl.helloAt m (s.phys :: l) } }
    s.clearAnswer m d.src d.sport slot status

/-- A HELLO frame. -/
def hello (d : Datagram) (s : State) : State :=
  if !s.mgTakes d || d.dport ≠ s.rd Xar.UDP_PORT 0 then s
  else match xHeader true d.bytes with
  | none => s.discard
  | some x =>
    if x.kind ≠ 1 then s
    else if x.prot || x.len ≠ 16 || x.counter ≠ 0 || !allZero (slice d.bytes 24 8) then s.discard
    else
      let h := x.slot
      let k := s.rd SKek.SESSION_KEK h
      let peer := s.rd Slot.PEER h
      if !bitOf (s.rd Slot.MG_ALLOWED h) d.mg.val || !(peer == 0 || peer == d.src) then s.helloRefused d h Status.eAccess.code
      else if k = 0xFF || s.rd Kek.STATE k ≠ 1 then s.helloRefused d h Status.eKey.code
      else
        let (dn, s) := s.draw 64
        let hn := slice d.bytes 16 8
        let keys := sessionKeys (s.kekBytes k) h (natBE 8 dn) hn
        let q : SessX := { port := d.mg, addr := d.src, udp := d.sport, devUdp := d.dport, hnonce := beNat hn, dnonce := dn,
                           rxKey := keys.1, txKey := keys.2, tx := 1, rx := none, fails := 0, atC := s.phys,
                           replies := [] }
        let head := xHead true 2 h false 16 0
        let body := natBE 8 dn ++ hn
        let tag := gcmTag keys.2 (xNonce h 1 0) (head ++ body) []
        (s.sessUpd h (fun x => { x with pend := some q })).emit (.xaras d.mg (s.mgPath d.mg d.src) d.src d.sport (head ++ body ++ tag))

/-! Frames of a session (R398, R399). -/

/-- Does a session belong to the sender of a datagram? -/
def SessX.fits (q : SessX) (d : Datagram) : Bool := q.port == d.mg.val && q.addr == d.src && q.udp == d.sport && q.devUdp == d.dport

/-- A tag that fails: counted; a PENDING session is dropped after 16; the host of an OPEN one is told, at most 10 times per
second. -/
def State.tagFailed (s : State) (h : Nat) (o p : Option SessX) : State :=
  let s := s.bump Slot.AUTH_FAIL h
  let s := match p with
    | some q => s.sessUpd h (fun x => { x with pend := if 16 ≤ q.fails + 1 then none else some { q with fails := q.fails + 1 } })
    | none => s
  match o with
  | none => s
  | some q =>
    let l := (s.hostX h).errAt.filter (fun c => s.since c < cycS)
    if 10 ≤ l.length then s
    else (s.hostUpd h (fun x => { x with errAt := s.phys :: l })).clearAnswer q.port q.addr q.udp h Status.eAuth.code

/-- The first valid REQUEST of a PENDING session opens it; the slot's earlier session is replaced. -/
def State.openPending (s : State) (h : Nat) (q : SessX) : State :=
  let s := s.closeOpen h 3
  (s.sessUpd h (fun x => { x with open_ := some { q with rx := some 0, atC := s.phys }, pend := none })).raise
    Ev.XARAS_SESSION_OPEN h toPlatform q.port

/-- A protected frame: the state after its checks, and its plaintext where the session takes it. -/
def State.sessRx (s : State) (x : XHdr) (d : Datagram) : State × Option Bytes :=
  let h := x.slot
  let o := (s.hostX h).open_.filter (fun q => q.fits d)
  let p := (s.hostX h).pend.filter (fun q => q.fits d)
  if o.isNone && p.isNone then (s.discard, none)
  else if 16384 < x.len then
    (match o with
      | some q => s.clearAnswer q.port q.addr q.udp h Status.eLength.code
      | none => s.discard, none)
  else match o.bind (fun q => (openFrame q.rxKey x d.bytes).map (fun b => (q, b))) with
  | some (q, b) =>
    if x.counter ≤ q.rx.getD 0 then (s.bump Slot.REPLAYS h, none)
    else if indexLast false ≤ x.counter then
      ((s.sendSess h 4 (respBody true 0 Status.eExhausted.code false [])).closeOpen h 6, none)
    else ((s.sessUpd h (fun y => { y with open_ := some { q with rx := some x.counter, atC := s.phys } })).rekeyWarn h, some b)
  | none =>
    match p.bind (fun q => (openFrame q.rxKey x d.bytes).map (fun b => (q, b))) with
    | some (q, b) => if x.counter = 0 && x.kind = 3 then (s.openPending h q, some b) else (s.discard, none)
    | none => (s.tagFailed h o p, none)

/-- A CLOSE frame of a host: its OPEN session ends, and nothing is sent. -/
def hostClose (d : Datagram) (s : State) : State :=
  if !s.mgTakes d then s
  else match xHeader true d.bytes with
  | none => s.discard
  | some x =>
    if x.kind ≠ 6 then s
    else if !x.prot then s.discard
    else
      let r := s.sessRx x d
      match r.2 with
      | some b =>
        if b.length = 4 && byteAt b 0 = 1 && allZero (b.drop 1) then r.1.sessUpd x.slot (fun y => { y with open_ := none })
        else r.1.discard
      | none => r.1

/-- An OPEN session is silent for SESSION_TIMEOUT. -/
def sessionTimeout (h : Nat) (s : State) : State :=
  match (s.hostX h).open_ with
  | some q => if s.rd Xar.SESSION_TIMEOUT 0 * cycMs ≤ s.since q.atC then s.closeOpen h 2 else s
  | none => s

/-- A session is still PENDING 2 s after its HELLO. -/
def pendingExpiry (h : Nat) (s : State) : State :=
  match (s.hostX h).pend with
  | some q => if 2 * cycS ≤ s.since q.atC then s.sessUpd h (fun x => { x with pend := none }) else s
  | none => s

/-! Rings (R396). -/

def State.ring (s : State) (h r : Nat) : RingX := Tbl.get {} (s.hostX h).rings r
def State.ringUpd (s : State) (h r : Nat) (f : RingX → RingX) : State :=
  s.hostUpd h (fun x => { x with rings := Tbl.upd {} x.rings r f })

/-- Bytes that may be written to a ring; one granule stays free, so that a full ring is not an empty one. -/
def RingX.room (r : RingX) : Nat := r.size - (r.tail + r.size - r.head) % r.size - 1

/-- TAIL moves: its shadow is written, and the ring's MSI-X message follows. -/
def State.ringTail (s : State) (h r t : Nat) : State :=
  let s := s.ringUpd h r (fun x => { x with tail := t % x.size })
  let x := s.ring h r
  let s := if x.shadow = 0 then s else s.emit (.hostWrite h x.shadow (natLE 4 x.tail))
  s.emit (.msix h x.vector)

/-- Post an entry, rounded up to `grain` bytes; an entry that would wrap is preceded by padding to the ring's end. None
where the ring is disabled or has no room. -/
def State.ringPost (s : State) (h r grain : Nat) (b pad : Bytes) : Option State :=
  let x := s.ring h r
  let n := roundUp grain b.length
  let wrap : Bool := decide (x.size < x.tail + n)
  let need := n + (if wrap then x.size - x.tail else 0)
  if !x.enable || x.room < need then none
  else
    let s := if wrap then s.emit (.hostWrite h (x.base + x.tail) pad) else s
    let at_ := if wrap then 0 else x.tail
    some ((s.emit (.hostWrite h (x.base + at_) b)).ringTail h r (at_ + n))

/-- A frame on ring 1; its PAD frame spans the rest of the ring. -/
def State.postFrame (s : State) (h : Nat) (b : Bytes) : Option State :=
  let x := s.ring h 1
  s.ringPost h 1 64 b (xHead false 0 h false (x.size - x.tail - 16) 0)

/-- Held RESPONSEs are posted in order while they fit. -/
def State.postHeld (s : State) (h : Nat) : Nat → State
  | 0 => s
  | n + 1 =>
    match (s.hostX h).held with
    | [] => s
    | b :: rest =>
      match s.postFrame h b with
      | some t => (t.hostUpd h (fun x => { x with held := rest })).postHeld h n
      | none => s

/-- A RESPONSE frame of PFh: posted, or held until the ring has room; lost where the ring is disabled. -/
def State.postResponse (s : State) (h : Nat) (b : Bytes) : State :=
  if !(s.ring h 1).enable then s
  else if (s.hostX h).held ≠ [] then s.hostUpd h (fun x => { x with held := x.held ++ [b] })
  else match s.postFrame h b with
    | some t => t
    | none => s.hostUpd h (fun x => { x with held := [b] })

/-- The host's write of HEAD of ring 1, 2 or 3. -/
def ringHead (h r v : Nat) (s : State) : State :=
  let x := s.ring h r
  if h < 8 && 1 ≤ r && r ≤ 3 && v < x.size then
    (s.ringUpd h r (fun x => { x with head := v })).postHeld h (s.hostX h).held.length
  else s

/-- The host's write of CTRL of ring r, with the BASE, SIZE, VECTOR and SHADOW that stand in its registers. An enabled ring
starts empty; BASE and SIZE outside Table 18.9 enable nothing. -/
def ringCtrl (h r : Nat) (enable : Bool) (base size vector shadow : Nat) (s : State) : State :=
  let sizeOk : Bool := (List.range 9).any (fun i => size == 65536 * 2 ^ i)
  if 8 ≤ h || 4 ≤ r then s
  else if enable && (s.ring h r).enable then s
  else if enable && !(base % 64 == 0 && sizeOk && vector ≤ 3) then s
  else
    let s := if enable then
        s.ringUpd h r (fun _ => ⟨base % 2 ^ 64, size, 0, 0, vector, true, shadow % 2 ^ 64⟩)
      else s.ringUpd h r (fun x => { x with enable := false })
    let s := if r = 0 then (s.hostUpd h (fun x => { x with unread := [] })).wr Slot.PCIE h enable.toNat else s
    if r = 1 then s.hostUpd h (fun x => { x with held := [] }) else s

/-- The host's doorbell: TAIL of ring 0, and the bytes of the ring up to it. -/
def doorbell (h tail : Nat) (b : Bytes) (s : State) : State :=
  let x := s.ring h 0
  if h < 8 && x.enable && tail < x.size then
    let n := (tail + x.size - x.tail) % x.size
    (s.ringUpd h 0 (fun x => { x with tail := tail })).hostUpd h (fun y => { y with unread := y.unread ++ padTo n (b.take n) })
  else s

/-- The REQ ring's HEAD moves on by n bytes. -/
def State.reqConsumed (s : State) (h n : Nat) : State :=
  let s := s.hostUpd h (fun x => { x with unread := x.unread.drop n })
  let s := s.ringUpd h 0 (fun x => { x with head := (x.head + n) % x.size })
  let x := s.ring h 0
  if x.shadow = 0 then s else s.emit (.hostWrite h x.shadow (natLE 4 x.head))

/-- PCIE_PERST_N: the endpoint's rings and functions end (R471). -/
def perstN (s : State) : State :=
  (List.range 8).foldl (fun s h =>
    (s.hostUpd h (fun x => { x with rings := [], unread := [], held := [] })).wr Slot.PCIE h 0) s

/-! Event delivery (R411, R412). -/

/-- Reverse the bytes of the fields listed. -/
def swapFields (fs : List (Nat × Nat)) (b : Bytes) : Bytes :=
  fs.foldl (fun b f => b.take f.1 ++ (slice b f.1 f.2).reverse ++ b.drop (f.1 + f.2)) b

/-- A record in network order. -/
def EvRec.wire (r : EvRec) : Bytes :=
  swapFields ([(0, 10), (10, 2), (12, 2), (16, 4)] ++ (evFields r.code).map (fun f => (20 + f.1, f.2))) r.bytes

/-- Deliver up to 32 records waiting for slot h, by the route EV_ROUTE selects. -/
def eventDelivery (h : Nat) (s : State) : State :=
  let q := Tbl.get [] s.ev.waiting h
  let now := q.take 32
  if 8 ≤ h || now = [] then s
  else
    let route := s.rd Slot.EV_ROUTE h
    let s : State := { s with ev := { s.ev with waiting := Tbl.set [] s.ev.waiting h (q.drop 32) } }
    -- by UDP: one frame
    let l := (Tbl.get [] s.ev.udpAt h).filter (fun c => s.since c < cycS)
    let hseq := Tbl.get 0 s.ev.hseq h
    let byUdp : Bool := route != 0 && (s.hostX h).open_.isSome && decide (l.length < 1000)
    let s := if byUdp then
        ({ s with ev := { s.ev with udpAt := Tbl.set [] s.ev.udpAt h (s.phys :: l) } } : State).sendSess h 5
          (natBE 4 hseq ++ natBE 2 now.length ++ [0, 0] ++ now.flatMap (fun r => r.1.wire))
      else s
    -- by PCIe: one entry per record
    now.foldl (fun s r =>
      let posted := if route = 1 then none else s.ringPost h 2 32 r.1.bytes []
      let s := posted.getD s
      if byUdp || posted.isSome then
        { s with ev := { s.ev with hseq := Tbl.upd 0 s.ev.hseq h (fun n => (n + 1) % 2 ^ 32) } }
      else s.bump Slot.EV_LOST h) s

/-- A read of EV_REC by slot h: the first record in the ring from EV_SEL on that is told to it. -/
def State.evRecTake (s : State) (h : Nat) : Bytes × State :=
  let s := s.idleAccess
  match s.ev.ring.reverse.find? (fun r => decide ((s.hostX h).evSel ≤ r.seq) && (h == 0 || bitOf r.hosts h)) with
  | some r => (r.bytes, s.hostUpd h (fun x => { x with evSel := (r.seq + 1) % 2 ^ 32 }))
  | none => (List.replicate 32 0, s)

def evRecRead (h : Nat) (s : State) : State := let r := s.evRecTake h; r.2.emit (.value h r.1)

/-! The bulk window (R397). -/

def windowRead (h a n : Nat) (errs : List ReadErr) (s : State) : State :=
  if s.mayRead h a n then let r := s.idleAccess.fetchBytes 20 a n errs; r.2.emit (.window h r.1)
  else (s.bump Slot.WIN_FAULT h).emit (.window h (List.replicate n 0))

def windowWrite (h a : Nat) (b : Bytes) (s : State) : State :=
  if s.mayWrite h a b.length then s.idleAccess.storeBytesAt 20 a b else s.bump Slot.WIN_FAULT h

/-! Punts (R101, R102). -/

/-- The frame at the head of slot h's punt queue is delivered, or dropped where its route cannot carry it or its ring is full. -/
def puntDeliver (h : Nat) (s : State) : State :=
  match (s.puntQ h).queue with
  | [] => s
  | x :: rest =>
    let s := (s.puntUpd h (fun q => { q with queue := rest })).wr Punt.QUEUED h rest.length
    let seq := ((s.puntQ h).seq + 1) % 2 ^ 32
    let sent : Option State :=
      if s.rd Punt.ROUTE h = 0 then s.ringPost h 3 64 (puntHeader false x seq ++ x.raw) [0]
      else match (s.hostX h).open_ with
        | some q => some (s.emit (.punted q.port (s.mgPath q.port q.addr) q.addr q.udp (puntHeader true x seq ++ x.raw)))
        | none => none
    match sent with
    | some t => (t.bump Punt.SENT h).puntUpd h (fun q => { q with seq := seq })
    | none => s.bump Punt.DROPS h

/-! The commands. -/

def execHello (datagram : Datagram) (s : State) : Out := live (hello datagram) s

def execHostCloseFrame (datagram : Datagram) (s : State) : Out := live (hostClose datagram) s

def execSessionTimeout (slot : Fin 8) (s : State) : Out := live (sessionTimeout slot) s

def execPendingSessionExpiry (slot : Fin 8) (s : State) : Out := live (pendingExpiry slot) s

def execPcieDoorbell (h tail : Nat) (bytes : Bytes) (s : State) : Out := live (doorbell h tail bytes) s

def execRingHeadWrite (h ring head : Nat) (s : State) : Out := live (ringHead h ring head) s

def execRingCtrlWrite (h ring : Nat) (enable : Bool) (base size vector shadow : Nat) (s : State) : Out :=
  live (ringCtrl h ring enable base size vector shadow) s

def execPciePerstN (s : State) : Out := live perstN s

def execEventDelivery (slot : Fin 8) (s : State) : Out := live (eventDelivery slot) s

def execEvRecRead (h : Fin 8) (s : State) : Out := live (evRecRead h) s

def execBulkWindowRead (h : Fin 8) (address length : Nat) (errs : List ReadErr) (s : State) : Out :=
  live (windowRead h address length errs) s

def execBulkWindowWrite (h : Fin 8) (address : Nat) (bytes : Bytes) (s : State) : Out := live (windowWrite h address bytes) s

def execPuntDeliver (slot : Fin 8) (s : State) : Out := live (puntDeliver slot) s

end Sys2Proof.Machine
end

