-- ==== Sys2Proof/Machine/Power.lean ====
section
/-! DEFINITION. Power states, domains, resets and boot, the supply monitor, life counters and thermal events
(chapter 19). -/

namespace Sys2Proof.Machine

/-! Table 19.2: what refuses a lower power state. -/

/-- Is any Fret port, serial audio or AES3 port, clock output or media logical port enabled? -/
def State.portsUsed (s : State) : Bool :=
  s.column Fret.ENABLE != [] || s.column Sap.ENABLE != [] || s.column Aesi.ENABLE != [] || s.column Aeso.ENABLE != [] ||
    s.column AClk.MCLK_MODE != [] || s.column AClk.WCLK_ON != [] || s.column Lp.ENABLE != []

/-- The conditions of Table 19.2 that refuse IDLE. -/
def State.idleBarred (s : State) : Bool := s.portsUsed || s.unitsUsed

/-- The conditions that refuse STANDBY with E_STATE. -/
def State.standbyBarred (s : State) : Bool := s.idleBarred || s.mediaUsed || s.ctl.deferred != []

/-- Is WAKE_AT at or before the present? -/
def State.wakePassed (s : State) : Bool :=
  bitOf (s.rd Pwr.WAKE_SRC 0) 0 && s.rd Pwr.WAKE_AT 0 != 0 && decide (ofTime80 (s.rd Pwr.WAKE_AT 0) ≤ s.clk)

/-! Domains (R420 to R422). -/

/-- The parts that IDLE powers down beside MEM. -/
def fastParts : List Nat :=
  (List.range 8).map cluPart ++ (List.range 16).map vdPart ++ (List.range 16).map vePart ++ (List.range 8).map cmpPart ++
    [netPart, audPart, schedPart]

/-- Channels whose transfers touch a part: MEM every channel's, a cluster those of its shared memory. -/
def State.channelsOn (s : State) (k : Nat) : List Nat :=
  (s.elemsWith Dma.STATE 1).filter (fun n =>
    k == memPart || (dClusters (s.dmaX n).desc).any (fun c => cluPart c == k))

/-- Does a work item run on a cluster's part? -/
def State.itemsOn (s : State) (k : Nat) : Bool := s.sch.items.any (fun i => i.phase == 2 && cluPart (i.core / 16) == k)

/-- Transfers or work still on a part. SCHED serves every unit that is still powered (R34), and MEM every other fast part
(R35). -/
def State.partBusy (s : State) (k : Nat) : Bool :=
  s.channelsOn k != [] || s.itemsOn k || (k == schedPart && s.anyOn 16 64) ||
    (k == memPart && fastParts.any (fun j => s.part j != 0))

/-- A part moves to DRAINING: its channels pause at their descriptor boundaries. -/
def State.drainPart (s : State) (k : Nat) : State :=
  ((s.channelsOn k).foldl (fun s n => s.dmaUpd n (fun x => { x with part := some k })) (s.setPart k 3)).giveMovers

/-- An M object's value once the writes held by a supply warning are made. -/
def State.heldValue (s : State) (col el : Nat) : Nat :=
  match (s.ctl.held.flatMap (·.ops)).reverse.find? (fun o => !o.reads && o.w.col == col && o.w.el == el) with
  | some o => o.w.val
  | none => s.rd col el

/-- Add to a counter that the device keeps in MRAM. -/
def State.lifeAdd (s : State) (col n : Nat) : State :=
  if n = 0 then s else s.ownWrite col 0 ((s.heldValue col 0 + n) % 2 ^ colBits col)

/-- The 16 counts of TJ_HIST with the whole hours of each bin added. -/
def tjHistAdd (v : Nat) (mins : Tbl Nat) : Nat :=
  sumOf ((List.range 16).map (fun k => (bitsOf v (32 * k) 32 + Tbl.get 0 mins k / 60) % 2 ^ 32 * 2 ^ (32 * k)))

/-- The life counters' whole hours are added to MRAM and the fractions kept (R441). A supply warning holds the write back. -/
def State.lifeWrite (s : State) : State :=
  if s.ctl.mramHold then s
  else
  let p := s.pwr
  let hist := tjHistAdd (s.heldValue Life.TJ_HIST 0) p.binMin
  let s := (s.lifeAdd Life.POWER_ON_H (p.minutes / 60)).lifeAdd Life.HBM_HOT_H (p.hotMin / 60)
  let s := if hist = s.heldValue Life.TJ_HIST 0 then s else s.ownWrite Life.TJ_HIST 0 hist
  { s with pwr := { s.pwr with
      minutes := p.minutes % 60
      hotMin := p.hotMin % 60
      binMin := (p.binMin.map (fun r => (r.1, r.2 % 60))).filter (fun r => r.2 != 0)
      lifeAt := s.phys } }

/-- STANDBY (Table 19.1): life counters written, sessions sent CLOSE 5, the real-time clock reloaded, and every part but
AON off. -/
def State.enterStandby (s : State) : State :=
  let s := s.lifeWrite
  let s := ((List.range 8).foldl (fun s h => s.closeSlot h 5) s).rtcLoad
  let s := (s.pwr.part.map (·.1)).foldl (fun s k => if k = 9 then s else s.setPart k 0) s
  let s : State := { s with
    mem := { s.mem with selfRefresh := true }
    pwr := { s.pwr with toIdle := false, toStandby := false } }
  s.wr Pwr.PSTATE 0 2

/-- The HBM_PWR_EN pin (R462): low in STANDBY. -/
def State.hbmPwrEn (s : State) : Bool := !s.standby

/-- IDLE, or STANDBY where that was asked for, once every part has drained. -/
def State.enterLower (s : State) : State :=
  if !s.pwr.toIdle || fastParts.any (fun k => s.part k != 0) || s.part memPart = 3 then s
  else if s.pwr.toStandby then s.enterStandby
  else
    let s : State := { s with pwr := { s.pwr with toIdle := false } }
    (if s.mem.selfRefresh then s else s.enterSelfRefresh).wr Pwr.PSTATE 0 1

/-- A power-down towards IDLE or STANDBY: parts with transfers or work drain, the others go off at once. -/
def State.beginLower (s : State) (standby : Bool) : State :=
  let s : State := { s with pwr := { s.pwr with toIdle := true, toStandby := standby } }
  let s := fastParts.foldl (fun s k =>
    if s.part k = 0 then s else if s.partBusy k then s.drainPart k else s.setPart k 0) s
  let s := if s.partBusy memPart then s.drainPart memPart else s
  s.enterLower

/-- A write of PSTATE_REQ. STANDBY is entered after its RESPONSE. -/
def pstateWrite (v : Nat) (s : State) : Except Status State :=
  if v = 0 then
    if s.rd Pwr.PSTATE 0 = 1 && !s.hbmUp then .error .eState else .ok s.toActive
  else if v = 1 then
    if s.idleBarred then .error .eState else .ok (if s.rd Pwr.PSTATE 0 = 1 then s else s.beginLower false)
  else
    guarded [(s.standbyBarred, .eState), (s.wakePassed, .eLate)]
      (.ok { s with ctl := { s.ctl with after := s.ctl.after ++ [.standby] } })

/-- A domain or gated part has ramped: it is ON, and what was paused for it goes on. -/
def domainWake (k : Nat) (s : State) : State := if s.part k = 1 then (s.setPart k 2).resumeFor k else s

/-- The power-down condition of Table 19.6. NET also stays with the paths of Table 1.11 that need it (R34, R422). -/
def State.mayPowerDown (s : State) (k : Nat) : Bool :=
  if k = netPart then
    s.column Lp.ENABLE == [] && s.column Fret.ENABLE == [] && !(List.range 18).any (fun p => s.on Ptp.ENABLE p) &&
      !s.anyOn 32 40 && !s.audioWork
  else if k = schedPart then !(s.anyOn 16 64) && decide (100 * cycMs ≤ s.since s.pwr.usedAt)
  else if k = audPart then
    s.column Sap.ENABLE == [] && s.column Aesi.ENABLE == [] && s.column Aeso.ENABLE == [] && s.column AClk.MCLK_MODE == [] &&
      s.column AClk.WCLK_ON == []
  else if 32 ≤ k && k < 48 then s.rd Vd.SESSIONS (k - 32) == 0
  else if 48 ≤ k && k < 64 then s.rd Ve.SESSIONS (k - 48) == 0
  else if 64 ≤ k && k < 72 then s.rd Cmp.OUTPUTS (k - 64) == 0
  else false

/-- DOMAIN_POWER_DOWN: a domain that is ON and meets its condition drains. -/
def domainDown (k : Nat) (s : State) : State := if s.part k = 2 && s.mayPowerDown k then s.drainPart k else s

/-- DOMAIN_DRAINED: once nothing touches it any more, the part is OFF. -/
def domainDrained (k : Nat) (s : State) : State :=
  if s.part k ≠ 3 || s.partBusy k then s
  else if k = memPart then s.enterSelfRefresh.enterLower
  else (s.setPart k 0).enterLower

/-- Cycles since a cluster's latest work. -/
def State.idleFor (s : State) (c : Nat) : Nat := s.since (Tbl.get {} s.sch.clus c).workAt

/-- CLUSTER_CLOCK_GATE: 10 ms without work stop a cluster's clock. -/
def clockGate (c : Nat) (s : State) : State :=
  if s.part (cluPart c) = 2 && !s.partBusy (cluPart c) && decide (10 * cycMs ≤ s.idleFor c) then s.setPart (cluPart c) 4 else s

/-- CLUSTER_POWER_GATE: after 100 ms without work a clock-gated cluster drains. -/
def powerGate (c : Nat) (s : State) : State :=
  if s.part (cluPart c) = 4 && decide (100 * cycMs ≤ s.idleFor c) then s.drainPart (cluPart c) else s

/-- SELF_REFRESH_RETURN: in IDLE, 1 ms after the latest access. -/
def selfRefreshReturn (s : State) : State :=
  if s.rd Pwr.PSTATE 0 = 1 && !s.mem.selfRefresh && decide (cycMs ≤ s.since s.mem.hbmAt) then s.enterSelfRefresh else s

/-! The supply monitor (R423 to R425). -/

/-- Warning and reset levels and hysteresis of Table 19.7, mV: VDD_CORE, VDD_SRAM, VDD_AON, VDD_HBM, VDDIO, VDDIO_AON. -/
def supplyLevels (k : Nat) : Nat × Nat × Nat :=
  [(705, 675, 10), (752, 720, 10), (705, 675, 10), (1045, 1000, 15), (1710, 1620, 20), (1710, 1620, 20)].getD k (0, 0, 0)

/-- The supplies of the Soundpost, monitored in every state; at their reset level they reset the Soundpost. -/
def alwaysOn (k : Nat) : Bool := k == 2 || k == 5

def State.monitored (s : State) (k : Nat) : Bool := alwaysOn k || !s.standby

/-- A dip has ended: counted, with its duration and minimum. -/
def State.dipEnds (s : State) (us mv : Nat) : State :=
  ((s.bump Pwr.DIPS 0).wr Pwr.DIP_MS 0 (ceilDiv us 1000 % 2 ^ 32)).wr Pwr.DIP_MIN_MV 0 (mv % 65536)

/-- SUPPLY_WARN: 8 samples of a supply lie below its warning level. The dip runs from the first of them. -/
def supplyWarn (k mv : Nat) (s : State) : State :=
  let s := if k = 0 && !s.standby then s.wr Pwr.VCORE_MV 0 (mv % 65536) else s
  if !s.monitored k || (supplyLevels k).1 ≤ mv then s
  else
    match Tbl.get (0, 0) s.pwr.dips k with
    | (0, _) =>
      let s : State := { s with
        pwr := { s.pwr with dips := Tbl.set (0, 0) s.pwr.dips k (1 + (s.phys - 320), mv) }
        ctl := { s.ctl with mramHold := true } }
      if s.running then s.raise Ev.SUPPLY_WARN 0 toPlatform k else s
    | (c, m) => { s with pwr := { s.pwr with dips := Tbl.set (0, 0) s.pwr.dips k (c, min m mv) } }

/-! Boot (R428 to R432). -/

/-- Fields of Table 19.9, in network order, and what R429 asks of a header. -/
def imgVersion (x : ImageX) : Nat := beAt x.header 8 4
def imgRollback (x : ImageX) : Nat := beAt x.header 12 2
def imgValid (x : ImageX) : Bool :=
  let b := x.header
  let s1 := beAt b 16 4
  let main := beAt b 20 4
  b.length == 256 && b.take 4 == [0x42, 0x58, 0x4E, 0x46] && byteAt b 4 == 1 && allZero (slice b 5 3) && allZero (slice b 14 2) &&
    allZero (slice b 24 8) && allZero (slice b 224 32) && s1 % 64 == 0 && main % 64 == 0 && decide (4096 ≤ s1) &&
    decide (s1 ≤ 1048576) && decide (s1 + main ≤ 16776960) && x.sigOk

/-- choose_image of R429. -/
def chooseImage (b : Boot) (floor : Nat) (bad : List Nat) : Option (Nat × ImageX) :=
  [(0, b.a), (1, b.b)].foldl (fun best c =>
    if bad.contains c.1 || !imgValid c.2 || imgRollback c.2 < floor then best
    else match best with
      | none => some c
      | some x => if imgVersion x.2 < imgVersion c.2 then some c else some x) none

/-- The image that loads, and the slots whose digest failed on the way. -/
def bootImage (b : Boot) (floor : Nat) : Option (Nat × ImageX) × List Nat :=
  match chooseImage b floor [] with
  | none => (none, [])
  | some x =>
    if x.2.digestOk then (some x, [])
    else match chooseImage b floor [x.1] with
      | none => (none, [x.1])
      | some y => if y.2.digestOk then (some y, [x.1]) else (none, [x.1, y.1])

/-- What the boot ROM reads of a slot once its header is chosen: stage 1, then the main part. -/
def slotReads (b : Boot) (k : Nat) : List Emission :=
  let h := (if k = 0 then b.a else b.b).header
  let at_ := k * 0x1000000 + 256
  [.xspiRead 200 at_ (beAt h 16 4), .xspiRead 200 (at_ + beAt h 16 4) (beAt h 20 4)]

/-- The boot ROM's reads of the flash (R428, R429): SFDP, both headers, and the slots tried. -/
def State.bootReads (s : State) (b : Boot) (tried : List Nat) : State :=
  (([.xspiSfdp 50, .xspiRead 200 0 256, .xspiRead 200 0x1000000 256] : List Emission) ++ tried.flatMap (slotReads b)).foldl (fun s e => s.emit e) s

/-- XSPI_RST_N is driven low for 10 µs at each reset, before the first command (R469). -/
def State.xspiReset (s : State) : State := s.emit (.xspiReset 10000)

/-- What an uncorrectable MRAM word costs (Table 20.1): a KEK slot, the journal's record, or an object's stored value. -/
def State.mramLoses (s : State) (e : MramErr) : State :=
  let col := e.index * 256 + e.sub
  if e.region = 2 then (if e.element < 16 then s.kekEmpty e.element else s)
  else if e.region = 3 then { s with pwr := { s.pwr with journal := [] } }
  else if (e.region = 1 || e.region = 4) && persists col then s.wr col e.element (dflt col e.element)
  else s

/-- Units under self-test: column of STATE and of CAUSE, and their number. -/
def testedUnits (k : Nat) : Nat × Nat × Nat :=
  match k with
  | 0 => (Core.STATE, Core.CAUSE, 128) | 1 => (Vd.STATE, Vd.CAUSE, 16) | 2 => (Ve.STATE, Ve.CAUSE, 16)
  | _ => (Cmp.STATE, Cmp.CAUSE, 8)

/-- Does a unit fail self-test? A cluster that fails takes its cores with it. -/
def failsTest (failed : List (Nat × Nat)) (k n : Nat) : Bool := failed.contains (k, n) || (k == 0 && failed.contains (4, n / 16))

/-- Units that were retired with their self-test due return to service where they pass it, and stay retired where not. -/
def State.retest (s : State) (failed : List (Nat × Nat)) (k : Nat) : State :=
  let u := testedUnits k
  (s.elemsWith u.1 2).foldl (fun s n =>
    if failsTest failed k n then (s.wr u.1 n 1).wr u.2.1 n 1 else (s.wr u.1 n 0).wr u.2.1 n 0) s

/-- Cores in service of each cluster. -/
def State.showClusters (s : State) : State :=
  (List.range 8).foldl (fun s c =>
    s.wr Clu.IN_SERVICE c ((List.range 16).filter (fun k => s.rd Core.STATE (16 * c + k) == 0)).length) s

/-- Self-test of every unit (R427). -/
def State.selfTest (s : State) (failed : List (Nat × Nat)) : State :=
  let s := ((List.range 4).foldl (fun s k => s.retest failed k) s).showClusters
  let s := (List.range 8).foldl (fun s c => if failed.contains (4, c) then s.retireCluster c 1 else s) s
  let s := (List.range 128).foldl (fun s n => if failed.contains (0, n) then s.retireUnit .dsp n 1 else s) s
  let s := (List.range 16).foldl (fun s n => if failed.contains (1, n) then s.retireUnit .vd n 1 else s) s
  let s := (List.range 16).foldl (fun s n => if failed.contains (2, n) then s.retireUnit .ve n 1 else s) s
  let s := (List.range 8).foldl (fun s n => if failed.contains (3, n) then s.retireUnit .cmp n 1 else s) s
  (List.range 8).foldl (fun s c =>
    s.wr Clu.BIST c (sumOf ((List.range 16).map (fun k => if failsTest failed 0 (16 * c + k) then 2 ^ k else 0)))) s

/-- What a reset keeps: M objects, MRAM's other contents, the Soundpost's registers, and the model's own record. A
power-on reset loses the Soundpost's registers too. The local clock follows R79. -/
def State.wiped (s : State) (powerOn : Bool) : State :=
  let rtc := if powerOn then 0 else s.rtcNow
  let valid : Bool := !powerOn && s.tim.rtcValid
  let clk := if powerOn then 0 else s.clockFromRtc.clk
  let s : State :=
    { od := s.keepCols persists
      clk := clk
      phys := s.phys
      draws := s.draws
      pending := s.pending
      out := s.out
      ev := { log := s.ev.log, logAt := s.ev.logAt }
      cip := { kek := s.cip.kek, sealKey := s.cip.sealKey }
      tim := { rtc := rtc
               rtcAt := s.phys
               rtcValid := valid
               rtcSec := clk / secU
               block := TickX.start blockGrid (clk / nsU) }
      pwr :=
        { dips := s.pwr.dips
          sampleAt := s.pwr.sampleAt
          lifeAt := s.pwr.lifeAt
          minutes := if powerOn then 0 else s.pwr.minutes
          hotMin := if powerOn then 0 else s.pwr.hotMin
          binMin := if powerOn then [] else s.pwr.binMin
          lo := if powerOn then none else s.pwr.lo
          warned := s.pwr.warned
          limited := s.pwr.limited
          floor := s.pwr.floor
          words := s.pwr.words
          budgetAt := s.pwr.budgetAt
          provEn := s.pwr.provEn
          journal := s.pwr.journal
          resetAt := s.phys } }
  s.wr Clk.TIME_VALID 0 valid.toNat

/-- Step 9: the writes that came with a life-cycle transition are applied (R402, R408, R435). -/
def State.applyJournal (s : State) : State :=
  let ws := s.pwr.journal
  let s : State := { s with pwr := { s.pwr with journal := [] } }
  ws.foldl (fun s w =>
    if w.col = Kek.KEY then
      match kekKeyWrite w.el (s.lenAfter w.el ws) w.val s with
      | .ok t => t
      | .error _ => s
    else s.wr w.col w.el w.val) s

/-- M objects that are enabled after a reset demand their domains, and unicast PTP ports ask their grantors. -/
def State.demandEnabled (s : State) : State :=
  let s := (List.range 20).foldl (fun s p => s.negotiate p) s
  if !s.hbmUp then s
  else
    let s := if s.column Lp.ENABLE != [] || (List.range 18).any (fun p => s.on Ptp.ENABLE p) then s.demand netPart else s
    if s.column AClk.MCLK_MODE != [] || s.column AClk.WCLK_ON != [] then s.demand audPart else s

/-- From step 3 of Tables 19.10 and 19.11 to IDLE; `wake` names the source of a wake from STANDBY. -/
def State.bootUp (s : State) (cause : Nat) (wake : Option Nat) (b : Boot) : State :=
  let r := bootImage b s.pwr.floor
  let s := s.bootReads b (r.2 ++ (r.1.map (·.1)).toList)
  match r.1 with
  | none =>
    { s with
      ctl := { s.ctl with bootHalt := true }
      pwr := { s.pwr with retryAt := s.phys, bootCause := cause, waking := wake } }
  | some x =>
    let s : State := { s with
      ctl := { s.ctl with bootHalt := false }
      pwr := { s.pwr with floor := max s.pwr.floor (imgRollback x.2), waking := none } }
    let s := (s.wr Ident.FW_VERSION 0 (imgVersion x.2)).wr Pwr.RESET_CAUSE 0 cause
    -- MRAM (R437, Table 20.1)
    let s := (b.mram.foldl (fun s e => s.mramLoses e) s).applyJournal
    let factBad : Bool := s.rd Cal.FACT_STATE 0 != 0 && (!b.factoryOk || b.mram.any (fun e => e.region == 0))
    let s := if s.rd Cal.FACT_STATE 0 = 0 then s else s.wr Cal.FACT_STATE 0 (if factBad then 2 else 1)
    -- HBM, cipher engine, units
    let s := s.train false b.training
    let (k, s) := s.draw 256
    let s : State := { s with cip := { s.cip with ick := k } }
    let s := if wake.isSome then s.showClusters else s.selfTest b.failed
    -- IDLE
    let s := s.wr Ident.PROV_MODE 0 (s.rd Ident.LC_STATE 0 == 1 && s.pwr.provEn).toNat
    let s := (s.setPart 8 2).setPart 9 2
    let s := ((if s.mem.selfRefresh then s else s.enterSelfRefresh).wr Pwr.PSTATE 0 1).ptpStates
    let s := b.mram.foldl (fun s e => s.raise Ev.MRAM_UE 0 toPlatform (e.region % 256 + 2 ^ 32 * (e.offset % 2 ^ 32))) s
    let s := if factBad then s.raise Ev.FACT_CAL_BAD 0 toPlatform 0 else s
    let s := r.2.foldl (fun s n => s.raise Ev.BOOT_FALLBACK 0 toPlatform n) s
    let s := match wake with
      | some w => s.raise Ev.STANDBY_WAKE 0 toPlatform w
      | none => s.raiseAt Ev.DEVICE_RESET (if cause = 3 || cause = 4 then 2 else 0) 0 toPlatform cause s.now80
    let s := if b.safetyLow then pinEngage s else s
    s.demandEnabled

/-- Dips that a reset ends are recorded; a power-on reset loses them. -/
def State.settleDips (s : State) (powerOn : Bool) : State :=
  let s := if powerOn then s
    else s.pwr.dips.foldl (fun s r => s.dipEnds (s.since (r.2.1 - 1) / cycUs) r.2.2) s
  { s with pwr := { s.pwr with dips := [] } }

/-- A reset (R426, R427). -/
def State.resetFor (s : State) (cause : Nat) (b : Boot) : State :=
  ((s.settleDips (cause == 0)).wiped (cause == 0)).xspiReset.bootUp cause none b

/-- A wake from STANDBY (R432). -/
def State.wakeFrom (s : State) (source : Nat) (b : Boot) : State :=
  let cause := s.rd Pwr.RESET_CAUSE 0
  let dips := s.pwr.dips
  let hold := s.ctl.mramHold
  let s := s.wiped false
  ({ s with pwr := { s.pwr with dips := dips }, ctl := { s.ctl with mramHold := hold } } : State).bootUp cause (some source) b

/-- A wake source fires. While STANDBY is being entered the entry completes first (R418). -/
def State.wakeBy (s : State) (source : Nat) (b : Boot) : State :=
  if s.standby then s.wakeFrom source b
  else if s.pwr.toStandby then s.enterStandby.wakeFrom source b
  else s

/-- Does STANDBY, or its entry, listen for wake sources? -/
def State.asleep (s : State) : Bool := s.standby || s.pwr.toStandby

/-- The real-time clock has reached WAKE_AT. -/
def wakeAt (b : Boot) (s : State) : State :=
  let t := s.rd Pwr.WAKE_AT 0
  if s.asleep && bitOf (s.rd Pwr.WAKE_SRC 0) 0 && t ≠ 0 && ofTime80 t * 32768 / secU ≤ s.rtcNow then s.wakeBy 0 b else s

/-- A rising edge on TIN0 with the pin high for at least 1 µs. -/
def tin0Wake (highNs : Nat) (b : Boot) (s : State) : State :=
  if s.asleep && bitOf (s.rd Pwr.WAKE_SRC 0) 1 && 1000 ≤ highNs then s.wakeBy 1 b else s

/-- Do the first 256 bytes of a payload hold six bytes 0xFF and a MAC address sixteen times after them? -/
def wakePattern (mac payload : Bytes) : Bool :=
  let want := List.replicate 6 (0xFF : Byte) ++ (List.replicate 16 mac).flatten
  let p := payload.take 256
  (List.range 155).any (fun o => slice p o 102 == want)

/-- A frame on MG0 with the wake pattern. `dst` is its destination, an OCTETS(6) number. -/
def mg0Wake (dst : Nat) (payload : Bytes) (b : Boot) (s : State) : State :=
  let mac := s.rd Mg.MAC 0
  if s.asleep && bitOf (s.rd Pwr.WAKE_SRC 0) 2 && (dst = mac || dst = 2 ^ 48 - 1) && wakePattern (natLE 6 mac) payload then
    s.wakeBy 2 b
  else s

/-- SAFETY_N low for 100 µs: engages, or wakes from STANDBY and then engages. -/
def safetyLow (b : Boot) (s : State) : State :=
  if s.asleep then s.wakeBy 3 { b with safetyLow := true } else if s.running then pinEngage s else s

/-- PORST_N low for `lowNs`. Between 1 and 10 µs the spec states no result: either happens. -/
def porstN (lowNs : Nat) (b : Boot) (s : State) : State :=
  let go (s : State) : State :=
    ({ s with pwr := { s.pwr with provEn := b.provEn } } : State).resetFor 1 b
  if 10000 ≤ lowNs then go s
  else if lowNs < 1000 then s
  else
    let (d, s) := s.draw 1
    if d = 1 then go s else s

/-- A supply at or below its reset level; `minMv` and `durUs` are what the Soundpost kept of the dip. -/
def supplyReset (k minMv durUs : Nat) (b : Boot) (s : State) : State :=
  if !s.monitored k || (supplyLevels k).2.1 < minMv then s
  else if alwaysOn k then ({ s with pwr := { s.pwr with provEn := b.provEn } } : State).resetFor 0 b
  else
    let s : State := { s with pwr := { s.pwr with dips := s.pwr.dips.filter (fun r => r.1 ≠ k) } }
    ((((s.settleDips false).dipEnds durUs minMv).wiped false).xspiReset.bootUp 3 none b)

/-- The boot ROM tries both slots again after 10 s (R430). -/
def bootRetry (b : Boot) (s : State) : State :=
  if s.ctl.bootHalt && decide (10 * cycS ≤ s.since s.pwr.retryAt) then s.bootUp s.pwr.bootCause s.pwr.waking b else s

/-! Life-cycle and restore (R433 to R439). -/

/-- Objects of the factory and life regions of Table 19.13, and those of the key region. -/
def keptCol (col : Nat) : Bool :=
  [Ident.VENDOR, Ident.PART, Ident.SERIAL, Ident.SILICON, Ident.LC_STATE, Mg.MAC, Fret.LOCAL_MAC, TsCor.FACT_RX, TsCor.FACT_TX,
    Cal.FACT_STATE, Pwr.DIPS, Pwr.DIP_MS, Pwr.DIP_MIN_MV, Life.POWER_ON_H, Life.THERMAL_CYCLES, Life.TJ_HIST, Life.MRAM_WEAR,
    Life.HBM_HOT_H, Life.LOG_COUNT, Svc.FATALS, Svc.LAST_ERROR, Kek.WRITES, Alarm.CAUSE, Alarm.COUNT, Alarm.LAST,
    Ros.ENGAGES].contains col

def keyCol (col : Nat) : Bool := (col / 256 == Kek.index && col != Kek.WRITES) || col / 256 == SKek.index

/-- The user region is set: every other M object to its Default. -/
def State.userDefaults (s : State) : State :=
  { s with od := s.keepCols (fun c => !persists c || keptCol c || keyCol c) }

/-- The key region is zeroised. -/
def State.wipeKeys (s : State) : State :=
  let (k, s) := s.draw 256
  { s with
    od := s.keepCols (fun c => !keyCol c)
    cip := { s.cip with kek := [], sealKey := k } }

/-- Steps 3 and 4 of a transition (R435), and its reset. The other writes, journalled, follow at the reset's step 9. -/
def State.transit (s : State) (target : Nat) (ws : List WriteOp) (b : Boot) : State :=
  let from_ := s.rd Ident.LC_STATE 0
  let s := ((s.wipeKeys.userDefaults).wr Ident.LC_STATE 0 target).raise Ev.LC_TRANSITION 0 toPlatform (from_ + 256 * target)
  ({ s with pwr := { s.pwr with journal := ws } } : State).resetFor 5 b

/-- Objects that factory programming writes. -/
def factoryCol (col : Nat) : Bool :=
  [Ident.PART, Ident.SERIAL, Ident.SILICON, Mg.MAC, Fret.LOCAL_MAC, TsCor.FACT_RX, TsCor.FACT_TX].contains col

/-- FACTORY_PROGRAMMING: a BLANK part becomes MANUFACTURED. -/
def factoryProgram (l : List ObjWrite) (s : State) : State :=
  if s.rd Ident.LC_STATE 0 ≠ 0 then s
  else
    let s := l.foldl (fun s w =>
      let col := w.index * 256 + w.sub
      match colRow col with
      | some r => if factoryCol col && w.element < elementCount w.index && formOk r.ty w.value then s.wr col w.element w.value else s
      | none => s) s
    (s.wr Cal.FACT_STATE 0 1).wr Ident.LC_STATE 0 1

/-! Temperature and life counters (R440, R441). -/

/-- The levels in force: without factory data THERM_LIMIT is treated as 95 °C (Table 19.14). -/
def State.thermWarnAt (s : State) : Int := s.rdI Cal.THERM_WARN 0
def State.thermLimitAt (s : State) : Int := if s.rd Cal.FACT_STATE 0 = 1 then s.rdI Cal.THERM_LIMIT 0 else 95

/-- A level that has been reported is armed again 5 °C below it. -/
def State.thermArm (s : State) (tj : Int) : State :=
  { s with pwr := { s.pwr with
      warned := s.pwr.warned && decide (s.thermWarnAt - 5 < tj)
      limited := s.pwr.limited && decide (s.thermLimitAt - 5 < tj) } }

/-- THERM_WARN: the hottest sensor reads tj. -/
def thermWarn (sensor : Nat) (tj : Int) (s : State) : State :=
  let s := s.thermArm tj
  if s.pwr.warned || tj < s.thermWarnAt then s
  else ({ s with pwr := { s.pwr with warned := true } } : State).raise Ev.THERM_WARN sensor toPlatform (ofInt 8 (satInt 8 tj))

/-- THERM_LIMIT. -/
def thermLimit (sensor : Nat) (tj : Int) (s : State) : State :=
  let s := s.thermArm tj
  if s.pwr.limited || tj < s.thermLimitAt then s
  else ({ s with pwr := { s.pwr with limited := true } } : State).raise Ev.THERM_LIMIT sensor toPlatform (ofInt 8 (satInt 8 tj))

/-- The bin of TJ_HIST of a temperature. -/
def tjBin (tj : Int) : Nat := if tj < -30 then 0 else if 110 ≤ tj then 15 else ((tj + 40) / 10).toNat

/-- LIFE_COUNTER_SAMPLE, once per minute: the hottest sensor, VDD_CORE, SYSCLK's deviation, and the writes of the
most-written MRAM word. -/
def lifeSample (tj : Int) (mv : Nat) (ppm : Int) (wear : Nat) (s : State) : State :=
  if s.since s.pwr.sampleAt < 60 * cycS then s
  else
    let hot : Bool := !s.standby && [0, 1].any (fun k => decide (85 < s.rdI Stk.TEMP k))
    let lo := min (s.pwr.lo.getD tj) tj
    let s : State := { s with pwr := { s.pwr with
      sampleAt := s.phys
      minutes := s.pwr.minutes + (if 720 ≤ mv && mv ≤ 780 then 1 else 0)
      hotMin := s.pwr.hotMin + hot.toNat
      binMin := Tbl.upd 0 s.pwr.binMin (tjBin tj) (· + 1)
      lo := some (if 40 ≤ tj - lo then tj else lo) } }
    let s := if 40 ≤ tj - lo then s.lifeAdd Life.THERMAL_CYCLES 1 else s
    if !s.running then s
    else
      let s := ((s.wrI Pwr.TJ_MAX 0 tj).wr Pwr.VCORE_MV 0 (mv % 65536)).wrI Pwr.SYSCLK_PPM 0 ppm
      let s := s.thermArm tj
      let old := s.heldValue Life.MRAM_WEAR 0
      let w := min 65535 (wear / 10000)
      let s := if w = old then s else s.ownWrite Life.MRAM_WEAR 0 w
      if old < 8000 && 8000 ≤ w then s.raise Ev.MRAM_WEAR_WARN 0 toPlatform w else s

/-- LIFE_COUNTER_WRITE, once per hour. -/
def lifeHour (s : State) : State :=
  if s.since s.pwr.lifeAt < 3600 * cycS then s else s.lifeWrite

/-! The commands. -/

def execPstateReqActive (h : Nat) (s : State) : Out := live (hostWrite h Pwr.PSTATE_REQ 0 0 (pstateWrite 0)) s

def execPstateReqIdle (h : Nat) (s : State) : Out := live (hostWrite h Pwr.PSTATE_REQ 0 1 (pstateWrite 1)) s

def execIdleHbmAccess (s : State) : Out := live State.idleAccess s

def execSelfRefreshReturn (s : State) : Out := live selfRefreshReturn s

def execWakeAtExpiry (boot : Boot) (s : State) : Out := .next (wakeAt boot s)

def execTin0Wake (highNs : Nat) (boot : Boot) (s : State) : Out := .next (tin0Wake highNs boot s)

def execMg0WakeFrame (dst : Nat) (payload : Bytes) (boot : Boot) (s : State) : Out := .next (mg0Wake dst payload boot s)

def execPinEngage (boot : Boot) (s : State) : Out := .next (safetyLow boot s)

def execDomainWake (part : Nat) (s : State) : Out := live (domainWake part) s

def execDomainPowerDown (part : Nat) (s : State) : Out := live (domainDown part) s

def execDomainDrained (part : Nat) (s : State) : Out := live (domainDrained part) s

def execClusterClockGate (cluster : Fin 8) (s : State) : Out := live (clockGate cluster) s

def execClusterPowerGate (cluster : Fin 8) (s : State) : Out := live (powerGate cluster) s

def execSupplyWarn (supply : Fin 6) (mv : Nat) (s : State) : Out := .next (supplyWarn supply mv s)

def execSupplyReset (supply : Fin 6) (minMv durUs : Nat) (boot : Boot) (s : State) : Out :=
  .next (supplyReset supply minMv durUs boot s)

def execPowerOn (boot : Boot) (s : State) : Out :=
  .next (({ s with pwr := { s.pwr with provEn := boot.provEn } } : State).resetFor 0 boot)

def execPorstNReset (lowNs : Nat) (boot : Boot) (s : State) : Out := .next (porstN lowNs boot s)

def execWatchdog (boot : Boot) (s : State) : Out := live (fun s => s.resetFor 4 boot) s

def execBootRetry (boot : Boot) (s : State) : Out := .next (bootRetry boot s)

def execFactoryProgramming (objects : List ObjWrite) (s : State) : Out := live (factoryProgram objects) s

def execThermWarn (sensor : Nat) (tj : Int) (s : State) : Out := live (thermWarn sensor tj) s

def execThermLimit (sensor : Nat) (tj : Int) (s : State) : Out := live (thermLimit sensor tj) s

def execLifeCounterSample (tj : Int) (vcoreMv : Nat) (ppm : Int) (wear : Nat) (s : State) : Out :=
  .next (lifeSample tj vcoreMv ppm wear s)

def execLifeCounterWrite (s : State) : Out := .next (lifeHour s)

end Sys2Proof.Machine
end

