-- ==== Sys2Proof/Machine/Read.lean ====
section
/-! DEFINITION. What a READ returns (R78, R391, R394, R413): the stored value, or for objects that show other state the
value computed when the read is executed. -/

namespace Sys2Proof.Machine

/-- U32 counts side by side. -/
def words32 (l : List Nat) : Nat := leNat (l.flatMap (natLE 4))

/-- LOG_REC: record number n since manufacture stands at index n mod 4,096. -/
def State.logRecAt (s : State) (i : Nat) : Nat :=
  let c := s.rd Life.LOG_COUNT 0
  if c ≤ i then 0 else match s.ev.log[(c - 1 - i) % 4096]? with | some r => r.toNat | none => 0

/-- HEALTH. -/
def State.health (s : State) : Nat :=
  if !s.hbmUp then 2
  else if s.coresIn < 128 || s.vdIn < 16 || s.veIn < 16 || s.cmpIn < 8 || s.rd Hbm.FENCED 0 != 0 then 1 else 0

/-- Chapter 2 and 4: counts and sums over the tables. -/
def State.readTables (s : State) (col el : Nat) : Option Nat :=
  if col = Leg.SOURCES then some (s.sourcesOf el).length
  else if col = Leg.SUBS then some (s.subsOfLeg el).length
  else if col = Conf.MEMBERS then some (s.members el).length
  else if col = Conf.GROUPS then some (s.groupsOf el).length
  else if col = Src.LAYERS then some (s.layersOf el)
  else if col = Layer.PRESENT then some (s.layerPresent (el / 16) (el % 16)).toNat
  else if col = Layer.KBPS then some (s.kbps (el / 16) (el % 16) % 2 ^ 32)
  else if col = Cap.DSP_CAP then some (s.cap .dsp)
  else if col = Cap.VDEC_CAP then some (s.cap .vdec)
  else if col = Cap.VENC_CAP then some (s.cap .venc)
  else if col = Cap.CMP_CAP then some (s.cap .cmp)
  else if col = Cap.LEGS_USED then some (s.column Leg.STATE).length
  else if col = Cap.CONFS_USED then some (s.column Conf.STATE).length
  else if col = Cap.SRCS_USED then some (s.column Src.STATE).length
  else if col = Cap.SUBS_USED then some (s.column Sub.STATE).length
  else if col = Meter.TC then some ((s.meterX el).tc / tokB)
  else if col = Meter.TP then some ((s.meterX el).tp / tokB)
  else none

/-- Chapters 3, 5, 7, 9 and 10. -/
def State.readMedia (s : State) (frame : Nat) (col el : Nat) : Option Nat :=
  if col = Clk.NOW then some s.now80
  else if col = TsCor.FACT_RX then some (ofInt 32 (s.factRx el))
  else if col = TsCor.FACT_TX then some (ofInt 32 (s.factTx el))
  else if col = Clk.HOLDOVER_S then
    some (if s.rd Clk.STATE 0 = 3 then s.since s.tim.holdoverAt / cycS % 2 ^ 32 else 0)
  else if col = FSlot.SLOT_NOW then some (slotNumber (s.rd FSlot.OFFSET el) (s.rd FSlot.MU el) s.ns)
  else if col = SrcFwd.SMODE then some (s.smode el)
  else if col = Sub.CUR_LAYER then some (s.curLayer el)
  else if col = SubFwd.SWITCHES then
    some ((s.rd SubFwd.SWITCHES el + (s.curLayer el != s.rd Sub.CUR_LAYER el).toNat) % 2 ^ 32)
  else if col = SubFwd.TARGET then some (s.bestLayer el)
  else if col = Mos.VIEWERS then
    some (if s.rd Mos.STATE el = 0 then 0 else (s.subsOfSource (s.rd Mos.OUT_SOURCE el)).length)
  else if col = LegGrp.TOKENS then some (ofInt 64 (s.grpTokens el))
  else if col = Shp.TOKENS then some (ofInt 64 (s.legTokens el))
  else if col = ACfg.ECOST then some (s.cfgCost el)
  else if col = ACfg.USERS then some (s.cfgUsers el)
  else if col = Mix.ENCODES then some (s.privateCount el + (s.liveGroups el).length)
  else if col = Sap.STATE then some (s.portShown el frame)
  else if col = Aeso.STATE then some (s.portShown (24 + el) frame)
  else if col = Sap.FRAME then
    some (if s.rd Sap.STATE el = 0 then s.rd col el else s.frameOf el frame % 2 ^ 32)
  else if col = Aeso.FRAME then
    some (if s.rd Aeso.STATE el = 0 then s.rd col el else s.frameOf (24 + el) frame % 2 ^ 32)
  else none

/-- Chapters 12 to 17. -/
def State.readUnits (s : State) (col el : Nat) : Option Nat :=
  if col = Sch.READY then some (words32 ((List.range 8).map s.readyCount))
  else if col = Trc.RING_ADDR then some traceRingAt
  else if col = Lay.SCALERS then some (if s.rd Lay.KIND el = 0 then 0 else s.scalersOf el)
  else if col = Ros.SWITCHED then
    some (s.videoSubs.filter (fun h => (Tbl.get none s.ros.subs h).isSome)).length
  else if col = Cmp.LAYERS then some (s.cmpLayers el)
  else if col = Cmp.SCALERS then some (s.cmpScalers el)
  else if col = Hbm.POOL_FREE_MIB then some (s.poolFree / 2 ^ 20)
  else if col = Dma.OWNER then some ((chanHost el).getD 0xFF)
  else none

/-- What PFh reads of its BAR0 at offset 132: PSTATE, TIME_VALID, and media disabled for want of HBM (Table 18.9). At 128 it reads h. -/
def State.pfStatus (s : State) : Nat := s.rd Pwr.PSTATE 0 % 4 + 4 * (s.on Clk.TIME_VALID 0).toNat + 8 * (!s.hbmUp).toNat

/-- Chapter 18. -/
def State.readControl (s : State) (h col el : Nat) : Option Nat :=
  if col = Ident.UPTIME_S then some (s.since s.pwr.resetAt / cycS)
  else if col = Slot.PENDING then some (s.ctl.deferred.filter (fun t => t.slot == el)).length
  else if col = Life.CALENDAR then some s.calendar
  else if col = Life.EV_SEL then some (s.hostX h).evSel
  else if col = Life.EV_NEXT then some ((s.ev.seq + 1) % 2 ^ 32)
  else if col = Life.LOG_REC then some (s.logRecAt (s.rd Life.LOG_SEL 0))
  else if col = Svc.HEALTH then some s.health
  else if col = Svc.DSP_SVC then some s.coresIn
  else if col = Svc.VD_SVC then some s.vdIn
  else if col = Svc.VE_SVC then some s.veIn
  else if col = Svc.CMP_SVC then some s.cmpIn
  else if col = Svc.PC_SVC then some (s.rd Hbm.IN_SERVICE 0)
  else none

/-- The value that host h reads of an object, and the state after: two objects are consumed by reading. -/
def State.readObj (s : State) (frame h col el : Nat) : Nat × State :=
  if col = Tin.READ then let r := tinTake el s; (leNat r.1, r.2)
  else if col = Life.EV_REC then let r := s.evRecTake h; (leNat r.1, r.2)
  else if s.hiddenCount col el then (0, s)
  else match s.readTables col el, s.readMedia frame col el, s.readUnits col el, s.readControl h col el with
    | some v, _, _, _ => (v, s)
    | none, some v, _, _ => (v, s)
    | none, none, some v, _ => (v, s)
    | none, none, none, some v => (v, s)
    | none, none, none, none => (s.rd col el, s)

/-- The value bytes of a result (R5, R391): numbers in the route's order, a STRING without its padding. -/
def valueBytes (be : Bool) (t : Ty) (v : Nat) : Bytes :=
  match t with
  | .octets n => natLE n v
  | .string n => (natLE n v).takeWhile (fun b => b != 0)
  | .blob => []
  | t => numBytes be t.size v

end Sys2Proof.Machine
end

