-- ==== Sys2Proof/Machine/Apply.lean ====
section
/-! DEFINITION. What a write does (R404 to R406): the chapter's operation for every writable object, the checks that
stand on what a whole transaction leaves, and security alarms (R194 to R196, R410). -/

namespace Sys2Proof.Machine

/-- Does a route carry network order (R5)? -/
def RouteX.be : RouteX → Bool
  | .pcie _ => false
  | _ => true

/-! Answers. -/

/-- A RESPONSE to a request by its route (R394, R399). Results that would pass the largest body are left out and the answer
is E_LENGTH. -/
def State.answer (s : State) (r : ReqX) (status : Nat) (pend : Bool) (rs : List OpRes) : State :=
  let whole := respBody r.route.be r.reqId status pend rs
  let body := if 16384 < whole.length then respBody r.route.be r.reqId Status.eLength.code pend [] else whole
  match r.route with
  | .row =>
    s.emit (.status r.slot (match rs.find? (fun x => x.status != 0 && x.status != Status.eTxn.code) with
      | some x => x.status
      | none => status))
  | .pcie h => s.postResponse h (xHead false 4 h false body.length 0 ++ body)
  | .udp h dn =>
    match (s.hostX h).open_ with
    | some q =>
      if q.dnonce = dn then
        (s.sessUpd h (fun x => { x with open_ := some { q with replies := ((r.reqId, body) :: q.replies).take 16 } })).sendSess
          h 4 body
      else s
    | none => s
  | .clear mg addr udp => s.emit (.xaras mg (s.mgPath mg addr) addr udp (xHead true 4 r.slot false body.length 0 ++ body))

/-- The type code of an object; 0 where it does not exist. -/
def tyCode (col : Nat) : Nat := match colRow col with | some r => r.ty.code | none => 0

/-- A result without a value. -/
def resOfOp (o : OpX) (code : Nat) : OpRes := ⟨code, tyCode o.w.col, []⟩

/-- A transaction that fails in operation i. -/
def txnFailed (ops : List OpX) (i code : Nat) : List OpRes :=
  ops.zipIdx.map (fun p => resOfOp p.1 (if p.2 = i then code else Status.eTxn.code))

def State.reqX (s : State) (k : Nat) : Option ReqX := Tbl.get none s.ctl.reqs k
def State.setReq (s : State) (k : Nat) (r : Option ReqX) : State :=
  { s with ctl := { s.ctl with reqs := Tbl.set none s.ctl.reqs k r } }

/-- What the operations of a request leave to follow its RESPONSE falls due. -/
def State.dueAfter (s : State) (l : List AfterX) : State := { s with ctl := { s.ctl with after := s.ctl.after ++ l } }

/-- A request is answered and forgotten. -/
def State.closeReq (s : State) (k : Nat) (r : ReqX) (status : Nat) (pend : Bool) (rs : List OpRes) : State :=
  ((s.setReq k none).answer r status pend rs).dueAfter r.after

/-- A request whose last result is known is answered. -/
def State.finishReq (s : State) (k : Nat) : State :=
  match s.reqX k with
  | none => s
  | some r =>
    if r.results.length = r.ops.length && r.results.all (·.isSome) then
      let rs := r.results.filterMap id
      let status := match rs.find? (fun x => x.status != 0) with
        | some x => if r.txn then Status.eTxn.code else x.status
        | none => 0
      s.closeReq k r status false rs
    else s

/-- A result becomes known. -/
def State.setResult (s : State) (k i : Nat) (x : OpRes) : State :=
  match s.reqX k with
  | some r => s.setReq k (some { r with results := r.results.set i (some x) })
  | none => s

/-! Security alarms. -/

/-- Does a list of operations hold an INSTALL? -/
def hasInstall (l : List WriteOp) : Bool := l.any (fun w => w.col == Ctx.INSTALL)

/-- XARAS_TXN_APPLIED of a deferred transaction: its REQ_ID, status and failed operation. -/
def State.txnReport (s : State) (t : PTxn) (status idx : Nat) : State :=
  s.raise Ev.XARAS_TXN_APPLIED t.slot (toSlot t.slot) (t.reqId + 2 ^ 32 * status + 2 ^ 48 * (idx % 2 ^ 16))

/-- The resource of a reservation's key. -/
def resOf (k : Nat) : Res := match k % 4 with | 0 => .dsp | 1 => .vdec | 2 => .venc | _ => .cmp

/-- Reserved charges are given back, or charged again. -/
def State.unreserve (s : State) (r : Tbl Nat) : State :=
  r.foldl (fun s x => s.chargeBy (x.1 / 4) (resOf x.1) (-(x.2 : Int))) s

/-- Does a held transaction hold an INSTALL? -/
def HeldX.installs (x : HeldX) : Bool := hasInstall ((x.ops.filter (fun o => !o.reads)).map (·.w))

/-- A held transaction ends with E_TXN: the operation that it is, or its whole request. -/
def State.abortHeld (s : State) (x : HeldX) : State :=
  let s := s.unreserve x.reserved
  match x.req, x.idx with
  | some k, some i => (s.setResult k i (match x.ops with | o :: _ => resOfOp o Status.eTxn.code | [] => ⟨Status.eTxn.code, 0, []⟩)).finishReq k
  | some k, none => match s.reqX k with
    | some r => s.closeReq k r Status.eTxn.code false (r.ops.map (fun o => resOfOp o Status.eTxn.code))
    | none => s
  | none, _ => s

/-- Transactions that hold an INSTALL and have not reached their commit point, deferred ones and those that a supply
warning holds, end with E_TXN (R196). -/
def State.abortInstalls (s : State) : State :=
  let ts := s.ctl.deferred.filter (fun t => hasInstall t.writes)
  let hs := s.ctl.held.filter (·.installs)
  let s : State := { s with ctl := { s.ctl with
    deferred := s.ctl.deferred.filter (fun t => !hasInstall t.writes)
    held := s.ctl.held.filter (fun x => !x.installs) } }
  let s := ts.foldl (fun s t => (s.unreserve t.reserved).txnReport t Status.eTxn.code 0) s
  hs.foldl (fun s x => s.abortHeld x) s

/-- A security alarm with its CAUSE bits (R194, R195). It acts in every power state. -/
def State.alarm (s : State) (cause : Nat) : State :=
  let s := ((s.wr Alarm.CAUSE 0 cause).bump Alarm.COUNT 0).wr Alarm.LAST 0 s.now80
  (s.zeroise.clearSessions.raise Ev.SEC_ALARM 0 toPlatform cause).abortInstalls

/-! ABORT (R407). -/

def abortTxn (slot reqId : Nat) (s : State) : Except Status State :=
  match s.ctl.deferred.find? (fun t => t.slot == slot && t.reqId == reqId) with
  | none => .error .eState
  | some t =>
    .ok (({ s with ctl := { s.ctl with deferred := s.ctl.deferred.erase t } } : State).unreserve t.reserved)

/-! LC_CMD (R402, R433). -/

/-- May LC_STATE l move to v? -/
def lcMove (l v : Nat) : Bool :=
  (v == 2 && l == 1) || (v == 3 && l == 2) || (v == 4 && l == 3) || (v == 5 && 1 ≤ l && l ≤ 4)

/-- What a transaction with LC_CMD may write beside it. -/
def lcBeside (col : Nat) : Bool :=
  [Kek.KEY, Kek.LEN, Kek.USERS, SKek.SESSION_KEK, Slot.MG_ALLOWED, Slot.PEER].contains col || col / 256 == Xar.index ||
    col / 256 == Mg.index

/-! Writes. -/

/-- What follows a request's RESPONSE. -/
def State.afterward (s : State) (a : AfterX) : State := { s with ctl := { s.ctl with after := s.ctl.after ++ [a] } }

/-- Writes of chapter 18 and 19. -/
def controlWrite (h col el v : Nat) (s : State) : Except Status State :=
  if col = Slot.ABORT then abortTxn el v s
  else if col = Slot.CLOSE then .ok (s.afterward (.closeSlot el))
  else if col = Punt.PPS_MAX then .ok (s.ppsWrite el v)
  else if col = Life.EV_SEL then .ok (s.hostUpd h (fun x => { x with evSel := v }))
  else if col = Pwr.PSTATE_REQ then pstateWrite v s
  else if col = Pwr.RESET then .ok (s.afterward .reset)
  else if col = Cal.RESTORE then .ok (s.afterward .restore)
  else if col = Ident.LC_CMD then
    (if lcMove (s.rd Ident.LC_STATE 0) v then .ok (s.afterward (.transition v h [])) else .error .eState)
  else if col / 256 = Mg.index then
    .ok (if s.rd col el = v then s else (s.wr col el v).afterward (.closePort el))
  else .ok (s.wr col el v)

/-- A write of a unit's CMD. -/
def unitCmd? (col : Nat) : Option Unit_ :=
  if col = Core.CMD then some .dsp else if col = Vd.CMD then some .vd else if col = Ve.CMD then some .ve
  else if col = Cmp.CMD then some .cmp else none

/-- The chapter's operation of a write by host h, in a transaction with writes `ws`. -/
def applyWrite (aux : Aux) (h : Nat) (ws : List WriteOp) (w : WriteOp) (s : State) : Except Status State :=
  let col := w.col
  let el := w.el
  let v := w.val
  match col / 256 with
  | 0x2000 => mpWrite col el v s
  | 0x2010 => lpWrite col el v s
  | 0x2020 => legSideWrite col el v s
  | 0x2100 => meterWrite ws col el v s
  | 0x2200 =>
    if col = Leg.CMD then (if v = 1 then legOpen el s else if v = 2 then legActivate el s else legClose el s)
    else if col = Leg.RADIO_UE then radioUeWrite el v s
    else legWrite h col el v s
  | 0x2230 => legSideWrite col el v s
  | 0x2280 => partWrite col el v s
  | 0x2300 => if col = Conf.CMD then (if v = 1 then confOpen el s else confClose el s) else confWrite col el v s
  | 0x2400 =>
    if col = Src.CMD then (if v = 1 then sourceDefine h el ws s else sourceDelete el s) else sourceWrite h col el v s
  | 0x2420 => sourceWrite h col el v s
  | 0x2500 => if col = Sub.CMD then (if v = 1 then subCreate h el s else subDelete el s) else subWrite h col el v s
  | 0x2520 => subWrite h col el v s
  | 0x2570 => spliceWrite h col el v s
  | 0x2580 => mosaicWrite h col el v s
  | 0x2590 => mosPosWrite h el v s
  | 0x2600 => egressWrite h col el v s
  | 0x2610 => if col = LegGrp.CMD then legGroupCmd h el v s else egressWrite h col el v s
  | 0x2620 => if col = Shp.GROUP then groupWrite h el v s else egressWrite h col el v s
  | 0x2630 => egressWrite h col el v s
  | 0x2700 => fretWrite col el v s
  | 0x2710 => fretWrite col el v s
  | 0x2800 =>
    if col = Ctx.INSTALL then install h el w.blob w.keys s
    else if col = Ctx.ERASE then eraseWrite el s
    else cipherWrite col el v ws s
  | 0x2810 =>
    if col = Kek.KEY then kekKeyWrite el (s.lenAfter el ws) v s
    else if col = Kek.CLEAR then kekClear el s
    else cipherWrite col el v ws s
  | 0x2820 => cipherWrite col el v ws s
  | 0x2830 => .ok (s.alarm 0x40)
  | 0x3000 =>
    if col = Clk.SET_TIME then setTime v s else if col = Clk.REF_SEL then refSelWrite v s else timeWrite col el v s
  | 0x3010 => timeWrite col el v s
  | 0x3020 => timeWrite col el v s
  | 0x3030 => if col = Ref.PPS_TOD then ppsTod v s else timeWrite col el v s
  | 0x3040 =>
    if col = Tout.ARM then (if v = 1 then toutArm el s else toutDisarm el s) else timeWrite col el v s
  | 0x3050 => timeWrite col el v s
  | 0x3070 => timeWrite col el v s
  | 0x3100 => audioWrite col el v s
  | 0x3110 => audioWrite col el v s
  | 0x3150 => legSideWrite col el v s
  | 0x3120 => graphWrite h col el v w.blob s
  | 0x3200 =>
    portWrite col el v (if s.slave el && s.rd Sap.STATE el != 0 then s.setFrame el aux.frame else s)
  | 0x3210 => portWrite col el v s
  | 0x3230 => portWrite col el v s
  | 0x3240 => portWrite col el v s
  | 0x3250 => portWrite col el v s
  | 0x4000 => decWrite h col el v s
  | 0x4100 => encWrite h col el v s
  | 0x4200 => outWrite h col el v s
  | 0x4210 => layWrite col el v s
  | 0x4300 => if col = Ros.RELEASE_PIN then releasePin aux.high s else rosWrite col el v w.blob s
  | 0x4310 => rosWrite col el v w.blob s
  | 0x4320 => rosWrite col el v w.blob s
  | 0x5110 => traceWrite col v s
  | 0x5200 => hbmObjWrite col el v aux.training aux.scan s
  | 0x5210 => hbmObjWrite col el v aux.training aux.scan s
  | 0x5230 => hbmObjWrite col el v aux.training aux.scan s
  | 0x5300 => dmaWrite h col el v aux.host s
  | 0x5310 => dmaWrite h col el v aux.host s
  | 0x5320 => dmaWrite h col el v aux.host s
  | 0x5400 => dmaWrite h col el v aux.host s
  | _ =>
    match unitCmd? col with
    | some k => unitWrite k el v s
    | none => controlWrite h col el v s

/-! Window ends and frame ticks before a commit (R173, R326, R334). -/

/-- The frame ticks that come before a write takes effect are served first: a composition change in the cycle of a tick acts from
the following tick, and a change of an encode session's rates acts at a tick of its own instant (log 190). -/
def State.frameFirst (s : State) (w : WriteOp) : State :=
  match w.col / 256 with
  | 0x4200 => if s.rd Outp.STATE w.el = 0 then s else frameTick w.el s
  | 0x4210 => if s.rd Outp.STATE (w.el / 32) = 0 then s else frameTick (w.el / 32) s
  | 0x4100 =>
    let k := s.rd Enc.INPUT_ID w.el
    if s.rd Enc.STATE w.el = 0 then s
    else if s.rd Enc.INPUT w.el = 1 then
      (if (s.encGrid w.el).at (Tbl.get {} s.tim.enc w.el).next < s.ns then encodeTick w.el s else s)
    else if (s.outGrid k).at (Tbl.get {} s.tim.frame k).next < s.ns then frameTick k s else s
  | _ => s

def State.framesFirst (s : State) (ws : List WriteOp) : State := ws.foldl State.frameFirst s

/-- Does a write belong to the objects of the egress shapers, 0x2600 to 0x2630? -/
def WriteOp.shapes (w : WriteOp) : Bool := [0x2600, 0x2610, 0x2620, 0x2630].contains (w.col / 256)

/-- A window end in the cycle of a commit to a shaper is applied before the whole commit (R173). -/
def State.windowFirst (s : State) (ws : List WriteOp) : State := if ws.any (·.shapes) then windowEnd s else s

/-! Checks on what a transaction leaves. -/

/-- Non-zero values of a list that repeat. -/
def repeats (l : List Nat) : Bool :=
  let l := l.filter (· != 0)
  l != distinct l

/-- The checks of an object's chapter that two objects take part in, after the last write of the transaction. -/
def State.finalCheck (s : State) (col el : Nat) : Except Status Unit :=
  match col / 256 with
  | 0x1300 =>
    lowest [((col == Cal.THERM_WARN || col == Cal.THERM_LIMIT) &&
      decide (s.rdI Cal.THERM_LIMIT 0 < s.rdI Cal.THERM_WARN 0 + 5), .eRange)]
  | 0x2020 => lowest [(repeats [s.rd LegIn.AL_EXT el, s.rd LegIn.DD_EXT el, s.rd LegIn.LD_EXT el], .eRange)]
  | 0x2030 => lowest [(decide (s.rd PuntRule.UDP_HI el < s.rd PuntRule.UDP_LO el), .eRange)]
  | 0x2100 => lowest [(decide (s.rd Meter.PIR el < s.rd Meter.CIR el), .eRange)]
  | 0x2200 =>
    lowest [((col == Leg.KIND || col == Leg.PORT) && s.rd Leg.KIND el == 1 && decide (1 < s.rd Leg.PORT el), .eRange),
      (s.rd Leg.STATE el == 2 && (col == Leg.LOCAL_IP || col == Leg.REMOTE_IP) && !s.oneVersion el, .eRange),
      (s.rd Leg.STATE el == 2 && s.tupleTaken el &&
        [Leg.LOCAL_IP, Leg.LOCAL_UDP, Leg.REMOTE_IP, Leg.REMOTE_UDP, Leg.VLAN].contains col, .eState)]
  | 0x2570 =>
    lowest [((col == Splice.PERIOD || col == Splice.PHASE) && decide (s.rd Splice.PERIOD el ≤ s.rd Splice.PHASE el), .eRange)]
  | 0x2600 =>
    let a := s.rd Egr.TH_ENH el
    let b := s.rd Egr.TH_YEL el
    let c := s.rd Egr.TH_GRN el
    lowest [(decide (b < a) || decide (c < b) || decide (100 ≤ c), .eRange)]
  | 0x2630 =>
    let lo := s.rd Line.MIN_KBPS el
    let hi := s.rd Line.MAX_KBPS el
    let st := s.rd Line.START_KBPS el
    lowest [(decide (hi < lo) || decide (st < lo) || decide (hi < st) || decide (s.rd Line.LOSS_HI el < s.rd Line.LOSS_LO el), .eRange)]
  | 0x3100 => lowest [(!s.cfgOk el, .eRange)]
  | 0x4100 => lowest [(decide (s.rd Enc.QP_MAX el < s.rd Enc.QP_MIN el), .eRange)]
  | 0x4200 => lowest [(s.rd Outp.STATE el != 0 && !s.outColourOk el, .eRange)]
  | 0x4210 =>
    let k := el / 32
    if s.rd Outp.STATE k = 0 then .ok ()
    else match s.layerCheck (s.rd Outp.OWNER k) el with
      | .error e => .error e
      | .ok () => if s.rd Outp.STATE k = 1 then s.cmpCheck k else .ok ()
  | _ => .ok ()

/-- The last operation, from index i on, whose object fails its check: the write that leaves the transaction with the
objects that do not fit, the writes before it having been checked as those after it might mend them (R404). -/
def State.finalFail (s : State) : Nat → List OpX → Option (Nat × Status)
  | _, [] => none
  | i, o :: os =>
    match s.finalFail (i + 1) os with
    | some r => some r
    | none =>
      if o.reads then none
      else match s.finalCheck o.w.col o.w.el with
        | .error e => some (i, e)
        | .ok () => none

end Sys2Proof.Machine
end

