-- ==== Sys2Proof/Machine/Control.lean ====
section
/-! DEFINITION. The Xaras control protocol (R390 to R410): requests, transactions and their commit points, locks, what a
supply warning holds, and the control commands that have rows of their own. -/

namespace Sys2Proof.Machine

/-! Request bodies (R393). -/

/-- An operation record at the head of b (Table 18.6) of vlen value bytes. -/
def parseOp (be : Bool) (b : Bytes) (vlen : Nat) : OpX :=
  let code := byteAt b 0
  let v := slice b 12 vlen
  let col := fieldAt be b 4 2 * 256 + byteAt b 9
  let num : Nat := match colRow col with
    | some r => match r.ty with
      | .octets _ => leNat v
      | .string _ => leNat v
      | .blob => 0
      | _ => if be then beNat v else leNat v
    | none => 0
  let blob : Bytes := match colRow col with
    | some r => if r.ty = .blob then v else []
    | none => []
  { reads := code == 1
    pre := if code = 0 || 2 < code || (code == 1 && vlen != 0) then Status.eRange.code else 0
    ty := byteAt b 1
    len := vlen
    w := { col := col, el := fieldAt be b 6 3, val := num, blob := blob } }

/-- n operation records, which fill b exactly, and whether their reserved bytes and padding are zero. -/
def parseOps (be : Bool) : Nat → Bytes → Option (List OpX × Bool)
  | 0, b => if b = [] then some ([], true) else none
  | n + 1, b =>
    let vlen := fieldAt be b 2 2
    let size := 12 + roundUp 4 vlen
    if b.length < 12 || b.length < size then none
    else
      let zero : Bool := allZero (slice b 10 2) && allZero (slice b (12 + vlen) (size - 12 - vlen))
      match parseOps be n (b.drop size) with
      | some (os, z) => some (parseOp be b vlen :: os, zero && z)
      | none => none

/-- A request of a body of at least 24 bytes, or the code it fails with as a whole. A keep-alive's MODE and COMMIT, and with
them OUTPUT and TIME, may hold anything (R394). -/
def parseBody (be : Bool) (b : Bytes) : Except Status ReqX :=
  let mode := byteAt b 4
  let commit := byteAt b 5
  let output := fieldAt be b 6 2
  let time := fieldAt be b 8 10
  let n := fieldAt be b 18 2
  let txn : Bool := mode % 2 == 1
  let ops := if 1024 < n then none else parseOps be n (b.drop 24)
  let fixed : Bool := n == 0 ||
    (mode < 4 && commit < 4 && (commit == 0 || txn) && (output == 0 || commit == 2) && (time == 0 || commit == 3) &&
      formOk .time80 time)
  match lowest [(!allZero (slice b 20 4), .eRange), (decide (1024 < n), .eRange), (!fixed, .eRange),
      ((match ops with | some (_, z) => !z | none => false), .eRange), (n ≤ 1024 && ops.isNone, .eLength)] with
  | .error e => .error e
  | .ok () =>
    .ok { slot := 0, route := .row, reqId := fieldAt be b 0 4, txn := txn, late := mode / 2 % 2 == 1,
          commit := if n = 0 then 0 else commit, output := output, time := time,
          ops := match ops with | some (os, _) => os | none => [] }

/-! One operation (R11, R391, R404). -/

/-- The checks of a record before its chapter's own: existence, access, TYPE and length, and the record's form. -/
def State.recordCheck (s : State) (h : Nat) (typed : Bool) (o : OpX) : Except Status Unit :=
  match colRow o.w.col with
  | none => .error .eNoObj
  | some r =>
    let right := rightOf r.acc h o.w.el
    let fixed : Bool := match r.ty with | .string _ => false | .blob => false | _ => true
    let tyBad : Bool := typed && (if o.reads then o.ty != 0 && o.ty != r.ty.code
      else o.ty != r.ty.code || (fixed && o.len != r.ty.size))
    lowest [(!s.exists? h (o.w.col / 256) o.w.el, .eNoObj), (!(if o.reads then right.canRead else right.canWrite), .eAccess),
      (tyBad, .eType), (o.pre != 0, .eRange)]

/-- A STRING's or BLOB's value bytes outside Table 18.2. -/
def valueForm (typed : Bool) (o : OpX) : Except Status Unit :=
  match colRow o.w.col with
  | some r => match r.ty with
    | .string n =>
      if typed then
        lowest [(!(natLE o.len o.w.val).all (fun b => 0x20 ≤ b.toNat && b.toNat ≤ 0x7E), .eRange), (decide (n < o.len), .eLength)]
      else .ok ()
    | .blob => lowest [(o.w.blob.length == 0 || decide (8192 < o.w.blob.length), .eLength)]
    | _ => .ok ()
  | none => .ok ()

/-- The stored form of a value: a STRING cut at its limit. -/
def cutValue (w : WriteOp) : Nat :=
  match colRow w.col with
  | some r => match r.ty with | .string n => w.val % 2 ^ (8 * n) | _ => w.val
  | none => w.val

/-- One write of host h in a transaction with writes ws; `extra` are the checks of that transaction. The lowest code among
the conditions that hold is the status (R15). -/
def tryOp (aux : Aux) (typed : Bool) (h : Nat) (ws : List WriteOp) (extra : Except Status Unit) (o : OpX) (s : State) :
    Except Status State :=
  let more : List Status := match extra with | .error e => [e] | .ok () => []
  match s.recordCheck h typed o with
  | .error e => .error (more.foldl Status.least e)
  | .ok () =>
    let w := { o.w with val := cutValue o.w }
    let r := s.tryWrite h w.col w.el w.val (applyWrite aux h ws w)
    let bars := (match valueForm typed o with | .error e => [e] | .ok () => []) ++ more
    match r, bars with
    | .error e, bs => .error (bs.foldl Status.least e)
    | .ok _, b :: bs => .error (bs.foldl Status.least b)
    | .ok t, [] => .ok t

/-- The status of a write that fails with e, `all` being the writes of its transaction: the lower code of a condition on
two objects that their values would break (R15). -/
def State.withPair (s : State) (all : List WriteOp) (w : WriteOp) (e : Status) : Status :=
  if e.code ≤ Status.eRange.code then e
  else match (all.foldl (fun (s : State) x => s.wr x.col x.el x.val) s).finalCheck w.col w.el with
    | .error f => Status.least e f
    | .ok () => e

/-- One write as a transaction of its own. -/
def tryOne (aux : Aux) (typed : Bool) (h : Nat) (o : OpX) (s : State) : Except Status State :=
  match tryOp aux typed h [o.w] (.ok ()) o s with
  | .error e => .error (s.withPair [{ o.w with val := cutValue o.w }] o.w e)
  | .ok t => match t.finalCheck o.w.col o.w.el with
    | .error e => .error e
    | .ok () => .ok t

/-- A READ: its result and the state after. -/
def State.readOp (s : State) (aux : Aux) (be typed : Bool) (h : Nat) (o : OpX) : OpRes × State :=
  match s.recordCheck h typed o with
  | .error e => (resOfOp o e.code, s)
  | .ok () =>
    let r := s.readObj aux.frame h o.w.col o.w.el
    match colRow o.w.col with
    | some row => (⟨0, row.ty.code, valueBytes be row.ty r.1⟩, r.2)
    | none => (resOfOp o Status.eNoObj.code, s)

/-! Charges reserved (R57). -/

/-- What the charges of t exceed those of s by: 4 * partition + resource. -/
def chargeGap (s t : State) : Tbl Nat :=
  [Res.dsp, .vdec, .venc, .cmp].foldl (fun m r =>
    let parts := [2, 3, 4, 5, 6, 7].map (fun h => (h, t.rd r.partUsed h - s.rd r.partUsed h))
    let m := parts.foldl (fun m p => Tbl.set 0 m (4 * p.1 + r.index) p.2) m
    Tbl.set 0 m r.index ((t.rd r.devUsed 0 - s.rd r.devUsed 0) - sumOf (parts.map (·.2)))) []

/-- Reserved charges are charged. -/
def State.reserve (s : State) (m : Tbl Nat) : State :=
  m.foldl (fun s x => s.chargeBy (x.1 / 4) (resOf x.1) (x.2 : Int)) s

/-- Reserved charges become the credit of the transaction applied next; what it leaves of them is released. -/
def State.withCredit (s : State) (m : Tbl Nat) : State := { s with ctl := { s.ctl with credit := m } }
def State.spend (s : State) : State := (s.unreserve s.ctl.credit).withCredit []

/-- Trials of a deferred or held transaction: releases free nothing yet. -/
def State.trying (s : State) (b : Bool) : State := { s with ctl := { s.ctl with trial := b } }

/-! Requests without TXN (R403). -/

/-- What an operation comes to: it waits for a lock, it is accepted and held, or it is done. -/
inductive OpStep where
  | wait
  | held (s : State) (reserved : Tbl Nat)
  | done (r : OpRes) (s : State)

/-- An operation of a request without TXN. A write that a supply warning holds has its charges reserved. -/
def opStep (aux : Aux) (r : ReqX) (o : OpX) (s : State) : OpStep :=
  let typed : Bool := r.route != .row
  let h := r.slot
  if o.reads then
    let x := s.readOp aux r.route.be typed h o
    .done x.1 x.2
  else if s.lockedByHeld h o.w.col o.w.el then
    match s.recordCheck h typed o with
    | .error e => .done (resOfOp o e.code) s
    | .ok () => .wait
  else
    let s := (s.frameFirst o.w).windowFirst [o.w]
    let m := if journals o.w.col then s.mramTake else (s, false)
    match tryOne aux typed h o m.1 with
    | .error e =>
      if m.2 && Status.eBusy.code < e.code then .done (resOfOp o Status.eBusy.code) (s.mramOver h)
      else .done (resOfOp o e.code) s
    | .ok t =>
      if m.2 then .done (resOfOp o Status.eBusy.code) (s.mramOver h)
      else if s.ctl.mramHold && persists o.w.col then .held m.1 (chargeGap s t)
      else .done (resOfOp o 0) t

/-- What the operations just run left to follow a RESPONSE is taken from the state. -/
def State.takeAfter (old s : State) : List AfterX × State :=
  (s.ctl.after.drop old.ctl.after.length, { s with ctl := { s.ctl with after := s.ctl.after.take old.ctl.after.length } })

/-- The request at key k goes on until it waits or its last operation has been taken. -/
def runOps (aux : Aux) (k : Nat) : Nat → State → State
  | 0, s => s
  | n + 1, s =>
    match s.reqX k with
    | none => s
    | some r =>
      match r.ops[r.next]? with
      | none => s.finishReq k
      | some o =>
        let s0 : State := { s with ctl := { s.ctl with after := [] } }
        match opStep aux r o s0 with
        | .wait =>
          let s := s.setReq k (some { r with at_ := s.phys })
          { s with ctl := { s.ctl with waiting := s.ctl.waiting ++ [k] } }
        | .held t m =>
          let t : State := { t with ctl := { t.ctl with after := s.ctl.after } }
          runOps aux k n (((t.reserve m).hold { slot := r.slot, req := some k, idx := some r.next, ops := [o], reserved := m }).setReq k
            (some { r with next := r.next + 1, results := r.results ++ [none] }))
        | .done x t =>
          let more := t.ctl.after
          let t : State := { t with ctl := { t.ctl with after := s.ctl.after } }
          runOps aux k n (t.setReq k
            (some { r with next := r.next + 1, results := r.results ++ [some x], after := r.after ++ more }))

/-! Transactions (R404 to R409). -/

/-- The writes of a list of operations. -/
def writesOf (ops : List OpX) : List WriteOp :=
  (ops.filter (fun o => !o.reads)).map (fun o => { o.w with val := cutValue o.w })

/-- The checks of R402 and R439 on what a transaction holds. -/
def txnRules (ops : List OpX) (commit : Nat) (w : WriteOp) : Except Status Unit :=
  let ws := writesOf ops
  let lc : Bool := ws.any (fun x => x.col == Ident.LC_CMD)
  lowest [(w.col == Cal.RESTORE && (commit != 0 || decide (1 < ws.length)), .eAccess),
    (w.col == Ident.LC_CMD && commit != 0, .eRange),
    (lc && w.col != Ident.LC_CMD && !lcBeside w.col, .eAccess),
    (w.col == Ident.LC_CMD && decide (1 < (ws.filter (fun x => x.col == Ident.LC_CMD)).length), .eAccess)]

/-- The state that the other writes of a life-cycle transaction are checked against: wiped, and in its target state. -/
def State.asAfterMove (s : State) (ops : List OpX) : State :=
  match (writesOf ops).find? (fun w => w.col == Ident.LC_CMD) with
  | some w => (s.wipeKeys.userDefaults).wr Ident.LC_STATE 0 w.val
  | none => s

/-- The writes of a transaction in record order, each on what the earlier ones leave; LC_CMD on the state s0 before them. -/
def tryWrites (aux : Aux) (typed : Bool) (r : ReqX) (s0 : State) : Nat → List OpX → State → Except (Nat × Status) State
  | _, [], s => .ok s
  | i, o :: os, s =>
    if o.reads then tryWrites aux typed r s0 (i + 1) os s
    else
      let lc : Bool := o.w.col == Ident.LC_CMD
      match tryOp aux typed r.slot (writesOf r.ops) (txnRules r.ops r.commit o.w) o (if lc then s0 else s) with
      | .error e => .error (i, s.withPair ((writesOf r.ops).drop ((r.ops.take i).filter (fun o => !o.reads)).length) o.w e)
      | .ok t => tryWrites aux typed r s0 (i + 1) os (if lc then s.afterward (.transition o.w.val r.slot []) else t)

/-- The whole of a transaction's writes, with the checks that stand on what they leave. -/
def tryAll (aux : Aux) (typed : Bool) (r : ReqX) (s : State) : Except (Nat × Status) State :=
  match tryWrites aux typed r s 0 r.ops (s.asAfterMove r.ops) with
  | .error e => .error e
  | .ok t => match t.finalFail 0 r.ops with
    | some e => .error e
    | none => .ok t

/-- The READs of a transaction: their results by index, the first that fails, and the state after. -/
def runReads (aux : Aux) (r : ReqX) (s : State) : List (Option OpRes) × State :=
  r.ops.foldl (fun x o =>
    if o.reads then
      let y := x.2.readOp aux r.route.be (r.route != .row) r.slot o
      (x.1 ++ [some y.1], y.2)
    else (x.1 ++ [none], x.2)) ([], s)

def firstFail (rs : List (Option OpRes)) : Option (Nat × Nat) :=
  (rs.zipIdx.find? (fun p => match p.1 with | some x => x.status != 0 | none => false)).map
    (fun p => (p.2, match p.1 with | some x => x.status | none => 0))

/-- The frame stream of an output. -/
def State.frameTicks (s : State) (k : Nat) : TickX := Tbl.get {} s.tim.frame k

/-- Table 18.8: when a transaction falls due (none: at once), or the code that refuses it as a whole. -/
def State.commitPoint (s : State) (r : ReqX) : Except Status (Option Nat) :=
  match r.commit with
  | 0 => .ok none
  | 1 => .ok (some (s.tim.block.next))
  | 2 =>
    let t := s.frameTicks r.output
    if !s.exists? r.slot Outp.index r.output then .error .eNoObj
    else if s.rd Outp.STATE r.output = 0 then .error .eState
    else .ok (some (if t.active then t.next else (s.outGrid r.output).firstAt (s.ns + 1)))
  | _ =>
    let t := ofTime80 r.time
    match lowest [(decide (s.clk + 86400 * secU < t), .eRange), (!s.on Clk.TIME_VALID 0, .eState),
        (decide (t ≤ s.clk) && !r.late, .eLate)] with
    | .error e => .error e
    | .ok () => .ok (if t ≤ s.clk then none else some t)

/-- INSTALL writes carry the keys derived at acceptance, each from its own blob (R186). -/
def withKeys (t : State) (h : Nat) (w : WriteOp) : WriteOp :=
  if w.col = Ctx.INSTALL then { w with keys := t.blobUnwrap h w.el w.blob } else w

/-- The transaction of request r at key k. -/
def runTxn (aux : Aux) (k : Nat) (r : ReqX) (s : State) : State :=
  let typed : Bool := r.route != .row
  let h := r.slot
  let ws := writesOf r.ops
  if ws.any (fun w => s.lockedByHeld h w.col w.el) then
    let s := s.setReq k (some { r with at_ := s.phys })
    { s with ctl := { s.ctl with waiting := s.ctl.waiting ++ [k] } }
  else
    let journal : Bool := ws.any (fun w => journals w.col)
    let point := s.commitPoint r
    let s := match point with | .ok none => (s.framesFirst ws).windowFirst ws | _ => s
    let m := if journal then s.mramTake else (s, false)
    let deferred : Bool := match point with | .ok (some _) => true | _ => false
    let full : Bool := deferred && 16 ≤ (s.ctl.deferred.filter (fun t => t.slot == h)).length
    match lowest [((match point with | .error _ => true | .ok _ => false), match point with | .error e => e | .ok _ => .ok),
        (full, .eBusy), (m.2, .eBusy)] with
    | .error e =>
      let s := if m.2 && e = .eBusy then s.mramOver h else s
      s.closeReq k r e.code false (r.ops.map (fun o => resOfOp o Status.eTxn.code))
    | .ok () =>
      let reads := runReads aux r m.1
      let due : Option Nat := match point with | .ok d => d | .error _ => none
      let lc : Bool := ws.any (fun w => w.col == Ident.LC_CMD)
      let held : Bool := due.isNone && !lc && s.ctl.mramHold && ws.any (fun w => persists w.col)
      let try_ := tryAll aux typed r (({ reads.2 with ctl := { reads.2.ctl with after := [] } } : State).trying (due.isSome || held))
      let fails : Option (Nat × Nat) := match firstFail reads.1, try_ with
        | some a, .error b => if a.1 < b.1 then some a else some (b.1, b.2.code)
        | some a, .ok _ => some a
        | none, .error b => some (b.1, b.2.code)
        | none, .ok _ => none
      match fails, try_ with
      | some f, _ => s.closeReq k r Status.eTxn.code false (txnFailed r.ops f.1 f.2)
      | none, .error _ => s
      | none, .ok t =>
        let results := (r.ops.zip reads.1).map (fun p => p.2.getD (resOfOp p.1 0))
        match due with
        | some d =>
          let gap := chargeGap reads.2 t
          let p : PTxn := { slot := h, reqId := r.reqId, commit := r.commit, output := r.output, due := d,
                            writes := ws.map (withKeys s h), reserved := gap }
          let s := (reads.2.reserve gap).bump Xar.ACCEPTED 0
          ({ s with ctl := { s.ctl with deferred := s.ctl.deferred ++ [p] } } : State).closeReq k r 0 true results
        | none =>
          if held then
            let gap := chargeGap reads.2 t
            (((reads.2.reserve gap).bump Xar.ACCEPTED 0).hold {
              slot := h, req := some k, ops := r.ops.map (fun o => { o with w := withKeys s h o.w }), reserved := gap }).setReq k
              (some { r with ops := r.ops.map (fun o => { o with w := withKeys s h o.w }), results := reads.1 })
          else if lc then
            let target := match ws.find? (fun w => w.col == Ident.LC_CMD) with | some w => w.val | none => 0
            (reads.2.bump Xar.ACCEPTED 0).closeReq k
              { r with after := [.transition target h (ws.filter (fun w => w.col != Ident.LC_CMD))] } 0 false results
          else
            let s1 := t.trying false
            let more := s1.ctl.after
            (({ s1 with ctl := { s1.ctl with after := s.ctl.after } } : State).bump Xar.ACCEPTED 0).closeReq k
              { r with after := more } 0 false results

/-- A request taken: a keep-alive, a list of operations, or a transaction. -/
def State.takeReq (s : State) (aux : Aux) (r : ReqX) : State :=
  let (k, s) := s.keepReq r
  if r.ops = [] then (s.bump Xar.ACCEPTED 0).closeReq k r 0 false []
  else if r.txn then runTxn aux k r s
  else runOps aux k (r.ops.length + 1) (s.bump Xar.ACCEPTED 0)

/-- A request that waited goes on. -/
def State.resumeReq (s : State) (aux : Aux) (k : Nat) : State :=
  match s.reqX k with
  | none => s
  | some r => if r.txn then runTxn aux k r s else runOps aux k (r.ops.length + 1) s

/-! What follows a RESPONSE. -/

/-- Actions that a RESPONSE precedes, in order. Those that write MRAM wait for the end of a supply warning. -/
def afterAll (aux : Aux) : List AfterX → State → State
  | [], s => s
  | a :: l, s =>
    match a with
    | .closeSlot h => afterAll aux l (s.closeSlot h 5)
    | .closePort m => afterAll aux l (s.closePort m 5)
    | .standby => afterAll aux l (if s.standbyBarred then s else s.beginLower true)
    | .reset => s.resetFor 2 aux.boot
    | .restore => if s.ctl.mramHold then afterAll aux l (s.afterward a) else (s.userDefaults).resetFor 2 aux.boot
    | .transition v _ ws => if s.ctl.mramHold then afterAll aux l (s.afterward a) else s.transit v ws aux.boot

def State.runAfter (s : State) (aux : Aux) : State :=
  afterAll aux s.ctl.after ({ s with ctl := { s.ctl with after := [] } } : State)

/-! REQUEST (R392, R394 to R396, R399 to R401). -/

/-- Is a request of that session with that REQ_ID taken and not yet answered? -/
def State.inHand (s : State) (route : RouteX) (reqId : Nat) : Bool :=
  s.ctl.reqs.any (fun x => match x.2 with | some r => r.route == route && r.reqId == reqId | none => false)

/-- The body of a REQUEST of a slot. -/
def takeBody (aux : Aux) (route : RouteX) (slot : Nat) (b : Bytes) (s : State) : State :=
  let be := route.be
  let reqId := if b.length < 4 then 0 else fieldAt be b 0 4
  let r0 : ReqX := { slot := slot, route := route, reqId := reqId, ops := [] }
  let again : Option Bytes := match route with
    | .udp h _ =>
      if b.length < 4 then none
      else (s.hostX h).open_.bind (fun q => (q.replies.find? (fun p => p.1 == reqId)).map (·.2))
    | _ => none
  match again with
  | some body => s.sendSess slot 4 body
  | none =>
    let twice : Bool := match route with | .udp _ _ => s.inHand route reqId | _ => false
    if twice then s
    else if b.length < 24 then s.answer r0 Status.eLength.code false []
    else match parseBody be b with
      | .error e => s.answer r0 e.code false []
      | .ok r => s.takeReq aux { r with slot := slot, route := route }

/-- The next frame of the REQ ring of PFh, PAD frames skipped. A full RSP ring holds requests back. -/
def takeRing (aux : Aux) (h : Nat) : Nat → State → State
  | 0, s => s
  | n + 1, s =>
    let x := s.hostX h
    if 8 ≤ h || !(s.ring h 0).enable || x.held ≠ [] || x.unread = [] then s
    else match xHeader false x.unread with
      | none => (s.reqConsumed h x.unread.length).discard
      | some f =>
        let size := min x.unread.length (roundUp 64 (16 + f.len))
        let body := slice x.unread 16 f.len
        let s := s.reqConsumed h size
        if f.kind = 0 then takeRing aux h n s
        else if f.kind ≠ 3 then s.discard
        else
          let r0 : ReqX := { slot := h, route := .pcie h, reqId := if f.len < 4 then 0 else fieldAt false body 0 4, ops := [] }
          match lowest [(decide (f.slot ≠ h), .eAccess), (f.prot || f.counter != 0, .eRange), (decide (16384 < f.len), .eLength)] with
          | .error e => s.answer r0 e.code false []
          | .ok () => takeBody aux (.pcie h) h body s

/-- A datagram with a REQUEST on MG0 or MG1. -/
def takeDatagram (aux : Aux) (d : Datagram) (s : State) : State :=
  if !s.mgTakes d then s
  else match xHeader true d.bytes with
  | none => s.discard
  | some f =>
    if f.kind = 1 || f.kind = 6 then s
    else if f.kind ≠ 3 then s.discard
    else if f.prot then
      let r := s.sessRx f d
      match r.2, (r.1.hostX f.slot).open_ with
      | some b, some q => takeBody aux (.udp f.slot q.dnonce) f.slot b r.1
      | _, _ => r.1
    else if s.on Ident.PROV_MODE 0 && d.mg.val == 0 && f.slot == 0 && f.counter == 0 && d.dport == s.rd Xar.UDP_PORT 0 then
      let route : RouteX := .clear d.mg d.src d.sport
      (if 16384 < f.len then s.answer { slot := 0, route := route, reqId := fieldAt true d.bytes 16 4, ops := [] } Status.eLength.code false []
       else takeBody aux route 0 (slice d.bytes 16 f.len) s)
    else s.discard

def request (from_ : ReqFrom) (aux : Aux) (s : State) : State :=
  State.runAfter (match from_ with
    | .pcie h => takeRing aux h ((s.hostX h).unread.length + 1) s
    | .mg d => takeDatagram aux d s) aux

/-! Deferred transactions (R407). -/

/-- Has the commit point of a pending transaction come? One on a tick comes one cycle before it; one on the frames of an
output that has become FREE comes at once. -/
def State.fallsDue (s : State) (t : PTxn) : Bool :=
  match t.commit with
  | 1 => decide (t.due ≤ s.tim.block.last) || decide (blockGrid.at t.due * nsU ≤ s.clk + 40960)
  | 2 =>
    let k := s.frameTicks t.output
    s.rd Outp.STATE t.output == 0 || (k.active && decide (t.due ≤ k.last)) ||
      decide ((s.outGrid t.output).at t.due * nsU ≤ s.clk + 40960)
  | _ => decide (t.due ≤ s.clk)

/-- A pending transaction is checked again and applied, or dropped. -/
def State.applyDeferred (s : State) (aux : Aux) (t : PTxn) : State :=
  let r : ReqX := { slot := t.slot, route := .row, reqId := t.reqId, txn := true, commit := t.commit, output := t.output,
                    ops := t.writes.map writeOp }
  let s0 : State := { s with ctl := { s.ctl with deferred := s.ctl.deferred.erase t } }
  let s0 := (if t.commit = 3 then s0.framesFirst t.writes else s0).windowFirst t.writes
  let gone : Bool := t.commit == 2 && s.rd Outp.STATE t.output == 0
  let try_ : Except (Nat × Status) State := if gone then .error (0, .eState) else tryAll aux false r (s0.withCredit t.reserved)
  match try_ with
  | .ok u => u.spend.txnReport t 0 0
  | .error e => (s0.unreserve t.reserved).txnReport t Status.eTxn.code e.1

/-- The first pending transaction that is due, in acceptance order; one that writes M objects waits for the end of a supply
warning. -/
def deferredApply (aux : Aux) (s : State) : State :=
  match s.ctl.deferred.find? (fun t => s.fallsDue t && !(s.ctl.mramHold && t.writes.any (fun w => persists w.col))) with
  | none => s
  | some t => (s.applyDeferred aux t).runAfter aux

/-! Waiting for a lock (R405). -/

/-- The first request to have waited 1 ms fails in the operation that waits. -/
def lockTimeout (aux : Aux) (s : State) : State :=
  let due (k : Nat) : Bool := match s.reqX k with | some r => decide (cycMs ≤ s.since r.at_) | none => false
  match s.ctl.waiting.find? due with
  | none => s
  | some k =>
    let s : State := { s with ctl := { s.ctl with waiting := s.ctl.waiting.erase k } }
    match s.reqX k with
    | none => s
    | some r =>
      let s :=
        if r.txn then
          let i := (r.ops.findIdx? (fun o => !o.reads && s.lockedByHeld r.slot o.w.col o.w.el)).getD 0
          s.closeReq k r Status.eTxn.code false (txnFailed r.ops i Status.eBusy.code)
        else match r.ops[r.next]? with
          | some o =>
            runOps aux k (r.ops.length + 1) (s.setReq k (some { r with
              next := r.next + 1
              results := r.results ++ [some (resOfOp o Status.eBusy.code)] }))
          | none => s
      s.runAfter aux

/-! The end of a supply warning (R409, R424). -/

/-- What applied operations leave to follow a RESPONSE goes to their request. -/
def State.giveAfter (s : State) (k : Nat) (l : List AfterX) : State :=
  match s.reqX k with
  | some r => s.setReq k (some { r with after := r.after ++ l })
  | none => s

/-- A held transaction is applied. -/
def State.applyHeld (s : State) (aux : Aux) (x : HeldX) : State :=
  let old := s.ctl.after
  let s := (s.framesFirst (writesOf x.ops)).windowFirst (writesOf x.ops)
  let s0 : State := ({ s with ctl := { s.ctl with after := [] } } : State).withCredit x.reserved
  let back (t : State) : State := { t with ctl := { t.ctl with after := old } }
  match x.req, x.idx with
  | none, _ => x.ops.foldl (fun s o => s.wr o.w.col o.w.el o.w.val) s
  | some k, some i =>
    let typed : Bool := match s.reqX k with | some r => r.route != .row | none => false
    match x.ops with
    | [] => s
    | o :: _ =>
      match tryOne aux typed x.slot o s0 with
      | .ok t => (((back t.spend).giveAfter k t.ctl.after).setResult k i (resOfOp o 0)).finishReq k
      | .error e => ((s.unreserve x.reserved).setResult k i (resOfOp o e.code)).finishReq k
  | some k, none =>
    match s.reqX k with
    | none => s.unreserve x.reserved
    | some r =>
      match tryAll aux (r.route != .row) r s0 with
      | .ok t =>
        let rs := (r.ops.zip r.results).map (fun p => some (p.2.getD (resOfOp p.1 0)))
        ((back t.spend).setReq k (some { r with results := rs, after := r.after ++ t.ctl.after })).finishReq k
      | .error e =>
        ((s.unreserve x.reserved).setReq k
          (some { r with results := (txnFailed r.ops e.1 e.2.code).map some })).finishReq k

/-- The hold ends: log records and held writes in their order, then the requests that waited for their locks. -/
def State.endHold (s : State) (aux : Aux) : State :=
  let logs := s.ev.logHeld
  let held := s.ctl.held
  let s : State := { s with
    ctl := { s.ctl with mramHold := false, held := [] }
    ev := { s.ev with logHeld := [] } }
  let s := logs.foldl (fun s r => s.logRec r) s
  let s := held.foldl (fun s x => s.applyHeld aux x) s
  let waiting := s.ctl.waiting
  waiting.foldl (fun s k => s.resumeReq aux k) ({ s with ctl := { s.ctl with waiting := [] } } : State)

/-- SUPPLY_RECOVERED: 8 samples of a supply lie above its warning level and hysteresis; mv is the dip's minimum. -/
def supplyRecovered (k mv : Nat) (aux : Aux) (s : State) : State :=
  let d := Tbl.get (0, 0) s.pwr.dips k
  if d.1 = 0 then s
  else
    let us := (s.phys - 320 - (d.1 - 1)) / cycUs
    let low := min mv d.2
    let s : State := { s with pwr := { s.pwr with dips := Tbl.set (0, 0) s.pwr.dips k (0, 0) } }
    let s := if s.pwr.dips = [] then s.endHold aux else s
    let s := ((s.ownWrite Pwr.DIPS 0 ((s.heldValue Pwr.DIPS 0 + 1) % 2 ^ 32)).ownWrite Pwr.DIP_MS 0
      (ceilDiv us 1000 % 2 ^ 32)).ownWrite Pwr.DIP_MIN_MV 0 (low % 65536)
    let s := if s.running then
        s.raise Ev.SUPPLY_RECOVERED 0 toPlatform (k + 2 ^ 32 * (us % 2 ^ 32) + 2 ^ 64 * (low % 2 ^ 16))
      else s
    s.runAfter aux

/-! Rows of single writes. -/

/-- A write that has a row of its own, and what follows its RESPONSE. -/
def rowWrite (aux : Aux) (h : Nat) (w : WriteOp) (s : State) : State :=
  (hostWriteOp h w (fun s => tryOne aux false h (writeOp w) s) ((s.frameFirst w).windowFirst [w])).runAfter aux

/-- A number of an object with its Xaras address. -/
def writeOf (w : ObjWrite) : WriteOp := { col := w.index * 256 + w.sub, el := w.element, val := w.value, blob := w.blob }

/-- LC_CMD with the other writes of its transaction (R402). -/
def lcCmd (h v : Nat) (others : List ObjWrite) (boot : Boot) (s : State) : State :=
  let aux : Aux := { boot := boot }
  let ops := writeOp { col := Ident.LC_CMD, el := 0, val := v } :: others.map (fun w => writeOp (writeOf w))
  if 8 ≤ h then s
  else
    let r : ReqX := { slot := h, route := .row, txn := true, ops := ops }
    let (k, s) := s.keepReq r
    (runTxn aux k r s).runAfter aux

/-- An alarm condition of Table 8.8 but ZEROISE: bits 0 to 5 of CAUSE; debug access is one in DEPLOYED alone. -/
def secAlarm (cause : Nat) (s : State) : State :=
  let c := cause % 64
  let c := if s.rd Ident.LC_STATE 0 = 3 then c else c % 32
  if c = 0 then s else s.alarm c

/-- Service through the debug port: RETURNED becomes MANUFACTURED. -/
def service (boot : Boot) (s : State) : State :=
  if s.rd Ident.LC_STATE 0 ≠ 4 then s else (s.afterward (.transition 1 0 [])).runAfter { boot := boot }

/-! The commands. -/

def execRequest (from_ : ReqFrom) (aux : Aux) (s : State) : Out := live (request from_ aux) s

def execObjectWrite (h : Nat) (w : ObjWrite) (aux : Aux) (s : State) : Out := live (rowWrite aux h (writeOf w)) s

def execDeferredTxnApply (aux : Aux) (s : State) : Out := live (deferredApply aux) s

def execLockWaitTimeout (aux : Aux) (s : State) : Out := live (lockTimeout aux) s

def execAbort (h slot reqId : Nat) (s : State) : Out :=
  live (rowWrite {} h { col := Slot.ABORT, el := slot, val := reqId }) s

def execSessionCloseObject (h slot : Nat) (s : State) : Out :=
  live (rowWrite {} h { col := Slot.CLOSE, el := slot, val := 1 }) s

def execPstateReqStandby (h : Nat) (s : State) : Out :=
  live (rowWrite {} h { col := Pwr.PSTATE_REQ, el := 0, val := 2 }) s

def execSupplyRecovered (supply : Fin 6) (minMv : Nat) (aux : Aux) (s : State) : Out :=
  .next (supplyRecovered supply minMv aux s)

def execReset (h value : Nat) (boot : Boot) (s : State) : Out :=
  live (rowWrite { boot := boot } h { col := Pwr.RESET, el := 0, val := value }) s

def execRestore (h value : Nat) (boot : Boot) (s : State) : Out :=
  live (rowWrite { boot := boot } h { col := Cal.RESTORE, el := 0, val := value }) s

def execLcCmdProvision (h : Nat) (others : List ObjWrite) (boot : Boot) (s : State) : Out := live (lcCmd h 2 others boot) s

def execLcCmdDeploy (h : Nat) (others : List ObjWrite) (boot : Boot) (s : State) : Out := live (lcCmd h 3 others boot) s

def execLcCmdReturn (h : Nat) (others : List ObjWrite) (boot : Boot) (s : State) : Out := live (lcCmd h 4 others boot) s

def execLcCmdScrap (h : Nat) (others : List ObjWrite) (boot : Boot) (s : State) : Out := live (lcCmd h 5 others boot) s

def execTamelserService (boot : Boot) (s : State) : Out := live (service boot) s

def execZeroise (h value : Nat) (s : State) : Out :=
  live (rowWrite {} h { col := Alarm.ZEROISE, el := 0, val := value }) s

def execSecAlarm (cause : Nat) (s : State) : Out := .next (secAlarm cause s)

end Sys2Proof.Machine
end

