-- ==== Sys2Proof/Machine/Dispatch.lean ====
section
/-! DEFINITION. Which meaning each command has: one arm per constructor of Instr, each one direct call of its meaning. -/

namespace Sys2Proof.Machine

/-- The effect of one command on everything but the queue it came from. -/
def exec (i : Instr) (s : State) : Host.Outcome State Fault Refusal :=
  match i with
  | .hello datagram => Sys2Proof.Machine.execHello datagram s
  | .request from_ aux => Sys2Proof.Machine.execRequest from_ aux s
  | .objectWrite h w aux => Sys2Proof.Machine.execObjectWrite h w aux s
  | .deferredTxnApply aux => Sys2Proof.Machine.execDeferredTxnApply aux s
  | .lockWaitTimeout aux => Sys2Proof.Machine.execLockWaitTimeout aux s
  | .abort h slot reqId => Sys2Proof.Machine.execAbort h slot reqId s
  | .sessionCloseObject h slot => Sys2Proof.Machine.execSessionCloseObject h slot s
  | .hostCloseFrame datagram => Sys2Proof.Machine.execHostCloseFrame datagram s
  | .sessionTimeout slot => Sys2Proof.Machine.execSessionTimeout slot s
  | .pendingSessionExpiry slot => Sys2Proof.Machine.execPendingSessionExpiry slot s
  | .pcieDoorbell h tail bytes => Sys2Proof.Machine.execPcieDoorbell h tail bytes s
  | .eventDelivery slot => Sys2Proof.Machine.execEventDelivery slot s
  | .evRecRead h => Sys2Proof.Machine.execEvRecRead h s
  | .bulkWindowRead h address length errs => Sys2Proof.Machine.execBulkWindowRead h address length errs s
  | .bulkWindowWrite h address bytes => Sys2Proof.Machine.execBulkWindowWrite h address bytes s
  | .pstateReqActive h => Sys2Proof.Machine.execPstateReqActive h s
  | .pstateReqIdle h => Sys2Proof.Machine.execPstateReqIdle h s
  | .pstateReqStandby h => Sys2Proof.Machine.execPstateReqStandby h s
  | .idleHbmAccess => Sys2Proof.Machine.execIdleHbmAccess s
  | .selfRefreshReturn => Sys2Proof.Machine.execSelfRefreshReturn s
  | .wakeAtExpiry boot => Sys2Proof.Machine.execWakeAtExpiry boot s
  | .tin0Wake highNs boot => Sys2Proof.Machine.execTin0Wake highNs boot s
  | .mg0WakeFrame dst payload boot => Sys2Proof.Machine.execMg0WakeFrame dst payload boot s
  | .domainWake part => Sys2Proof.Machine.execDomainWake part s
  | .domainPowerDown part => Sys2Proof.Machine.execDomainPowerDown part s
  | .domainDrained part => Sys2Proof.Machine.execDomainDrained part s
  | .clusterClockGate cluster => Sys2Proof.Machine.execClusterClockGate cluster s
  | .clusterPowerGate cluster => Sys2Proof.Machine.execClusterPowerGate cluster s
  | .supplyWarn supply mv => Sys2Proof.Machine.execSupplyWarn supply mv s
  | .supplyRecovered supply minMv aux => Sys2Proof.Machine.execSupplyRecovered supply minMv aux s
  | .supplyReset supply minMv durUs boot => Sys2Proof.Machine.execSupplyReset supply minMv durUs boot s
  | .powerOn boot => Sys2Proof.Machine.execPowerOn boot s
  | .porstNReset lowNs boot => Sys2Proof.Machine.execPorstNReset lowNs boot s
  | .watchdog boot => Sys2Proof.Machine.execWatchdog boot s
  | .reset h value boot => Sys2Proof.Machine.execReset h value boot s
  | .bootRetry boot => Sys2Proof.Machine.execBootRetry boot s
  | .restore h value boot => Sys2Proof.Machine.execRestore h value boot s
  | .lcCmdProvision h others boot => Sys2Proof.Machine.execLcCmdProvision h others boot s
  | .lcCmdDeploy h others boot => Sys2Proof.Machine.execLcCmdDeploy h others boot s
  | .lcCmdReturn h others boot => Sys2Proof.Machine.execLcCmdReturn h others boot s
  | .lcCmdScrap h others boot => Sys2Proof.Machine.execLcCmdScrap h others boot s
  | .lifeCounterSample tj vcoreMv ppm wear => Sys2Proof.Machine.execLifeCounterSample tj vcoreMv ppm wear s
  | .lifeCounterWrite => Sys2Proof.Machine.execLifeCounterWrite s
  | .thermWarn sensor tj => Sys2Proof.Machine.execThermWarn sensor tj s
  | .thermLimit sensor tj => Sys2Proof.Machine.execThermLimit sensor tj s
  | .setTime h value => Sys2Proof.Machine.execSetTime h value s
  | .refSelWrite h value => Sys2Proof.Machine.execRefSelWrite h value s
  | .ptpMessageRx m => Sys2Proof.Machine.execPtpMessageRx m s
  | .delayReqSend port => Sys2Proof.Machine.execDelayReqSend port s
  | .referenceLost freqIn => Sys2Proof.Machine.execReferenceLost freqIn s
  | .ppsInEdge falling freqIn => Sys2Proof.Machine.execPpsInEdge falling freqIn s
  | .ppsTod h value => Sys2Proof.Machine.execPpsTod h value s
  | .arm h n => Sys2Proof.Machine.execArm h n s
  | .disarm h n => Sys2Proof.Machine.execDisarm h n s
  | .toutEdge n => Sys2Proof.Machine.execToutEdge n s
  | .tinEdge n falling pulseNs => Sys2Proof.Machine.execTinEdge n falling pulseNs s
  | .tinRead h n => Sys2Proof.Machine.execTinRead h n s
  | .rtcReload => Sys2Proof.Machine.execRtcReload s
  | .audioBlockTick din aes late lateOut => Sys2Proof.Machine.execAudioBlockTick din aes late lateOut s
  | .frameTick k => Sys2Proof.Machine.execFrameTick k s
  | .slotTick f => Sys2Proof.Machine.execSlotTick f s
  | .linkUp port lanes corr uncorr => Sys2Proof.Machine.execLinkUp port lanes corr uncorr s
  | .linkDown port lanes corr uncorr receiving => Sys2Proof.Machine.execLinkDown port lanes corr uncorr receiving s
  | .portDisable h port => Sys2Proof.Machine.execPortDisable h port s
  | .ingressFrame frame => Sys2Proof.Machine.execIngressFrame frame s
  | .packetCommit port parity => Sys2Proof.Machine.execPacketCommit port parity s
  | .puntDeliver slot => Sys2Proof.Machine.execPuntDeliver slot s
  | .meterRefill h source => Sys2Proof.Machine.execMeterRefill h source s
  | .legOpen h leg => Sys2Proof.Machine.execLegOpen h leg s
  | .legActivate h leg => Sys2Proof.Machine.execLegActivate h leg s
  | .legClose h leg => Sys2Proof.Machine.execLegClose h leg s
  | .legTeardownComplete leg => Sys2Proof.Machine.execLegTeardownComplete leg s
  | .confOpen h conf => Sys2Proof.Machine.execConfOpen h conf s
  | .confClose h conf => Sys2Proof.Machine.execConfClose h conf s
  | .sourceDefine h source => Sys2Proof.Machine.execSourceDefine h source s
  | .sourceDelete h source => Sys2Proof.Machine.execSourceDelete h source s
  | .subCreate h sub => Sys2Proof.Machine.execSubCreate h sub s
  | .subDelete h sub => Sys2Proof.Machine.execSubDelete h sub s
  | .rtcpReportSend leg => Sys2Proof.Machine.execRtcpReportSend leg s
  | .upNackSend source => Sys2Proof.Machine.execUpNackSend source s
  | .refreshRequestSend source => Sys2Proof.Machine.execRefreshRequestSend source s
  | .mosaicPictureEmit m => Sys2Proof.Machine.execMosaicPictureEmit m s
  | .spliceGroupOpen h g => Sys2Proof.Machine.execSpliceGroupOpen h g s
  | .spliceGroupClose h g => Sys2Proof.Machine.execSpliceGroupClose h g s
  | .mosaicOpen h m => Sys2Proof.Machine.execMosaicOpen h m s
  | .mosaicClose h m => Sys2Proof.Machine.execMosaicClose h m s
  | .query f message answerNs parity => Sys2Proof.Machine.execQuery f message answerNs parity s
  | .fretDataSend f parity => Sys2Proof.Machine.execFretDataSend f parity s
  | .link f message => Sys2Proof.Machine.execLink f message s
  | .linkWindowEnd => Sys2Proof.Machine.execLinkWindowEnd s
  | .hintRefreshExpiry f => Sys2Proof.Machine.execHintRefreshExpiry f s
  | .slot f message => Sys2Proof.Machine.execSlot f message s
  | .peerTimeout f => Sys2Proof.Machine.execPeerTimeout f s
  | .bearerSuspend f message => Sys2Proof.Machine.execBearerSuspend f message s
  | .bearerResume f message => Sys2Proof.Machine.execBearerResume f message s
  | .bearerRemap f message => Sys2Proof.Machine.execBearerRemap f message s
  | .bearerRelease f message => Sys2Proof.Machine.execBearerRelease f message s
  | .radioUeWrite h l ue => Sys2Proof.Machine.execRadioUeWrite h l ue s
  | .summaryRefill l => Sys2Proof.Machine.execSummaryRefill l s
  | .queueDeadlineAbandon l => Sys2Proof.Machine.execQueueDeadlineAbandon l s
  | .fretEnable h f => Sys2Proof.Machine.execFretEnable h f s
  | .fretDisable h f => Sys2Proof.Machine.execFretDisable h f s
  | .egressPick port parity => Sys2Proof.Machine.execEgressPick port parity s
  | .shaperTick => Sys2Proof.Machine.execShaperTick s
  | .legGroupOpen h g => Sys2Proof.Machine.execLegGroupOpen h g s
  | .legGroupClose h g => Sys2Proof.Machine.execLegGroupClose h g s
  | .groupWrite h l group => Sys2Proof.Machine.execGroupWrite h l group s
  | .install h context blob => Sys2Proof.Machine.execInstall h context blob s
  | .erase h context => Sys2Proof.Machine.execErase h context s
  | .prevHoldExpiry context => Sys2Proof.Machine.execPrevHoldExpiry context s
  | .kekKeyWrite h slot key => Sys2Proof.Machine.execKekKeyWrite h slot key s
  | .kekClear h slot => Sys2Proof.Machine.execKekClear h slot s
  | .zeroise h value => Sys2Proof.Machine.execZeroise h value s
  | .secAlarm cause => Sys2Proof.Machine.execSecAlarm cause s
  | .silentEntry conf => Sys2Proof.Machine.execSilentEntry conf s
  | .graphBlob h g bytes => Sys2Proof.Machine.execGraphBlob h g bytes s
  | .compile h g => Sys2Proof.Machine.execCompile h g s
  | .compileDone g => Sys2Proof.Machine.execCompileDone g s
  | .run h g => Sys2Proof.Machine.execRun h g s
  | .stop h g => Sys2Proof.Machine.execStop h g s
  | .graphDelete h g => Sys2Proof.Machine.execGraphDelete h g s
  | .portEnable h port => Sys2Proof.Machine.execPortEnable h port s
  | .portDisableAudio h port frame => Sys2Proof.Machine.execPortDisableAudio h port frame s
  | .prerollEnd port frame => Sys2Proof.Machine.execPrerollEnd port frame s
  | .postrollEnd port frame => Sys2Proof.Machine.execPostrollEnd port frame s
  | .maskApply port frame => Sys2Proof.Machine.execMaskApply port frame s
  | .audAsrcLocked port => Sys2Proof.Machine.execAudAsrcLocked port s
  | .audClockLost port => Sys2Proof.Machine.execAudClockLost port s
  | .audClockRestored port frame => Sys2Proof.Machine.execAudClockRestored port frame s
  | .audFsErr port off => Sys2Proof.Machine.execAudFsErr port off s
  | .audAsrcRelock port => Sys2Proof.Machine.execAudAsrcRelock port s
  | .aesBlockRx a => Sys2Proof.Machine.execAesBlockRx a s
  | .submit descriptor graph node pkts egress => Sys2Proof.Machine.execSubmit descriptor graph node pkts egress s
  | .dispatchCycle => Sys2Proof.Machine.execDispatchCycle s
  | .workItemCommit core stalls => Sys2Proof.Machine.execWorkItemCommit core stalls s
  | .workItemFault core fault stalls word => Sys2Proof.Machine.execWorkItemFault core fault stalls word s
  | .retire h kind unit_ => Sys2Proof.Machine.execRetire h kind unit_ s
  | .unretire h kind unit_ => Sys2Proof.Machine.execUnretire h kind unit_ s
  | .unitRetirement kind unit_ cause => Sys2Proof.Machine.execUnitRetirement kind unit_ cause s
  | .decodeOpen h d => Sys2Proof.Machine.execDecodeOpen h d s
  | .decodeClose h d => Sys2Proof.Machine.execDecodeClose h d s
  | .pictureReady d info => Sys2Proof.Machine.execPictureReady d info s
  | .pictureComplete d result => Sys2Proof.Machine.execPictureComplete d result s
  | .pictureAbandon d fault core access => Sys2Proof.Machine.execPictureAbandon d fault core access s
  | .startMsExpiry d => Sys2Proof.Machine.execStartMsExpiry d s
  | .encodeOpen h e => Sys2Proof.Machine.execEncodeOpen h e s
  | .encodeClose h e => Sys2Proof.Machine.execEncodeClose h e s
  | .layerPictureComplete e layer rows packets alt fault => Sys2Proof.Machine.execLayerPictureComplete e layer rows packets alt fault s
  | .encodeDeadline e => Sys2Proof.Machine.execEncodeDeadline e s
  | .outputOpen h k => Sys2Proof.Machine.execOutputOpen h k s
  | .outputClose h k => Sys2Proof.Machine.execOutputClose h k s
  | .composeFrameComplete k fault => Sys2Proof.Machine.execComposeFrameComplete k fault s
  | .engage h value => Sys2Proof.Machine.execEngage h value s
  | .pinEngage boot => Sys2Proof.Machine.execPinEngage boot s
  | .pinRelease => Sys2Proof.Machine.execPinRelease s
  | .releasePin h value high => Sys2Proof.Machine.execReleasePin h value high s
  | .overridePlayStart => Sys2Proof.Machine.execOverridePlayStart s
  | .seal h entry => Sys2Proof.Machine.execSeal h entry s
  | .storeClear h entry => Sys2Proof.Machine.execStoreClear h entry s
  | .storeData h entry bytes => Sys2Proof.Machine.execStoreData h entry bytes s
  | .retrain h training => Sys2Proof.Machine.execRetrain h training s
  | .trackingPass pc drift => Sys2Proof.Machine.execTrackingPass pc drift s
  | .refresh pc bank temp => Sys2Proof.Machine.execRefresh pc bank temp s
  | .scrubRepair queued corrected bad => Sys2Proof.Machine.execScrubRepair queued corrected bad s
  | .fence h pc => Sys2Proof.Machine.execFence h pc s
  | .unfence h pc => Sys2Proof.Machine.execUnfence h pc s
  | .margin h result => Sys2Proof.Machine.execMargin h result s
  | .capoSet h port => Sys2Proof.Machine.execCapoSet h port s
  | .capoClear h port => Sys2Proof.Machine.execCapoClear h port s
  | .drained port => Sys2Proof.Machine.execDrained port s
  | .arbCapoTimeout port => Sys2Proof.Machine.execArbCapoTimeout port s
  | .dmaStart h channel firmware host => Sys2Proof.Machine.execDmaStart h channel firmware host s
  | .dmaStop h channel firmware => Sys2Proof.Machine.execDmaStop h channel firmware s
  | .dmaDisable h channel host => Sys2Proof.Machine.execDmaDisable h channel host s
  | .dmaDescriptorDone channel host next errs => Sys2Proof.Machine.execDmaDescriptorDone channel host next errs s
  | .encodeFrameTick e => Sys2Proof.Machine.execEncodeFrameTick e s
  | .waitRapRefresh d => Sys2Proof.Machine.execWaitRapRefresh d s
  | .audRateRange port => Sys2Proof.Machine.execAudRateRange port s
  | .factoryProgramming objects => Sys2Proof.Machine.execFactoryProgramming objects s
  | .tamelserService boot => Sys2Proof.Machine.execTamelserService boot s
  | .pciePerstN => Sys2Proof.Machine.execPciePerstN s
  | .ringHeadWrite h ring head => Sys2Proof.Machine.execRingHeadWrite h ring head s
  | .ringCtrlWrite h ring enable base size vector shadow => Sys2Proof.Machine.execRingCtrlWrite h ring enable base size vector shadow s
  | .overrideStreamPlayout entry => Sys2Proof.Machine.execOverrideStreamPlayout entry s

end Sys2Proof.Machine
end

