-- ==== Sys2Proof/Safety.lean ====
section
/-! DEFINITION. What the claims call a run without trouble: when a host's write reaches its chapter's own rule, when an MRAM
record has room, and the canonical form of the memory. -/

namespace Sys2Proof.Machine

/-- A host's write reaches the rule of its chapter: one of the eight slots (R14), the control processor running (R415),
the object existing for the host with the right to write it and a value its row allows (R11, R391), no life-cycle bar
(R433), and no lock (R405). -/
structure State.Accepts (s : State) (h col el v : Nat) : Prop where
  slot : h < 8
  running : s.running = true
  passes : s.checkWrite h col el v = .ok ()
  alive : s.lcBars col = false
  unlocked : s.lockedByTxn h col el = false
  unheld : s.lockedByHeld h col el = false

/-- MRAM takes a journal record now: no supply warning holds it (R409), and the budget has room for it (R443). -/
structure State.MramRoom (s : State) : Prop where
  unheld : s.ctl.mramHold = false
  room : s.mramTake.2 = false

/-- The block idles or runs: its outcome is a next state. -/
def Runs (o : Out) : Prop := ∃ t, o = .next t

/-- The canonical form of the addressed memory: HBM and the shared memories. -/
def Memory.wf (m : MemX) : Bool := Tbl.wf 0 m.hbm && Tbl.wf 0 m.shm

/-- Nothing stands in the way of a boot to IDLE: an image loads, MRAM reads without errors, SAFETY_N is high, no journal waits,
and no object kept in MRAM enables a port or a clock output, which would demand its domain at once. -/
structure State.BootsQuietly (s : State) (b : Boot) : Prop where
  image : (bootImage b s.pwr.floor).1.isSome = true
  mram : b.mram = []
  safety : b.safetyLow = false
  journal : s.pwr.journal = []
  ports : s.column Lp.ENABLE = [] ∧ s.column AClk.MCLK_MODE = [] ∧ s.column AClk.WCLK_ON = []
  ptp : ∀ p < 20, s.on Ptp.ENABLE p = false

/-- The device after a reset of a cause (R427): IDLE, its control processor running, without sessions, requests, pending
transactions, legs or subscriptions. -/
structure State.Booted (t : State) (cause : Nat) : Prop where
  idle : t.rd Pwr.PSTATE 0 = 1
  cause : t.rd Pwr.RESET_CAUSE 0 = cause
  control : t.ctl = {}
  legs : ∀ l, t.rd Leg.STATE l = 0
  subs : ∀ h, t.rd Sub.STATE h = 0

/-- What a command leaves alone: the objects of the columns in p, every byte of HBM and of shared memory, and the queue of
commands. -/
structure Unchanged (p : Nat → Prop) (s t : State) : Prop where
  objects : ∀ col el, p col → t.rd col el = s.rd col el
  hbm : t.mem.hbm = s.mem.hbm
  shm : t.mem.shm = s.mem.shm
  pending : t.pending = s.pending

/-- The columns outside a list of object indexes. -/
def outside (ixs : List Nat) (col : Nat) : Prop := col / 256 ∉ ixs

/-- One event record more: it stands at the head of the HBM ring, with the next sequence number. -/
def Raised (s t : State) (code unit args : Nat) : Prop :=
  ∃ r : EvRec, t.ev.ring = (r :: s.ev.ring).take 65536 ∧ r.code = code ∧ r.unit = unit ∧ r.args = args ∧
    r.seq = (s.ev.seq + 1) % 2 ^ 32 ∧ t.ev.seq = r.seq

/-- An operation dispatched now gets a context that has keys: its record is whole, and it is not erased in this cycle. -/
def State.CtxServes (s : State) (c : Nat) : Prop :=
  s.ctxKeyed c = true ∧ s.cip.damaged.contains c = false ∧ (s.dispatch c).epoch = (s.ctxX c).epoch

/-- A compound packet of the device's own goes through on a wired leg: it is no longer than a packet may be, the leg's port is
enabled, its send context has keys and a stream z of MIX_SSRC with indices left, and both queues have room. -/
structure State.RtcpGoes (s : State) (l : Nat) (parts : List Rtcp) (z : StreamX) : Prop where
  wired : s.radio l = false
  port : s.on Lp.ENABLE (s.rd Leg.PORT l) = true
  whole : s.rtcpCopyLen l parts ≤ 9216
  keyed : s.CtxServes (txCtx l)
  stream : (s.ctxX (txCtx l)).stream? (s.rd LegMix.MIX_SSRC l) = some z
  left : z.exhausted (s.ctxGen (txCtx l)) true = false ∧ z.nextC < 2 ^ 30
  room : s.rd Egr.QLEVEL (s.rd Leg.PORT l) + s.rtcpCopyLen l parts + s.rd Egr.L2_OVH (s.rd Leg.PORT l) ≤
      s.rd Egr.QMAX (s.rd Leg.PORT l) ∧
    s.rd Shp.QBYTES l + s.rtcpCopyLen l parts + s.rd Egr.L2_OVH (s.rd Leg.PORT l) ≤ s.rd Shp.QMAX l

/-- A compound packet of these parts goes out on a leg: queued on its audio class behind what that held, or, where the class
held nothing, handed to the MAC at once (R161). -/
def SentRtcp (s t : State) (l : Nat) (parts : List Rtcp) : Prop :=
  ∃ c : CopyX, c.body = .rtcp parts ∧ c.ssrc = s.rd LegMix.MIX_SSRC l ∧
    ((t.legEg l).q0 = (s.legEg l).q0 ++ [c] ∧ t.out = s.out ∨
      (s.legEg l).q0 = [] ∧ (t.legEg l).q0 = [] ∧
        ∃ dscp ecn ip, t.out = .wire (s.rd Leg.PORT l) dscp ecn ip c :: s.out)

/-- The commands that can end STANDBY: the wake sources of R418, the resets that reach a sleeping device, the boot ROM's retry
of a wake, and the end of a supply warning, which lets the requests go on that it held. -/
def leavesStandby : Instr → Bool
  | .wakeAtExpiry _ => true
  | .tin0Wake _ _ => true
  | .mg0WakeFrame _ _ _ => true
  | .pinEngage _ => true
  | .supplyRecovered _ _ _ => true
  | .supplyReset _ _ _ _ => true
  | .powerOn _ => true
  | .porstNReset _ _ => true
  | .bootRetry _ => true
  | _ => false

/-- The commands of the Soundpost and of the pins, which act whether or not the control processor runs. -/
def actsAsleep : Instr → Bool
  | .secAlarm _ => true
  | .supplyWarn _ _ => true
  | .lifeCounterSample _ _ _ _ => true
  | .lifeCounterWrite => true
  | c => leavesStandby c

/-- STANDBY, with no command waiting that can end it. -/
structure State.Sleeps (s : State) : Prop where
  standby : s.standby = true
  quiet : ∀ c ∈ s.pending, leavesStandby c = false

end Sys2Proof.Machine
end

