-- ==== Sys2Proof/Certificates/Slice0/Obligations.lean ====
section
/-! DEFINITION. The statements for the provers. A statement about commands says of each, under hypotheses on the state and the
operands alone, that it answers a next state and what that state holds; its conjuncts stand one command each. -/

open Sys2Proof Sys2Proof.Machine

/-- A step runs the command at the front of the queue. For every command c and state s, step of s with c at the front
of its queue is exec of c on s with the rest of the queue. (The queue is the model's own field: log entry 5.)
(spec/INDEX.md, spec/18_control.md) -/
def Obligations.StepRunsTheFrontCommand : Prop :=
  ∀ (c : Instr) (rest : List Instr) (s : State), s.pending = c :: rest → step s = exec c { s with pending := rest }

/-- No command stops the block. Every command in every state answers a next state: the device reports a refused
command by a status or a counter, and never stops the model. (spec/20_faults.md, spec/18_control.md) -/
def Obligations.EveryCommandAnswers : Prop :=
  ∀ (c : Instr) (s : State), Runs (exec c s)

/-- Without the control processor nothing changes but by the Soundpost and the pins. While the control processor does
not run (STANDBY, or halted in its boot), every command other than those of the Soundpost and of the pins leaves the
whole state as it was. (spec/19_power_lifecycle.md) -/
def Obligations.AsleepOnlyTheSoundpostActs : Prop :=
  ∀ (c : Instr) (s : State), s.running = false → actsAsleep c = false → exec c s = .next s

/-- A step keeps STANDBY unless a waiting command is a wake source or a reset. For every state in STANDBY whose queue
holds no wake source of R418, no reset, no retry of a boot and no end of a supply warning, a step answers a state that
is again in STANDBY with such a queue. (spec/19_power_lifecycle.md) -/
def Obligations.SleepIsKept : Prop :=
  ∀ s t : State, s.Sleeps → step s = .next t → t.Sleeps

/-- STANDBY with nothing waiting is a state the device comes to. From the reset state a request for STANDBY by host 0
answers a next state that meets the premise of SleepIsKept. (spec/19_power_lifecycle.md) -/
def Obligations.StandbyIsReached : Prop :=
  ∃ t, exec (.pstateReqStandby 0) State.reset = .next t ∧ t.Sleeps

/-- A HELLO opens a pending session; CLOSE, silence and time end a session. A well-formed HELLO of an allowed peer
leaves a PENDING session with fresh keys and sends HELLO_ACK. An authentic CLOSE of the host, SESSION_TIMEOUT without
a frame, two seconds without the first frame, and a write of the close object each end the session named and leave the
other alone. (spec/08_srtp_cipher.md, spec/18_control.md) -/
def Obligations.SessionsOpenAndClose : Prop :=
  -- hello
  (∀ (s : State) (d : Datagram) (x : XHdr),
      s.running = true →
      s.mgTakes d = true →
      d.dport = s.rd Xar.UDP_PORT 0 →
      xHeader true d.bytes = some x →
      x.kind = 1 →
      x.prot = false →
      x.len = 16 →
      x.counter = 0 →
      allZero (slice d.bytes 24 8) = true →
      bitOf (s.rd Slot.MG_ALLOWED x.slot) d.mg.val = true →
      (s.rd Slot.PEER x.slot = 0 ∨ s.rd Slot.PEER x.slot = d.src) →
      s.rd SKek.SESSION_KEK x.slot ≠ 0xFF →
      s.rd Kek.STATE (s.rd SKek.SESSION_KEK x.slot) = 1 →
      ∃ t, exec (.hello d) s = .next t ∧
        ∃ q : SessX, (t.hostX x.slot).pend = some q ∧ (t.hostX x.slot).open_ = (s.hostX x.slot).open_ ∧
            q.port = d.mg.val ∧ q.addr = d.src ∧ q.udp = d.sport ∧ q.devUdp = d.dport ∧ q.tx = 1 ∧ q.rx = none ∧ q.atC = s.phys ∧
            q.dnonce = (s.draw 64).1 ∧ q.hnonce = beNat (slice d.bytes 16 8) ∧
            (q.rxKey, q.txKey) = sessionKeys (s.kekBytes (s.rd SKek.SESSION_KEK x.slot)) x.slot (natBE 8 q.dnonce)
              (slice d.bytes 16 8) ∧
            t.rd Slot.SESSION x.slot = (if (s.hostX x.slot).open_.isSome then 2 else 1) ∧
            t.out = .xaras d.mg.val (s.mgPath d.mg d.src) d.src d.sport (xHead true 2 x.slot false 16 0 ++ (natBE 8 q.dnonce ++ slice d.bytes 16 8) ++
              gcmTag q.txKey (xNonce x.slot 1 0) (xHead true 2 x.slot false 16 0 ++ (natBE 8 q.dnonce ++ slice d.bytes 16 8)) []) :: s.out) ∧
  -- hostCloseFrame
  (∀ (s : State) (d : Datagram) (x : XHdr) (q : SessX) (b : Bytes),
      s.running = true →
      s.mgTakes d = true →
      xHeader true d.bytes = some x →
      x.kind = 6 →
      x.prot = true →
      x.len ≤ 16384 →
      (s.hostX x.slot).open_ = some q →
      q.fits d = true →
      openFrame q.rxKey x d.bytes = some b →
      q.rx.getD 0 < x.counter →
      x.counter < indexLast false →
      b.length = 4 ∧ byteAt b 0 = 1 ∧ allZero (b.drop 1) = true →
      ∃ t, exec (.hostCloseFrame d) s = .next t ∧
        (t.hostX x.slot).open_ = none ∧
        (t.hostX x.slot).pend = (s.hostX x.slot).pend ∧
        t.rd Slot.SESSION x.slot = (if (s.hostX x.slot).pend.isSome then 1 else 0) ∧
        t.out = s.out) ∧
  -- sessionTimeout
  (∀ (s : State) (h : Fin 8) (q : SessX),
      s.running = true →
      (s.hostX h).open_ = some q →
      s.rd Xar.SESSION_TIMEOUT 0 * cycMs ≤ s.since q.atC →
      ∃ t, exec (.sessionTimeout h) s = .next t ∧
        (t.hostX h).open_ = none ∧
        (t.hostX h).pend = (s.hostX h).pend ∧
        t.rd Slot.SESSION h = (if (s.hostX h).pend.isSome then 1 else 0) ∧
        .xaras q.port (s.mgPath q.port q.addr) q.addr q.udp (sealFrame q.txKey 6 h q.tx (closeBody 2)) ∈ t.out) ∧
  -- pendingSessionExpiry
  (∀ (s : State) (h : Fin 8) (q : SessX),
      s.running = true →
      (s.hostX h).pend = some q →
      2 * cycS ≤ s.since q.atC →
      ∃ t, exec (.pendingSessionExpiry h) s = .next t ∧
        (t.hostX h).pend = none ∧
        (t.hostX h).open_ = (s.hostX h).open_ ∧
        t.rd Slot.SESSION h = (if (s.hostX h).open_.isSome then 2 else 0) ∧
        t.out = s.out) ∧
  -- sessionCloseObject
  (∀ (s : State) (h slot : Nat),
      s.Accepts h Slot.CLOSE slot 1 →
      s.ctl.after = [] →
      ∃ t, exec (.sessionCloseObject h slot) s = .next t ∧
        (t.hostX slot).open_ = none ∧
        (t.hostX slot).pend = none ∧
        t.rd Slot.SESSION slot = 0 ∧
        (∀ q, (s.hostX slot).open_ = some q → .xaras q.port (s.mgPath q.port q.addr) q.addr q.udp (sealFrame q.txKey 6 slot q.tx (closeBody 5)) ∈ t.out) ∧
        .status h 0 ∈ t.out)

/-- Doorbell, ring head, ring control and PERST_N act on the host's rings only. A doorbell takes the bytes between the
old and the new tail; a head write frees entries; RING_CTRL sets a disabled ring up empty and takes an enabled one
down; PERST_N clears all rings of all hosts and keeps the sessions. (spec/18_control.md) -/
def Obligations.PcieRings : Prop :=
  -- pcieDoorbell
  (∀ (s : State) (h tail : Nat) (bytes : Bytes),
      s.running = true →
      h < 8 →
      (s.ring h 0).enable = true →
      tail < (s.ring h 0).size →
      ∃ t, exec (.pcieDoorbell h tail bytes) s = .next t ∧
        t.ring h 0 = { s.ring h 0 with tail := tail } ∧
        (t.hostX h).unread = (s.hostX h).unread ++
            padTo ((tail + (s.ring h 0).size - (s.ring h 0).tail) % (s.ring h 0).size)
              (bytes.take ((tail + (s.ring h 0).size - (s.ring h 0).tail) % (s.ring h 0).size)) ∧
        t.od = s.od ∧
        t.out = s.out) ∧
  -- ringHeadWrite
  (∀ (s : State) (h ring head : Nat),
      s.running = true →
      h < 8 →
      1 ≤ ring ∧ ring ≤ 3 →
      head < (s.ring h ring).size →
      ∃ t, exec (.ringHeadWrite h ring head) s = .next t ∧
        (t.ring h ring).head = head ∧
        ((s.hostX h).held = [] → t.ring h ring = { s.ring h ring with head := head } ∧ t.out = s.out)) ∧
  -- ringCtrlWrite
  (∀ (s : State) (h ring base size vector shadow : Nat),
      s.running = true →
      h < 8 →
      ring < 4 →
      (s.ring h ring).enable = false →
      base % 64 = 0 ∧ base < 2 ^ 64 ∧ shadow < 2 ^ 64 ∧ vector ≤ 3 →
      size ∈ (List.range 9).map (fun i => 65536 * 2 ^ i) →
      ∃ t, exec (.ringCtrlWrite h ring true base size vector shadow) s = .next t ∧
        t.ring h ring = ⟨base, size, 0, 0, vector, true, shadow⟩ ∧
        (ring = 0 → t.rd Slot.PCIE h = 1) ∧
        t.out = s.out) ∧
  -- ringCtrlWriteOff
  (∀ (s : State) (h ring base size vector shadow : Nat),
      s.running = true →
      h < 8 →
      ring < 4 →
      ∃ t, exec (.ringCtrlWrite h ring false base size vector shadow) s = .next t ∧
        (t.ring h ring).enable = false ∧
        (ring = 0 → t.rd Slot.PCIE h = 0 ∧ (t.hostX h).unread = []) ∧
        (ring = 1 → (t.hostX h).held = [])) ∧
  -- pciePerstN
  (∀ (s : State),
      s.running = true →
      ∃ t, exec (.pciePerstN) s = .next t ∧
        (∀ h < 8, (t.hostX h).rings = [] ∧ (t.hostX h).unread = [] ∧ (t.hostX h).held = [] ∧ t.rd Slot.PCIE h = 0) ∧
        (∀ h < 8, (t.hostX h).open_ = (s.hostX h).open_ ∧ (t.hostX h).pend = (s.hostX h).pend) ∧
        t.out = s.out)

/-- Event records are read through EV_REC and delivered in an EVENT frame, to the EVT ring, or counted lost. A read of
EV_REC answers the first record of the ring from EV_SEL on that the host may see, and EV_SEL moves past it; where
there is none it answers zeros. A delivery takes at most 32 waiting records: with an OPEN session and a route over UDP
they leave in one EVENT frame of the session, and the sequence counter grows by their number; on the UDP route without
a session they are counted in EV_LOST; on the PCIe route a single record is written to the EVT ring of the host where
that is enabled and has room. (spec/18_control.md, spec/20_faults.md) -/
def Obligations.EventsReachTheHost : Prop :=
  -- evRecRead
  (∀ (s : State) (h : Fin 8) (r : EvRec),
      s.running = true →
      s.ev.ring.reverse.find? (fun r => decide ((s.hostX h).evSel ≤ r.seq) && (h.val == 0 || bitOf r.hosts h)) = some r →
      ∃ t, exec (.evRecRead h) s = .next t ∧
        t.out = .value h r.bytes :: s.out ∧
        (t.hostX h).evSel = (r.seq + 1) % 2 ^ 32 ∧
        t.ev.ring = s.ev.ring) ∧
  -- evRecReadNone
  (∀ (s : State) (h : Fin 8),
      s.running = true →
      s.ev.ring.all (fun r => decide (r.seq < (s.hostX h).evSel) || (h.val != 0 && !bitOf r.hosts h)) = true →
      ∃ t, exec (.evRecRead h) s = .next t ∧
        t.out = .value h (List.replicate 32 0) :: s.out ∧
        (t.hostX h).evSel = (s.hostX h).evSel ∧
        t.ev.ring = s.ev.ring) ∧
  -- eventDelivery
  (∀ (s : State) (h : Fin 8) (l : List (EvRec × Nat)) (q : SessX),
      s.running = true →
      Tbl.get [] s.ev.waiting h = l ∧ l ≠ [] →
      s.rd Slot.EV_ROUTE h ≠ 0 →
      (s.hostX h).open_ = some q →
      ((Tbl.get [] s.ev.udpAt h).filter (fun c => decide (s.since c < cycS))).length < 1000 →
      ∃ t, exec (.eventDelivery h) s = .next t ∧
        ∃ told : List (EvRec × Nat), Tbl.get [] t.ev.waiting h = l.drop 32 ++ told ∧
        Tbl.get 0 t.ev.hseq h = (Tbl.get 0 s.ev.hseq h + (l.take 32).length) % 2 ^ 32 ∧
        t.rd Slot.EV_LOST h = s.rd Slot.EV_LOST h ∧
        .xaras q.port (s.mgPath q.port q.addr) q.addr q.udp (sealFrame q.txKey 5 h q.tx (natBE 4 (Tbl.get 0 s.ev.hseq h) ++ natBE 2 (l.take 32).length ++
            [0, 0] ++ (l.take 32).flatMap (fun r => r.1.wire))) ∈ t.out) ∧
  -- eventDeliveryLost
  (∀ (s : State) (h : Fin 8) (l : List (EvRec × Nat)),
      s.running = true →
      Tbl.get [] s.ev.waiting h = l ∧ l ≠ [] →
      s.rd Slot.EV_ROUTE h = 1 →
      (s.hostX h).open_ = none →
      ∃ t, exec (.eventDelivery h) s = .next t ∧
        Tbl.get [] t.ev.waiting h = l.drop 32 ∧
        t.rd Slot.EV_LOST h = (s.rd Slot.EV_LOST h + (l.take 32).length) % 2 ^ 32 ∧
        Tbl.get 0 t.ev.hseq h = Tbl.get 0 s.ev.hseq h ∧
        t.out = s.out) ∧
  -- eventDeliveryPcie
  (∀ (s : State) (h : Fin 8) (r : EvRec) (c : Nat),
      s.running = true →
      Tbl.get [] s.ev.waiting h = [(r, c)] →
      s.rd Slot.EV_ROUTE h = 0 →
      (s.ring h 2).enable = true →
      (s.ring h 2).tail + 32 ≤ (s.ring h 2).size ∧ 32 ≤ (s.ring h 2).room →
      ∃ t, exec (.eventDelivery h) s = .next t ∧
        Tbl.get [] t.ev.waiting h = [] ∧
        .hostWrite h ((s.ring h 2).base + (s.ring h 2).tail) r.bytes ∈ t.out ∧
        Tbl.get 0 t.ev.hseq h = (Tbl.get 0 s.ev.hseq h + 1) % 2 ^ 32 ∧
        t.rd Slot.EV_LOST h = s.rd Slot.EV_LOST h)

/-- The bulk window reads and writes HBM within the host's grants. A read within the grants returns as many bytes as
asked, for host 1 those of the store; a write within them stores exactly those bytes at those addresses, clears READY
of the store entries it touches, and raises no window fault. (spec/18_control.md) -/
def Obligations.BulkWindow : Prop :=
  -- bulkWindowRead
  (∀ (s : State) (h : Fin 8) (a n : Nat) (errs : List ReadErr),
      s.running = true →
      s.mayRead h a n = true →
      ∃ t, exec (.bulkWindowRead h a n errs) s = .next t ∧
        ∃ b : Bytes, t.out = .window h b :: s.out ∧ b.length = n ∧
            (h.val = 1 → b = (List.range n).map (fun i => s.storeByte (a + i))) ∧
        t.rd Slot.WIN_FAULT h = s.rd Slot.WIN_FAULT h) ∧
  -- bulkWindowWrite
  (∀ (s : State) (h : Fin 8) (a : Nat) (b : Bytes),
      s.running = true →
      s.mayWrite h a b.length = true →
      ∃ t, exec (.bulkWindowWrite h a b) s = .next t ∧
        t.hbmGet a b.length = b ∧
        (b.length = 1 → t.storeByte a = b.getD 0 0) ∧
        (∀ e ∈ entriesAt a b.length, t.rd Store.READY e = 0) ∧
        t.rd Slot.WIN_FAULT h = s.rd Slot.WIN_FAULT h ∧
        t.out = s.out)

/-- Requests, deferred transactions, ABORT and the wait for a lock. A keep-alive request is answered with no results;
a request of one write stores the value and answers status 0 in one result; a write stores its value; ABORT removes
the pending transaction named; a due transaction is applied and leaves the queue; a request that waits one millisecond
for a lock fails with E_BUSY. (spec/18_control.md) -/
def Obligations.RequestsAndTransactions : Prop :=
  -- requestKeepAlive
  (∀ (s : State) (h : Nat) (aux : Aux) (f : XHdr) (r : ReqX),
      s.running = true →
      h < 8 ∧ s.ctl.after = [] →
      (s.ring h 0).enable = true ∧ (s.ring h 1).enable = true →
      (s.hostX h).held = [] →
      xHeader false (s.hostX h).unread = some f →
      f.kind = 3 ∧ f.slot = h ∧ f.prot = false ∧ f.counter = 0 ∧ 24 ≤ f.len ∧ f.len ≤ 16384 →
      parseBody false (slice (s.hostX h).unread 16 f.len) = .ok r ∧ r.ops = [] →
      (s.ring h 1).tail + 64 ≤ (s.ring h 1).size ∧ 64 ≤ (s.ring h 1).room →
      ∃ t, exec (.request (.pcie h) aux) s = .next t ∧
        .hostWrite h ((s.ring h 1).base + (s.ring h 1).tail)
            (xHead false 4 h false 8 0 ++ respBody false r.reqId 0 false []) ∈ t.out ∧
        t.rd Xar.ACCEPTED 0 = (s.rd Xar.ACCEPTED 0 + 1) % 2 ^ 64 ∧
        (t.hostX h).unread = (s.hostX h).unread.drop (min (s.hostX h).unread.length (roundUp 64 (16 + f.len)))) ∧
  -- requestWrite
  (∀ (s : State) (h : Nat) (aux : Aux) (f : XHdr) (r : ReqX) (o : OpX),
      s.running = true →
      h < 8 ∧ s.ctl.after = [] ∧ s.ctl.held = [] →
      (s.ring h 0).enable = true ∧ (s.ring h 1).enable = true →
      (s.hostX h).held = [] →
      xHeader false (s.hostX h).unread = some f →
      f.kind = 3 ∧ f.slot = h ∧ f.prot = false ∧ f.counter = 0 ∧ 24 ≤ f.len ∧ f.len ≤ 16384 →
      parseBody false (slice (s.hostX h).unread 16 f.len) = .ok r ∧ r.ops = [o] ∧ r.txn = false →
      o.reads = false ∧ o.pre = 0 ∧ o.ty = 2 ∧ o.len = 1 ∧ o.w.col = Slot.EV_MIN_SEV →
      s.Accepts h o.w.col o.w.el o.w.val →
      (s.ring h 1).tail + 64 ≤ (s.ring h 1).size ∧ 64 ≤ (s.ring h 1).room →
      ∃ t, exec (.request (.pcie h) aux) s = .next t ∧
        t.rd o.w.col o.w.el = o.w.val ∧
        .hostWrite h ((s.ring h 1).base + (s.ring h 1).tail)
            (xHead false 4 h false 12 0 ++ respBody false r.reqId 0 false [⟨0, 2, []⟩]) ∈ t.out ∧
        t.rd Xar.ACCEPTED 0 = (s.rd Xar.ACCEPTED 0 + 1) % 2 ^ 64) ∧
  -- objectWrite
  (∀ (s : State) (h : Nat) (w : ObjWrite) (aux : Aux),
      w.index * 256 + w.sub ∈ [Slot.EV_ROUTE, Slot.EV_MIN_SEV, Life.LOG_SEL, Mix.SIL_MS] →
      s.Accepts h (w.index * 256 + w.sub) w.element w.value →
      journals (w.index * 256 + w.sub) = false →
      (w.index * 256 + w.sub = Mix.SIL_MS → s.rd Conf.STATE w.element ≠ 0) →
      s.ctl.after = [] →
      ∃ t, exec (.objectWrite h w aux) s = .next t ∧
        t.rd (w.index * 256 + w.sub) w.element = w.value ∧
        t.out = .status h 0 :: s.out ∧
        t = (s.wr (w.index * 256 + w.sub) w.element w.value).emit (.status h 0)) ∧
  -- abort
  (∀ (s : State) (h slot reqId : Nat) (x : PTxn),
      s.Accepts h Slot.ABORT slot reqId →
      s.ctl.after = [] →
      s.ctl.deferred.find? (fun t => t.slot == slot && t.reqId == reqId) = some x →
      x.reserved = [] →
      ∃ t, exec (.abort h slot reqId) s = .next t ∧
        t.ctl.deferred = s.ctl.deferred.erase x ∧
        t.out = .status h 0 :: s.out ∧
        t.od = s.od) ∧
  -- deferredTxnApply
  (∀ (s : State) (aux : Aux) (x : PTxn) (w : WriteOp),
      s.running = true →
      s.ctl.deferred = [x] ∧ s.ctl.mramHold = false ∧ s.ctl.after = [] ∧ s.ctl.credit = [] ∧ s.ctl.trial = false →
      x.commit = 3 ∧ x.due ≤ s.clk ∧ x.writes = [w] ∧ x.reserved = [] →
      w.col = Slot.EV_MIN_SEV →
      s.checkWrite x.slot w.col w.el w.val = .ok () →
      s.lcBars w.col = false →
      ∃ t, exec (.deferredTxnApply aux) s = .next t ∧
        t.ctl.deferred = [] ∧
        t.rd w.col w.el = w.val ∧
        (s.hbmUp = true → Raised s t Ev.XARAS_TXN_APPLIED x.slot x.reqId)) ∧
  -- lockWaitTimeout
  (∀ (s : State) (aux : Aux) (k : Nat) (r : ReqX) (o : OpX),
      s.running = true →
      s.ctl.waiting = [k] ∧ s.ctl.after = [] →
      s.reqX k = some r ∧ r.txn = true ∧ r.route = .row ∧ r.ops = [o] ∧ r.after = [] →
      cycMs ≤ s.since r.at_ →
      ∃ t, exec (.lockWaitTimeout aux) s = .next t ∧
        t.ctl.waiting = [] ∧
        t.reqX k = none ∧
        t.out = .status r.slot Status.eBusy.code :: s.out ∧
        t.od = s.od)

/-- PSTATE_REQ enters ACTIVE, IDLE and STANDBY; self-refresh follows the accesses. An accepted request changes PSTATE
and the stacks' self-refresh as the state asks; in IDLE an access ends self-refresh and one millisecond without any
returns to it, with the contents of HBM kept. (spec/19_power_lifecycle.md, spec/18_control.md) -/
def Obligations.PowerStateRequests : Prop :=
  -- pstateReqActive
  (∀ (s : State) (h : Nat),
      s.Accepts h Pwr.PSTATE_REQ 0 0 →
      s.rd Pwr.PSTATE 0 = 1 →
      s.hbmUp = true →
      ∃ t, exec (.pstateReqActive h) s = .next t ∧
        t.rd Pwr.PSTATE 0 = 0 ∧
        t.mem.selfRefresh = false ∧
        t.out = .status h 0 :: s.out) ∧
  -- pstateReqIdle
  (∀ (s : State) (h : Nat),
      s.Accepts h Pwr.PSTATE_REQ 0 1 →
      s.rd Pwr.PSTATE 0 = 0 →
      s.idleBarred = false →
      (∀ k ∈ memPart :: fastParts, s.channelsOn k = [] ∧ s.itemsOn k = false) →
      s.part memPart ≠ 3 →
      ∃ t, exec (.pstateReqIdle h) s = .next t ∧
        t.rd Pwr.PSTATE 0 = 1 ∧
        t.mem.selfRefresh = true ∧
        (∀ k ∈ fastParts, t.part k = 0) ∧
        t.out = .status h 0 :: s.out) ∧
  -- pstateReqStandby
  (∀ (s : State) (h : Nat),
      s.Accepts h Pwr.PSTATE_REQ 0 2 →
      s.ctl.after = [] →
      s.standbyBarred = false →
      s.wakePassed = false →
      (∀ k ∈ memPart :: fastParts, s.channelsOn k = [] ∧ s.itemsOn k = false) →
      s.part memPart ≠ 3 →
      ∃ t, exec (.pstateReqStandby h) s = .next t ∧
        t.standby = true ∧
        t.mem.selfRefresh = true ∧
        (∀ k < 8, (t.hostX k).open_ = none ∧ (t.hostX k).pend = none) ∧
        .status h 0 ∈ t.out) ∧
  -- idleHbmAccess
  (∀ (s : State),
      s.running = true →
      s.rd Pwr.PSTATE 0 = 1 →
      s.hbmUp = true →
      ∃ t, exec (.idleHbmAccess) s = .next t ∧
        t.mem.selfRefresh = false ∧
        t.mem.hbmAt = s.phys ∧
        t.rd Pwr.PSTATE 0 = 1 ∧
        t.mem.hbm = s.mem.hbm ∧
        t.out = s.out) ∧
  -- selfRefreshReturn
  (∀ (s : State),
      s.running = true →
      s.rd Pwr.PSTATE 0 = 1 →
      s.mem.selfRefresh = false →
      cycMs ≤ s.since s.mem.hbmAt →
      ∃ t, exec (.selfRefreshReturn) s = .next t ∧
        t.mem.selfRefresh = true ∧
        t.rd Pwr.PSTATE 0 = 1 ∧
        t.mem.hbm = s.mem.hbm ∧
        t.out = s.out)

/-- Each wake source ends STANDBY. The wake time, a long enough pulse on TIN0, a wake frame on MG0, each where
enabled, and ENGAGE_N leave the device in IDLE with its control processor running, the cause of its last reset kept,
and the source reported (the last, in the override's state). (spec/19_power_lifecycle.md, spec/15_composition.md) -/
def Obligations.WakeSources : Prop :=
  -- wakeAtExpiry
  (∀ (s : State) (b : Boot),
      s.standby = true →
      bitOf (s.rd Pwr.WAKE_SRC 0) 0 = true ∧ s.rd Pwr.WAKE_AT 0 ≠ 0 →
      ofTime80 (s.rd Pwr.WAKE_AT 0) * 32768 / secU ≤ s.rtcNow →
      s.BootsQuietly b →
      ∃ t, exec (.wakeAtExpiry b) s = .next t ∧
        t.running = true ∧
        t.rd Pwr.PSTATE 0 = 1 ∧
        t.rd Pwr.RESET_CAUSE 0 = s.rd Pwr.RESET_CAUSE 0 ∧
        (t.hbmUp = true → ∃ r, t.ev.ring.head? = some r ∧ r.code = Ev.STANDBY_WAKE ∧ r.args = 0)) ∧
  -- tin0Wake
  (∀ (s : State) (ns : Nat) (b : Boot),
      s.standby = true →
      bitOf (s.rd Pwr.WAKE_SRC 0) 1 = true →
      1000 ≤ ns →
      s.BootsQuietly b →
      ∃ t, exec (.tin0Wake ns b) s = .next t ∧
        t.running = true ∧
        t.rd Pwr.PSTATE 0 = 1 ∧
        t.rd Pwr.RESET_CAUSE 0 = s.rd Pwr.RESET_CAUSE 0 ∧
        (t.hbmUp = true → ∃ r, t.ev.ring.head? = some r ∧ r.code = Ev.STANDBY_WAKE ∧ r.args = 1)) ∧
  -- mg0WakeFrame
  (∀ (s : State) (dst : Nat) (payload : Bytes) (b : Boot),
      s.standby = true →
      bitOf (s.rd Pwr.WAKE_SRC 0) 2 = true →
      (dst = s.rd Mg.MAC 0 ∨ dst = 2 ^ 48 - 1) →
      wakePattern (natLE 6 (s.rd Mg.MAC 0)) payload = true →
      s.BootsQuietly b →
      ∃ t, exec (.mg0WakeFrame dst payload b) s = .next t ∧
        t.running = true ∧
        t.rd Pwr.PSTATE 0 = 1 ∧
        t.rd Pwr.RESET_CAUSE 0 = s.rd Pwr.RESET_CAUSE 0 ∧
        (t.hbmUp = true → ∃ r, t.ev.ring.head? = some r ∧ r.code = Ev.STANDBY_WAKE ∧ r.args = 2)) ∧
  -- pinEngageWakes
  (∀ (s : State) (b : Boot),
      s.standby = true →
      s.BootsQuietly b →
      ∃ t, exec (.pinEngage b) s = .next t ∧
        t.running = true ∧
        t.rd Ros.STATE 0 / 2 % 2 = 1 ∧
        t.rd Pwr.RESET_CAUSE 0 = s.rd Pwr.RESET_CAUSE 0)

/-- Power domains wake, drain and switch off; idle clusters gate their clock, then their power. A waking domain comes
up; one nobody needs begins to drain and its DMA channels with it; a drained one goes off; a cluster idle for 10 ms
loses its clock and one idle for 100 ms begins to lose its power. (spec/19_power_lifecycle.md, spec/11_dsp_cores.md)
-/
def Obligations.DomainsAndClusters : Prop :=
  -- domainWake
  (∀ (s : State) (k : Nat),
      s.running = true →
      s.part k = 1 →
      ∃ t, exec (.domainWake k) s = .next t ∧
        t.part k = 2 ∧
        t.rd Pwr.PSTATE 0 = s.rd Pwr.PSTATE 0 ∧
        t.out = s.out) ∧
  -- domainPowerDown
  (∀ (s : State) (k : Nat),
      s.running = true →
      s.part k = 2 →
      s.mayPowerDown k = true →
      ∃ t, exec (.domainPowerDown k) s = .next t ∧
        t.part k = 3 ∧
        (∀ n ∈ s.channelsOn k, (t.dmaX n).part = some k) ∧
        t.out = s.out) ∧
  -- domainDrained
  (∀ (s : State) (k : Nat),
      s.running = true →
      s.part k = 3 →
      s.partBusy k = false →
      s.pwr.toIdle = false →
      ∃ t, exec (.domainDrained k) s = .next t ∧
        t.part k = 0 ∧
        (k = memPart → t.mem.selfRefresh = true) ∧
        t.out = s.out) ∧
  -- clusterClockGate
  (∀ (s : State) (c : Fin 8),
      s.running = true →
      s.part (cluPart c) = 2 →
      s.partBusy (cluPart c) = false →
      10 * cycMs ≤ s.idleFor c →
      ∃ t, exec (.clusterClockGate c) s = .next t ∧
        t.part (cluPart c) = 4 ∧
        t.rd Clu.POWER c = 1 ∧
        t.out = s.out) ∧
  -- clusterPowerGate
  (∀ (s : State) (c : Fin 8),
      s.running = true →
      s.part (cluPart c) = 4 →
      100 * cycMs ≤ s.idleFor c →
      ∃ t, exec (.clusterPowerGate c) s = .next t ∧
        t.part (cluPart c) = 3 ∧
        t.out = s.out)

/-- A supply dip holds MRAM writes until it ends and is then recorded; at the reset level the device resets. A supply
first found below its warning level while the device runs starts a dip, holds MRAM writes and, while HBM is in
service, puts SUPPLY_WARN in the ring; a lower sample deepens the dip. The end of the only dip ends the hold, makes a
write of the device held meanwhile, counts the dip with its length and lowest value and is told; while another dip
lasts the hold stays and the record of the dip is held too. A supply at its reset level boots the device: with cause 0
for a supply of the Soundpost, else with cause 3 and the dip's minimum kept. (spec/19_power_lifecycle.md,
spec/21_electrical.md) -/
def Obligations.SupplyDips : Prop :=
  -- supplyWarn
  (∀ (s : State) (k : Fin 6) (mv : Nat),
      s.running = true →
      mv < (supplyLevels k).1 →
      Tbl.get (0, 0) s.pwr.dips k = (0, 0) →
      ∃ t, exec (.supplyWarn k mv) s = .next t ∧
        Tbl.get (0, 0) t.pwr.dips k = (1 + (s.phys - 320), mv) ∧
        t.ctl.mramHold = true ∧
        (s.hbmUp = true → Raised s t Ev.SUPPLY_WARN 0 k) ∧
        t.out = s.out) ∧
  -- supplyWarnDeeper
  (∀ (s : State) (k : Fin 6) (mv m c : Nat),
      s.running = true →
      mv < (supplyLevels k).1 →
      Tbl.get (0, 0) s.pwr.dips k = (c + 1, m) →
      ∃ t, exec (.supplyWarn k mv) s = .next t ∧
        Tbl.get (0, 0) t.pwr.dips k = (c + 1, min m mv) ∧
        t.ctl.mramHold = s.ctl.mramHold ∧
        t.ev = s.ev ∧
        t.out = s.out) ∧
  -- supplyRecovered
  (∀ (s : State) (k : Fin 6) (mv m c : Nat) (aux : Aux),
      s.running = true →
      s.pwr.dips = [(k.val, (c + 1, m))] →
      s.ctl.held = [] ∧ s.ev.logHeld = [] ∧ s.ctl.waiting = [] ∧ s.ctl.after = [] →
      ∃ t, exec (.supplyRecovered k mv aux) s = .next t ∧
        t.pwr.dips = [] ∧
        t.ctl.mramHold = false ∧
        t.rd Pwr.DIPS 0 = (s.rd Pwr.DIPS 0 + 1) % 2 ^ 32 ∧
        t.rd Pwr.DIP_MS 0 = ceilDiv ((s.phys - 320 - c) / cycUs) 1000 % 2 ^ 32 ∧
        t.rd Pwr.DIP_MIN_MV 0 = min mv m % 65536 ∧
        (s.hbmUp = true → Raised s t Ev.SUPPLY_RECOVERED 0
            (k.val + 2 ^ 32 * ((s.phys - 320 - c) / cycUs % 2 ^ 32) + 2 ^ 64 * (min mv m % 2 ^ 16)))) ∧
  -- supplyRecoveredHeld
  (∀ (s : State) (k : Fin 6) (mv m c : Nat) (w : WriteOp) (aux : Aux),
      s.running = true →
      s.pwr.dips = [(k.val, (c + 1, m))] →
      s.ctl.held = [{ slot := 0x100, ops := [writeOp w] }] ∧ s.ev.logHeld = [] ∧ s.ctl.waiting = [] ∧ s.ctl.after = [] →
      w.col = Life.POWER_ON_H ∧ w.el = 0 →
      ∃ t, exec (.supplyRecovered k mv aux) s = .next t ∧
        t.pwr.dips = [] ∧
        t.ctl.mramHold = false ∧
        t.rd Life.POWER_ON_H 0 = w.val) ∧
  -- supplyRecoveredOther
  (∀ (s : State) (k : Fin 6) (mv m c : Nat) (e : Nat × Nat × Nat) (aux : Aux),
      s.running = true →
      Tbl.get (0, 0) s.pwr.dips k = (c + 1, m) →
      Tbl.set (0, 0) s.pwr.dips k (0, 0) = [e] →
      s.ctl.mramHold = true ∧ s.ctl.after = [] →
      ∃ t, exec (.supplyRecovered k mv aux) s = .next t ∧
        t.pwr.dips = [e] ∧
        t.ctl.mramHold = true ∧
        t.rd Pwr.DIPS 0 = s.rd Pwr.DIPS 0 ∧
        t.ctl.held.length = s.ctl.held.length + 3) ∧
  -- supplyReset
  (∀ (s : State) (k : Fin 6) (mv dur : Nat) (b : Boot),
      s.monitored k = true →
      mv ≤ (supplyLevels k).2.1 →
      s.BootsQuietly b →
      ∃ t, exec (.supplyReset k mv dur b) s = .next t ∧
        t.Booted (if alwaysOn k then 0 else 3) ∧
        (alwaysOn k = false → t.rd Pwr.DIP_MIN_MV 0 = mv % 65536))

/-- Every reset boots the device to IDLE with its cause. Power-on, PORST_N, the watchdog, the RESET object, RESTORE
and the boot ROM's retry each leave the device in IDLE, without sessions, requests, legs or subscriptions, with
RESET_CAUSE the cause of that reset; a power-on and the resets by command drive XSPI_RST_N low before the flash is
read. (spec/19_power_lifecycle.md, spec/18_control.md) -/
def Obligations.ResetsBoot : Prop :=
  -- powerOn
  (∀ (s : State) (b : Boot),
      s.BootsQuietly b →
      ∃ t, exec (.powerOn b) s = .next t ∧
        t.Booted 0 ∧
        t.clk = 0 ∧
        t.rd Clk.TIME_VALID 0 = 0 ∧
        t.pwr.provEn = b.provEn ∧
        ∃ reads : List Emission, t.out = reads ++ .xspiReset 10000 :: s.out ∧
        t.pending = s.pending) ∧
  -- porstNReset
  (∀ (s : State) (low : Nat) (b : Boot),
      10000 ≤ low →
      s.BootsQuietly b →
      ∃ t, exec (.porstNReset low b) s = .next t ∧
        t.Booted 1 ∧
        t.pwr.provEn = b.provEn ∧
        t.pending = s.pending) ∧
  -- watchdog
  (∀ (s : State) (b : Boot),
      s.running = true →
      s.BootsQuietly b →
      ∃ t, exec (.watchdog b) s = .next t ∧
        t.Booted 4) ∧
  -- reset
  (∀ (s : State) (h : Nat) (b : Boot),
      s.Accepts h Pwr.RESET 0 1 →
      s.ctl.after = [] →
      s.BootsQuietly b →
      ∃ t, exec (.reset h 1 b) s = .next t ∧
        t.Booted 2 ∧
        ∃ reads : List Emission, t.out = reads ++ .xspiReset 10000 :: .status h 0 :: s.out) ∧
  -- bootRetry
  (∀ (s : State) (b : Boot),
      s.ctl = { bootHalt := true } →
      10 * cycS ≤ s.since s.pwr.retryAt →
      s.BootsQuietly b →
      s.column Leg.STATE = [] ∧ s.column Sub.STATE = [] →
      ∃ t, exec (.bootRetry b) s = .next t ∧
        t.Booted s.pwr.bootCause) ∧
  -- restore
  (∀ (s : State) (h : Nat) (b : Boot),
      s.Accepts h Cal.RESTORE 0 1 →
      s.MramRoom →
      s.ctl.after = [] →
      s.BootsQuietly b →
      ∃ t, exec (.restore h 1 b) s = .next t ∧
        t.Booted 2 ∧
        ∃ reads : List Emission, t.out = reads ++ .xspiReset 10000 :: .status h 0 :: s.out ∧
        (∀ e, t.rd Xar.SESSION_TIMEOUT e = dflt Xar.SESSION_TIMEOUT e))

/-- The life counters sample each minute and are kept each hour; temperatures warn once. A minute's sample counts its
temperature bin and shows temperature and voltage; an hour's write adds the whole hours and keeps the rest; a junction
at the warning or limit level raises its event once. (spec/19_power_lifecycle.md) -/
def Obligations.LifeCountersAndTemperature : Prop :=
  -- lifeCounterSample
  (∀ (s : State) (tj ppm : Int) (mv wear : Nat),
      s.running = true →
      60 * cycS ≤ s.since s.pwr.sampleAt →
      -128 ≤ tj ∧ tj ≤ 127 →
      ∃ t, exec (.lifeCounterSample tj mv ppm wear) s = .next t ∧
        t.pwr.sampleAt = s.phys ∧
        t.pwr.minutes = s.pwr.minutes + (if 720 ≤ mv ∧ mv ≤ 780 then 1 else 0) ∧
        Tbl.get 0 t.pwr.binMin (tjBin tj) = Tbl.get 0 s.pwr.binMin (tjBin tj) + 1 ∧
        t.rdI Pwr.TJ_MAX 0 = tj ∧
        t.rd Pwr.VCORE_MV 0 = mv % 65536) ∧
  -- lifeCounterWrite
  (∀ (s : State),
      3600 * cycS ≤ s.since s.pwr.lifeAt →
      s.ctl.mramHold = false ∧ s.ctl.held = [] →
      s.rd Life.POWER_ON_H 0 < 2 ^ 32 ∧ s.rd Life.HBM_HOT_H 0 < 2 ^ 32 →
      ∃ t, exec (.lifeCounterWrite) s = .next t ∧
        t.rd Life.POWER_ON_H 0 = (s.rd Life.POWER_ON_H 0 + s.pwr.minutes / 60) % 2 ^ 32 ∧
        t.rd Life.HBM_HOT_H 0 = (s.rd Life.HBM_HOT_H 0 + s.pwr.hotMin / 60) % 2 ^ 32 ∧
        t.pwr.minutes = s.pwr.minutes % 60 ∧
        t.pwr.hotMin = s.pwr.hotMin % 60 ∧
        t.pwr.lifeAt = s.phys) ∧
  -- thermWarn
  (∀ (s : State) (sensor : Nat) (tj : Int),
      s.running = true →
      s.pwr.warned = false →
      s.thermWarnAt ≤ tj ∧ -128 ≤ tj ∧ tj ≤ 127 →
      ∃ t, exec (.thermWarn sensor tj) s = .next t ∧
        t.pwr.warned = true ∧
        (s.hbmUp = true → Raised s t Ev.THERM_WARN sensor (ofInt 8 tj))) ∧
  -- thermLimit
  (∀ (s : State) (sensor : Nat) (tj : Int),
      s.running = true →
      s.pwr.limited = false →
      s.thermLimitAt ≤ tj ∧ -128 ≤ tj ∧ tj ≤ 127 →
      ∃ t, exec (.thermLimit sensor tj) s = .next t ∧
        t.pwr.limited = true ∧
        (s.hbmUp = true → Raised s t Ev.THERM_LIMIT sensor (ofInt 8 tj)))

/-- The life-cycle commands move LC_STATE and reset the device. Factory programming takes BLANK to TEST; LC_CMD takes
TEST to PROVISIONED, PROVISIONED to DEPLOYED, DEPLOYED to RETURNED and any of these to SCRAP; the manufacturer's
service takes RETURNED to TEST. Each move but the first resets with cause 5, with XSPI_RST_N driven low.
(spec/19_power_lifecycle.md) -/
def Obligations.LifeCycle : Prop :=
  -- factoryProgramming
  (∀ (s : State) (w : ObjWrite),
      s.running = true →
      s.rd Ident.LC_STATE 0 = 0 →
      w.index * 256 + w.sub = Ident.SERIAL →
      w.element = 0 ∧ w.value < 2 ^ 64 →
      ∃ t, exec (.factoryProgramming [w]) s = .next t ∧
        t.rd Ident.LC_STATE 0 = 1 ∧
        t.rd Cal.FACT_STATE 0 = 1 ∧
        t.rd Ident.SERIAL 0 = w.value ∧
        t.out = s.out) ∧
  -- lcCmdProvision
  (∀ (s : State) (h : Nat) (b : Boot),
      s.Accepts h Ident.LC_CMD 0 2 →
      s.MramRoom →
      s.rd Ident.LC_STATE 0 = 1 →
      s.ctl.after = [] ∧ s.ctl.held = [] ∧ s.ctl.trial = false →
      s.BootsQuietly b →
      ∃ t, exec (.lcCmdProvision h [] b) s = .next t ∧
        t.Booted 5 ∧
        t.rd Ident.LC_STATE 0 = 2 ∧
        ∃ reads : List Emission, t.out = reads ++ .xspiReset 10000 :: .status h 0 :: s.out) ∧
  -- lcCmdDeploy
  (∀ (s : State) (h : Nat) (b : Boot),
      s.Accepts h Ident.LC_CMD 0 3 →
      s.MramRoom →
      s.rd Ident.LC_STATE 0 = 2 →
      s.ctl.after = [] ∧ s.ctl.held = [] ∧ s.ctl.trial = false →
      s.BootsQuietly b →
      ∃ t, exec (.lcCmdDeploy h [] b) s = .next t ∧
        t.Booted 5 ∧
        t.rd Ident.LC_STATE 0 = 3 ∧
        ∃ reads : List Emission, t.out = reads ++ .xspiReset 10000 :: .status h 0 :: s.out) ∧
  -- lcCmdReturn
  (∀ (s : State) (h : Nat) (b : Boot),
      s.Accepts h Ident.LC_CMD 0 4 →
      s.MramRoom →
      s.rd Ident.LC_STATE 0 = 3 →
      s.ctl.after = [] ∧ s.ctl.held = [] ∧ s.ctl.trial = false →
      s.BootsQuietly b →
      ∃ t, exec (.lcCmdReturn h [] b) s = .next t ∧
        t.Booted 5 ∧
        t.rd Ident.LC_STATE 0 = 4 ∧
        ∃ reads : List Emission, t.out = reads ++ .xspiReset 10000 :: .status h 0 :: s.out) ∧
  -- lcCmdScrap
  (∀ (s : State) (h : Nat) (b : Boot),
      s.Accepts h Ident.LC_CMD 0 5 →
      s.MramRoom →
      1 ≤ s.rd Ident.LC_STATE 0 ∧ s.rd Ident.LC_STATE 0 ≤ 4 →
      s.ctl.after = [] ∧ s.ctl.held = [] ∧ s.ctl.trial = false →
      s.BootsQuietly b →
      ∃ t, exec (.lcCmdScrap h [] b) s = .next t ∧
        t.Booted 5 ∧
        t.rd Ident.LC_STATE 0 = 5 ∧
        ∃ reads : List Emission, t.out = reads ++ .xspiReset 10000 :: .status h 0 :: s.out) ∧
  -- tamelserService
  (∀ (s : State) (b : Boot),
      s.running = true →
      s.rd Ident.LC_STATE 0 = 4 →
      s.ctl.after = [] ∧ s.ctl.mramHold = false →
      s.BootsQuietly b →
      ∃ t, exec (.tamelserService b) s = .next t ∧
        t.Booted 5 ∧
        t.rd Ident.LC_STATE 0 = 1 ∧
        ∃ reads : List Emission, t.out = reads ++ .xspiReset 10000 :: s.out)

/-- SET_TIME and REF_SEL act on the media clock; the RTC reloads each second. SET_TIME under a host reference sets the
clock, makes it valid and counts a step; REF_SEL restarts the lock and leaves the time; the RTC takes the clock's
value at each new second. (spec/03_time.md) -/
def Obligations.SettingTheClock : Prop :=
  -- setTime
  (∀ (s : State) (h v : Nat),
      s.Accepts h Clk.SET_TIME 0 v →
      s.rd Clk.REF_SEL 0 = 3 →
      ∃ t, exec (.setTime h v) s = .next t ∧
        t.clk = ofTime80 v ∧
        t.rd Clk.TIME_VALID 0 = 1 ∧
        t.rd Clk.STEPS 0 = (s.rd Clk.STEPS 0 + 1) % 2 ^ 32 ∧
        (s.hbmUp = true → Raised s t Ev.STEP 0 (stepArgs ((ofTime80 v : Int) - s.clk))) ∧
        t.out = .status h 0 :: s.out) ∧
  -- refSelWrite
  (∀ (s : State) (h v : Nat),
      s.Accepts h Clk.REF_SEL 0 v →
      s.MramRoom →
      ∃ t, exec (.refSelWrite h v) s = .next t ∧
        t.rd Clk.REF_SEL 0 = v ∧
        t.rd Clk.STATE 0 = (if v = 3 then 0 else if s.on Clk.TIME_VALID 0 then 1 else 0) ∧
        t.clk = s.clk ∧
        t.tim.good = 0 ∧
        t.out = .status h 0 :: s.out) ∧
  -- rtcReload
  (∀ (s : State),
      s.running = true →
      s.clk / secU ≠ s.tim.rtcSec →
      ∃ t, exec (.rtcReload) s = .next t ∧
        t.tim.rtc = s.clk * 32768 / secU ∧
        t.tim.rtcAt = s.phys ∧ t.tim.rtcSec = s.clk / secU ∧
        t.tim.rtcValid = (s.tim.rtcValid || s.on Clk.TIME_VALID 0) ∧
        t.clk = s.clk ∧ t.od = s.od ∧ t.out = s.out)

/-- PTP messages are taken, counted or sent, and a lost reference enters HOLDOVER. A Sync of the parent gives a
measurement; a message that does not fit its port's profile only counts an error; a due Delay_Req goes out with the
next sequence number; a silent PPS reference in LOCKED enters HOLDOVER at the average rate. (spec/03_time.md) -/
def Obligations.PtpAndHoldover : Prop :=
  -- ptpMessageRx
  (∀ (s : State) (m : PtpMsg),
      s.running = true →
      m.kind = .sync →
      s.ptpFits m = true ∧ s.ptpPort m = true →
      s.tim.parent = some m.port.val ∧ s.rd Ptp.PARENT m.port = m.source →
      ∃ t, exec (.ptpMessageRx m) s = .next t ∧
        t.rd Ptp.RX_COUNT m.port = (s.rd Ptp.RX_COUNT m.port + 1) % 2 ^ 32 ∧
        (t.ptpX m.port).syncAt = s.phys ∧
        (t.ptpX m.port).half = (if m.twoStep then some (m.seqId, s.ingressTime m.port, m.correction) else none) ∧
        (m.twoStep = false → (t.ptpX m.port).pair = some (s.ingressTime m.port - m.stamp - m.correction)) ∧
        t.out = s.out) ∧
  -- ptpMessageRxErr
  (∀ (s : State) (m : PtpMsg),
      s.running = true →
      m.kind ≠ .management ∧ m.kind ≠ .esmc →
      s.ptpPort m = true →
      (18 ≤ m.port.val ∨ s.on Ptp.ENABLE m.port = true) →
      (s.ptpFits m = false ∨ s.ptpKindOk m = false) →
      ∃ t, exec (.ptpMessageRx m) s = .next t ∧
        t = s.bump Ptp.ERR_COUNT m.port) ∧
  -- delayReqSend
  (∀ (s : State) (p : Fin 20),
      s.running = true →
      s.tim.parent = some p.val ∧ s.on Ptp.ENABLE p = true →
      (s.ptpX p).nextReq ≤ s.phys →
      ∃ t, exec (.delayReqSend p) s = .next t ∧
        t.out = .delayReq p (s.ptpX p).reqSeq :: s.out ∧
        (t.ptpX p).req = some ((s.ptpX p).reqSeq, s.egressTime p) ∧
        (t.ptpX p).reqSeq = ((s.ptpX p).reqSeq + 1) % 65536 ∧
        (t.ptpX p).nextReq = s.phys + logCycles (s.rdI Ptp.DELAY_LOG p) ∧
        t.od = s.od) ∧
  -- referenceLost
  (∀ (s : State) (f : Nat),
      s.running = true →
      s.rd Clk.REF_SEL 0 = 2 →
      s.rd Clk.STATE 0 = 2 →
      s.ppsSilent = true →
      ∃ t, exec (.referenceLost f) s = .next t ∧
        t.rd Clk.STATE 0 = 3 ∧
        t.rdI Clk.FREQ_ADJ 0 = satInt 32 (s.slewed s.adjAverage) ∧
        t.rd Ref.PPS_IN_STATE 0 = 0 ∧
        t.tim.holdoverAt = s.phys ∧
        (s.hbmUp = true → Raised s t Ev.HOLDOVER s.refPort 0))

/-- An edge on PPS_IN is measured and steps an unlocked clock. The active edge shows the frequency and period states
and fixes the second it marks; with REF_SEL at PPS and the clock unlocked it moves the clock onto that second; a time
of day write is kept for the next edge. (spec/03_time.md) -/
def Obligations.PpsInput : Prop :=
  -- ppsInEdge
  (∀ (s : State) (falling : Bool) (f : Nat),
      s.running = true →
      falling = (s.rd Ref.PPS_EDGE 0 == 1) →
      ∃ t, exec (.ppsInEdge falling f) s = .next t ∧
        t.rd Ref.FREQ_IN_STATE 0 = f % 3 ∧
        t.rd Ref.PPS_IN_STATE 0 = (if s.ppsPeriodOk then 1 else 2) ∧
        t.tim.ppsAt = some s.phys ∧
        t.tim.ppsRef = (if s.ppsPeriodOk || s.ppsTodDue.isSome then some (s.ppsSecond, s.phys) else s.tim.ppsRef)) ∧
  -- ppsInEdgeMeasures
  (∀ (s : State) (falling : Bool) (f : Nat),
      s.running = true →
      falling = (s.rd Ref.PPS_EDGE 0 == 1) →
      s.rd Clk.REF_SEL 0 = 2 →
      s.rd Clk.STATE 0 = 0 →
      s.tim.ppsTod = none ∧ s.ppsPeriodOk = true →
      ∃ t, exec (.ppsInEdge falling f) s = .next t ∧
        t.clk = (((s.clk : Int) - (s.ppsTime - ((s.ppsSecond * secU : Nat) : Int))) % (clockWrap : Int)).toNat ∧
        t.rd Clk.STATE 0 = 1 ∧
        t.rd Clk.TIME_VALID 0 = 1 ∧
        t.rd Clk.STEPS 0 = (s.rd Clk.STEPS 0 + 1) % 2 ^ 32) ∧
  -- ppsTod
  (∀ (s : State) (h v : Nat),
      s.Accepts h Ref.PPS_TOD 0 v →
      ∃ t, exec (.ppsTod h v) s = .next t ∧
        t.tim.ppsTod = some (v, s.phys) ∧
        t.clk = s.clk ∧ t.od = s.od ∧
        t.out = .status h 0 :: s.out)

/-- Time outputs arm, fire and disarm. ARM takes the output's first edge and its period and width; a one-shot whose
start has passed fails with E_LATE and changes nothing; a due edge emits its pulse, records its time and re-arms or
finishes; DISARM stops it. (spec/03_time.md) -/
def Obligations.TimeOutputs : Prop :=
  -- arm
  (∀ (s : State) (h n e : Nat),
      s.Accepts h Tout.ARM n 1 →
      s.toutRangeOk n = true →
      s.on Clk.TIME_VALID 0 = true →
      (s.rd Tout.MODE n = 1 ∨ s.rd Tout.MODE n = 2) →
      s.firstEdge n = some e →
      ∃ t, exec (.arm h n) s = .next t ∧
        (t.toutX n).armed = true ∧ (t.toutX n).next = e ∧ (t.toutX n).period = s.rd Tout.PERIOD n ∧ (t.toutX n).width = s.rd Tout.WIDTH n ∧
        (t.toutX n).oneShot = (s.rd Tout.MODE n == 1) ∧
        t.rd Tout.STATUS n = 1 ∧
        t.out = .status h 0 :: s.out) ∧
  -- armLate
  (∀ (s : State) (h n : Nat),
      s.Accepts h Tout.ARM n 1 →
      s.toutRangeOk n = true →
      s.on Clk.TIME_VALID 0 = true →
      s.rd Tout.MODE n = 1 ∧ bitOf (s.rd Tout.FLAGS n) 0 = false →
      ofTime80 (s.rd Tout.START n) ≤ s.toutPresent →
      ∃ t, exec (.arm h n) s = .next t ∧
        t = s.emit (.status h Status.eLate.code)) ∧
  -- disarm
  (∀ (s : State) (h n : Nat),
      s.Accepts h Tout.ARM n 2 →
      (s.rd Tout.MODE n = 1 ∨ s.rd Tout.MODE n = 2) →
      ∃ t, exec (.disarm h n) s = .next t ∧
        (t.toutX n).armed = false ∧ (t.toutX n).activeUntil = (s.toutX n).activeUntil ∧
        t.rd Tout.STATUS n = 0 ∧
        t.out = .status h 0 :: s.out) ∧
  -- toutEdge
  (∀ (s : State) (n : Fin 8),
      s.running = true →
      (s.toutX n).armed = true ∧ (s.toutX n).next ≤ s.clk →
      ∃ t, exec (.toutEdge n) s = .next t ∧
        t.out = .pulse n (((s.toutX n).next : Int) + psU (s.rdI Tout.COMP n))
            (((s.toutX n).next : Int) + psU (s.rdI Tout.COMP n) + ((s.toutX n).width * nsU : Nat)) :: s.out ∧
        t.rd Tout.LAST_EDGE n = time80 (s.toutX n).next ∧
        t.rd Tout.EDGES n = (s.rd Tout.EDGES n + 1) % 2 ^ 64 ∧
        ((s.toutX n).oneShot = true → (t.toutX n).armed = false ∧ t.rd Tout.STATUS n = 2) ∧
        ((s.toutX n).oneShot = false → (t.toutX n).armed = true ∧ (t.toutX n).next = jumpFrom (s.toutX n).jumps ((s.toutX n).next + (s.toutX n).period)))

/-- Edges on the time inputs are captured in a FIFO of 16 and read out. An enabled edge that passes the deglitcher is
time-stamped into the FIFO, or counted as lost where it is full; a read takes the oldest record or answers an invalid
one. (spec/03_time.md) -/
def Obligations.TimeCaptures : Prop :=
  -- tinEdge
  (∀ (s : State) (n : Fin 4) (falling : Bool) (ns : Nat),
      s.running = true →
      s.on Tin.ENABLE n = true ∧ s.rd Tin.DEGLITCH n ≤ ns →
      (s.rd Tin.EDGE n = 2 ∨ (s.rd Tin.EDGE n == 1) = falling) →
      ∃ t, exec (.tinEdge n falling ns) s = .next t ∧
        (16 ≤ (s.tinX n).fifo.length → (t.tinX n).fifo = (s.tinX n).fifo ∧ (t.tinX n).lost = true ∧
            t.rd Tin.OVERFLOW n = (s.rd Tin.OVERFLOW n + 1) % 2 ^ 32) ∧
        ((s.tinX n).fifo.length < 16 → ∃ r : CapRec, (t.tinX n).fifo = (s.tinX n).fifo ++ [r] ∧
            r.time = time80 (((s.clk : Int) - psU (s.rdI Tin.COMP n)) % (clockWrap : Int)).toNat ∧
            r.flags = capFlags falling (s.rd Clk.STATE 0 == 3) (!s.on Clk.TIME_VALID 0) (s.tinX n).stepped (s.tinX n).lost ∧
            (t.tinX n).lost = false ∧ (t.tinX n).stepped = false) ∧
        t.rd Tin.LEVEL n = (t.tinX n).fifo.length ∧
        t.out = s.out) ∧
  -- tinRead
  (∀ (s : State) (h n : Nat),
      s.running = true →
      s.checkRead h Tin.READ n = .ok () →
      ∃ t, exec (.tinRead h n) s = .next t ∧
        (∀ r rest, (s.tinX n).fifo = r :: rest → t.out = .value h r.bytes :: s.out ∧ (t.tinX n).fifo = rest ∧ t.rd Tin.LEVEL n = rest.length) ∧
        ((s.tinX n).fifo = [] → t = s.emit (.value h (List.replicate 12 0 ++ [0x80, 0, 0, 0]))))

/-- OPEN, ACTIVATE, CLOSE and the end of teardown move a leg through its states. OPEN takes a FREE leg to OPEN with
its owner; ACTIVATE takes an OPEN leg with both keys to ACTIVE, wired or radio; CLOSE takes it to CLOSING; the end of
teardown frees it. Each write answers status 0. (spec/02_legs_conferences.md) -/
def Obligations.LegLife : Prop :=
  -- legOpen
  (∀ (s : State) (h l : Nat),
      s.Accepts h Leg.CMD l 1 →
      s.rd Leg.STATE l = 0 →
      s.hbmUp = true →
      2 ^ 18 ≤ s.poolFree →
      ∃ t, exec (.legOpen h l) s = .next t ∧
        t.rd Leg.STATE l = 1 ∧
        t.rd Leg.OWNER l = s.ownerOf .leg l ∧
        t.rd Leg.KEYS l = 0 ∧
        (∀ k, k ≠ l → t.rd Leg.STATE k = s.rd Leg.STATE k) ∧
        t.out = .status h 0 :: s.out) ∧
  -- ACTIVATE of a wired leg
  (∀ (s : State) (h l : Nat),
      s.Accepts h Leg.CMD l 2 →
      s.rd Leg.STATE l = 1 →
      s.rd Leg.KEYS l = 3 →
      s.tupleTaken l = false →
      s.oneVersion l = true →
      s.radio l = false →
      ∃ t, exec (.legActivate h l) s = .next t ∧
        t.rd Leg.STATE l = 2 ∧
        t.rd Line.EST_KBPS l = s.rd Line.START_KBPS l ∧
        t.rd Leg.CEIL_LAYER l = lowerLayer (s.rd Leg.CAP_LAYER l) (s.rd Line.LINE_CEIL l) ∧
        t.out = .status h 0 :: s.out) ∧
  -- ACTIVATE of a radio leg
  (∀ (s : State) (h l : Nat),
      s.Accepts h Leg.CMD l 2 →
      s.rd Leg.STATE l = 1 →
      s.rd Leg.KEYS l = 3 →
      s.tupleTaken l = false →
      s.oneVersion l = true →
      s.radio l = true →
      s.bindingTaken l (s.rd Leg.PORT l) (s.rd Leg.RADIO_UE l) (s.rd FLeg.BEARER l) = false →
      ∃ t, exec (.legActivate h l) s = .next t ∧
        t.rd Leg.STATE l = 2 ∧
        t.rd FLeg.FSTATE l = 1 ∧
        t.out = .status h 0 :: s.out) ∧
  -- legClose
  (∀ (s : State) (h l : Nat),
      s.Accepts h Leg.CMD l 3 →
      (s.rd Leg.STATE l = 1 ∨ s.rd Leg.STATE l = 2) →
      ∃ t, exec (.legClose h l) s = .next t ∧
        t.rd Leg.STATE l = 3 ∧
        (∀ k, k ≠ l → t.rd Leg.STATE k = s.rd Leg.STATE k) ∧
        t.out = .status h 0 :: s.out) ∧
  -- legTeardownComplete
  (∀ (s : State) (l : Nat),
      s.running = true →
      s.rd Leg.STATE l = 3 →
      s.dataLeft l = false →
      ∃ t, exec (.legTeardownComplete l) s = .next t ∧
        t.rd Leg.STATE l = 0 ∧
        (∀ src ∈ s.sourcesOf l, t.rd Src.STATE src = 0) ∧
        (∀ k ∈ s.subsOfLeg l, t.rd Sub.STATE k = 0) ∧
        (s.hbmUp = true → ∃ r, t.ev.ring.head? = some r ∧ r.code = Ev.LEG_CLOSED ∧ r.args = l))

/-- A conference opens with its charge against the capacity and closes without it. OPEN takes a FREE conference whose
charge the capacity admits to OPEN; CLOSE of a conference without members frees it and gives the charge back.
(spec/02_legs_conferences.md) -/
def Obligations.ConferenceLife : Prop :=
  -- confOpen
  (∀ (s : State) (h c n o : Nat),
      s.Accepts h Conf.CMD c 1 →
      s.rd Conf.STATE c = 0 →
      s.members c = [] →
      s.ctl.credit = [] ∧ s.ctl.trial = false →
      n = s.rd Conf.CAND_MAX c * 2 + s.rd Conf.TOPK c * 20 →
      o = s.ownerOf .conf c →
      s.rd Cap.DSP_USED 0 + n ≤ s.cap .dsp →
      2 ≤ o → s.rd Part.DSP_USED o + n ≤ s.rd Part.DSP_QUOTA o →
      ∃ t, exec (.confOpen h c) s = .next t ∧
        t.rd Conf.STATE c = 1 ∧
        t.rd Conf.OWNER c = o ∧
        t.rd Cap.DSP_USED 0 = s.rd Cap.DSP_USED 0 + n ∧
        (2 ≤ o → t.rd Part.DSP_USED o = s.rd Part.DSP_USED o + n) ∧
        t.out = .status h 0 :: s.out) ∧
  -- confClose
  (∀ (s : State) (h c o : Nat),
      s.Accepts h Conf.CMD c 2 →
      s.rd Conf.STATE c = 1 →
      s.members c = [] →
      s.ctl.trial = false →
      o = s.ownerOf .conf c →
      ∃ t, exec (.confClose h c) s = .next t ∧
        t.rd Conf.STATE c = 0 ∧
        t.rd Cap.DSP_USED 0 = s.rd Cap.DSP_USED 0 - s.confCharge c ∧
        (2 ≤ o → t.rd Part.DSP_USED o = s.rd Part.DSP_USED o - s.confCharge c) ∧
        t.out = .status h 0 :: s.out)

/-- Sources are defined and deleted, subscriptions created and deleted. DEFINE takes a FREE source entry to DEFINED;
DELETE frees a source without users; CREATE takes a FREE subscription to a state of its leg; DELETE frees it.
(spec/02_legs_conferences.md, spec/05_layer_forwarding.md) -/
def Obligations.SourcesAndSubscriptions : Prop :=
  -- sourceDefine
  (∀ (s : State) (h src l : Nat),
      s.Accepts h Src.CMD src 1 →
      s.rd Src.STATE src = 0 →
      s.rd Src.LEG src = l ∧ l ≠ 0xFFFFFFFF →
      s.rd Leg.STATE l = 1 ∨ s.rd Leg.STATE l = 2 →
      s.rd Leg.CONF l = 0xFFFF →
      (s.crossing h .src src .leg l).1 = false →
      codecFits (s.rd Src.MEDIA src) (s.rd Src.CODEC src) = true →
      s.srcSsrcTaken src (s.rd Src.SSRC src) = false →
      (s.sourcesOf l).length < 4 →
      s.hbmUp = true →
      ∃ t, exec (.sourceDefine h src) s = .next t ∧
        t.rd Src.STATE src = 1 ∧
        t.rd Src.OWNER src = s.ownerOf .src src ∧
        t.rd Src.SSRC src = s.rd Src.SSRC src ∧
        (∀ k, k ≠ src → t.rd Src.STATE k = s.rd Src.STATE k) ∧
        t.out = .status h 0 :: s.out) ∧
  -- sourceDelete
  (∀ (s : State) (h src : Nat),
      s.Accepts h Src.CMD src 2 →
      s.rd Src.STATE src = 1 →
      ∃ t, exec (.sourceDelete h src) s = .next t ∧
        t.rd Src.STATE src = 0 ∧
        (∀ k ∈ s.subsOfSource src, t.rd Sub.STATE k = 0) ∧
        (∀ e ∈ s.elemsWith MosPos.SOURCE src, t.rd MosPos.SOURCE e = 0xFFFFFFFF)) ∧
  -- subCreate
  (∀ (s : State) (h k l src : Nat),
      s.Accepts h Sub.CMD k 1 →
      s.rd Sub.STATE k = 0 →
      l = s.rd Sub.LEG k ∧ src = s.rd Sub.SOURCE k →
      (s.crossing h .sub k .leg l).1 = false ∧ (s.crossing h .sub k .src src).1 = false →
      s.rd Leg.STATE l = 1 ∨ s.rd Leg.STATE l = 2 →
      s.rd Src.STATE src = 1 →
      (s.subsOfLeg l).any (fun j => s.rd Sub.SOURCE j == src) = false →
      s.hbmUp = true →
      s.on Sub.SSRC_AUTO k = false →
      s.ssrcTaken l k (s.rd Sub.OUT_SSRC k) = false →
      ((s.wr Sub.STATE k 1).sendStreams l).length ≤ streamMax (txCtx l) →
      ∃ t, exec (.subCreate h k) s = .next t ∧
        t.rd Sub.STATE k = 1 ∧
        t.rd Sub.CUR_LAYER k = 0xFF ∧
        t.rd Sub.OUT_SSRC k = s.rd Sub.OUT_SSRC k ∧
        (∀ j, j ≠ k → t.rd Sub.STATE j = s.rd Sub.STATE j) ∧
        t.out.head? = some (.status h 0)) ∧
  -- subDelete
  (∀ (s : State) (h k : Nat),
      s.Accepts h Sub.CMD k 2 →
      s.rd Sub.STATE k = 1 →
      ∃ t, exec (.subDelete h k) s = .next t ∧
        t.rd Sub.STATE k = 0 ∧
        (∀ j, j ≠ k → t.rd Sub.STATE j = s.rd Sub.STATE j) ∧
        t.out = .status h 0 :: s.out)

/-- Links come up and go down, and a port is disabled. A partner that appears on an enabled port sets its LINK and
raises LINK_UP; a lost one clears it and raises LINK_DOWN; a disabled port sends nothing more.
(spec/04_media_ingress.md, spec/18_control.md) -/
def Obligations.Links : Prop :=
  -- a media port's partner appears
  (∀ (s : State) (p : Fin 20) (lanes corr uncorr : Nat),
      s.running = true →
      p.val < 16 →
      s.on Lp.ENABLE p = true ∧ s.provided p = true →
      s.on Lp.LINK p = false →
      ∃ t, exec (.linkUp p lanes corr uncorr) s = .next t ∧
        t.rd Lp.LINK p = 1 ∧
        t.rd Mp.LANES_UP (p / 4) = lanes % 16 ∧
        t.rd Mp.FEC_CORR (p / 4) = (s.rd Mp.FEC_CORR (p / 4) + corr) % 2 ^ 64 ∧
        t.rd Mp.FEC_UNCORR (p / 4) = (s.rd Mp.FEC_UNCORR (p / 4) + uncorr) % 2 ^ 64 ∧
        (s.hbmUp = true → Raised s t Ev.LINK_UP p 0) ∧
        t.out = s.out) ∧
  -- a management port's partner appears
  (∀ (s : State) (p : Fin 20) (lanes corr uncorr : Nat),
      s.running = true →
      18 ≤ p.val →
      s.on Mg.LINK (p - 18) = false →
      ∃ t, exec (.linkUp p lanes corr uncorr) s = .next t ∧
        t.rd Mg.LINK (p - 18) = 1 ∧
        (s.hbmUp = true → Raised s t Ev.LINK_UP p 0) ∧
        t.out = s.out) ∧
  -- a media port's link is lost
  (∀ (s : State) (p : Fin 20) (lanes corr uncorr : Nat) (receiving : Bool),
      s.running = true →
      p.val < 16 →
      s.on Lp.LINK p = true →
      ∃ t, exec (.linkDown p lanes corr uncorr receiving) s = .next t ∧
        t.rd Lp.LINK p = 0 ∧
        t.rd Lp.FCS_ERR p = (if receiving && Tbl.get false s.ing.up p then (s.rd Lp.FCS_ERR p + 1) % 2 ^ 64 else s.rd Lp.FCS_ERR p) ∧
        (s.hbmUp = true → Raised s t Ev.LINK_DOWN p 0) ∧
        t.out = s.out) ∧
  -- portDisable
  (∀ (s : State) (h p : Nat),
      s.Accepts h Lp.ENABLE p 0 →
      s.MramRoom →
      ∃ t, exec (.portDisable h p) s = .next t ∧
        t.rd Lp.ENABLE p = 0 ∧
        t.rd Lp.LINK p = 0 ∧
        (∀ l ∈ s.legsInUse, s.radio l = false → s.rd Leg.PORT l = p → (t.legEg l).all = []) ∧
        t.out = .status h 0 :: s.out)

/-- Frames are classified, punted, verified and committed. An SRTP packet of a leg's source enters the port's FIFO
with its estimated index and colour; a frame of no leg is punted; a packet whose tag verifies is counted and stored,
and one whose tag fails is only counted. (spec/04_media_ingress.md, spec/08_srtp_cipher.md) -/
def Obligations.Ingress : Prop :=
  -- an SRTP packet of a leg's source, on a stream not yet seen, its meter off
  (∀ (s : State) (f : Frame) (l src a b sp dp dscp n : Nat) (v6 : Bool) (u : UdpPayload) (r : RtpPkt),
      s.running = true →
      f.port.val < 16 →
      s.on Lp.ENABLE f.port = true ∧ s.on Lp.LINK f.port = true →
      f.aborted = false ∧ f.pause = false ∧ f.upset = [] ∧ f.cacheFault = false ∧ f.damaged = [] ∧ s.cip.damaged = [] →
      64 ≤ f.length ∧ f.length ≤ s.rd Lp.MAX_FRAME f.port →
      s.rd Lp.FIFO_LEVEL f.port + s.rd Lp.MAX_FRAME f.port ≤ 524288 →
      (s.flight f.port).length < 2048 →
      f.vids.length ≤ 1 ∧ f.l3 = .udp v6 a b sp dp dscp n u →
      s.legFor f.port (f.vids.headD 0xFFFF) v6 a b sp dp = some l →
      128 ≤ u.b0 ∧ u.b0 ≤ 191 ∧ (u.b1 < 192 ∨ 223 < u.b1) →
      u.rtp = some r →
      r.ok (n - if v6 then 48 else 28) = true ∧ r.hdrLen ≤ 2048 →
      (if v6 then 48 else 28) + r.hdrLen + srtpTag (s.rd Ctx.SUITE (rxCtx l)) ≤ n →
      s.srcBySsrc l r.ssrc = some src →
      s.on Meter.ENABLE src = false →
      s.ctxKeyed (rxCtx l) = true →
      (s.ctxX (rxCtx l)).stream? r.ssrc = none ∧ s.streamFull (rxCtx l) r.ssrc = false →
      ∃ t, exec (.ingressFrame f) s = .next t ∧
        ∃ x : InX, t.flight f.port = s.flight f.port ++ [x] ∧ x.frame = f ∧ x.leg = l ∧ x.src = src ∧ x.kind = 0 ∧ x.index = r.seq ∧ x.colour = 0 ∧
            x.gen = s.ctxGen (rxCtx l) ∧ x.keys = s.ctxKeys (rxCtx l) ∧
        t.rd Lp.FIFO_LEVEL f.port = sumOf ((t.flight f.port).map (fun x => x.frame.length)) ∧
        t.rd Meter.GREEN src = (s.rd Meter.GREEN src + 1) % 2 ^ 64 ∧
        t.out = s.out) ∧
  -- a frame of no leg is punted
  (∀ (s : State) (f : Frame) (k : Nat) (a b sp dp dscp n : Nat) (v6 : Bool) (u : UdpPayload),
      s.running = true →
      f.port.val < 16 →
      s.on Lp.ENABLE f.port = true ∧ s.on Lp.LINK f.port = true →
      f.aborted = false ∧ f.pause = false ∧ f.upset = [] ∧ f.descParity = false ∧ f.fcsOk = true →
      64 ≤ f.length ∧ f.length ≤ s.rd Lp.MAX_FRAME f.port →
      s.rd Lp.FIFO_LEVEL f.port + s.rd Lp.MAX_FRAME f.port ≤ 524288 →
      (s.flight f.port).length < 2048 →
      f.vids.length ≤ 1 ∧ f.l3 = .udp v6 a b sp dp dscp n u →
      s.legFor f.port (f.vids.headD 0xFFFF) v6 a b sp dp = none →
      k = s.puntHost 3 none (some dp) →
      s.puntRoute k = true ∧ 10 ^ 9 ≤ s.puntTokens k ∧ (s.puntQ k).queue.length < 4096 →
      ∃ t, exec (.ingressFrame f) s = .next t ∧
        ∃ x : PuntX, (t.puntQ k).queue = (s.puntQ k).queue ++ [x] ∧ x.reason = 3 ∧ x.port = f.port ∧ x.raw = f.raw ∧
        t.rd Punt.QUEUED k = (s.puntQ k).queue.length + 1 ∧
        t.rd Lp.RX_FRAMES f.port = (s.rd Lp.RX_FRAMES f.port + 1) % 2 ^ 64 ∧
        t.out = s.out) ∧
  -- the tag verifies: an audio packet is counted and stored
  (∀ (s : State) (p : Fin 18) (x : InX) (rest : List InX) (v6 : Bool) (a b sp dp dscp n : Nat) (u : UdpPayload) (r : RtpPkt) (z : StreamX) (k : KeySet),
      s.running = true →
      p.val < 16 →
      s.flight p = x :: rest ∧ x.frame.port.val = p.val →
      x.frame.fcsOk = true ∧ frameUe x.frame = false ∧ x.frame.storeParity = false →
      x.kind = 0 ∧ x.kept = [] ∧ x.frame.l3 = .udp v6 a b sp dp dscp n u ∧ u.rtp = some r →
      (s.ctxX (rxCtx x.leg)).epoch = x.epoch →
      x.keys = some k ∧ (x.opened k).isSome = true →
      (s.ctxX (rxCtx x.leg)).stream? r.ssrc = some z →
      z.exhausted (s.ctxGen (rxCtx x.leg)) false = false ∧ x.index < 2 ^ 47 ∧ z.top = none →
      s.rd Src.STATE x.src = 1 ∧ s.rd Src.LEG x.src = x.leg ∧ s.rd Src.MEDIA x.src = 0 →
      ∃ t, exec (.packetCommit p false) s = .next t ∧
        t.flight p = rest ∧
        t.rd Lp.RX_FRAMES p = (s.rd Lp.RX_FRAMES p + 1) % 2 ^ 64 ∧
        t.rd Ctx.PKTS (rxCtx x.leg) = (s.rd Ctx.PKTS (rxCtx x.leg) + 1) % 2 ^ 64 ∧
        t.fwd.nextPkt = s.fwd.nextPkt + 1) ∧
  -- the tag fails: the packet is only counted
  (∀ (s : State) (p : Fin 18) (x : InX) (rest : List InX) (v6 : Bool) (a b sp dp dscp n : Nat) (u : UdpPayload) (r : RtpPkt),
      s.running = true →
      p.val < 16 →
      s.flight p = x :: rest ∧ x.frame.port.val = p.val →
      x.frame.fcsOk = true ∧ frameUe x.frame = false ∧ x.frame.storeParity = false →
      x.kind = 0 ∧ x.frame.l3 = .udp v6 a b sp dp dscp n u ∧ u.rtp = some r →
      (s.ctxX (rxCtx x.leg)).epoch = x.epoch →
      x.keys.bind x.opened = none ∧ (s.ctxX (rxCtx x.leg)).prev.bind (fun p => x.opened p.1) = none →
      ∃ t, exec (.packetCommit p false) s = .next t ∧
        t.flight p = rest ∧
        t.rd LegIn.AUTH_FAIL x.leg = (s.rd LegIn.AUTH_FAIL x.leg + 1) % 2 ^ 64 ∧
        t.rd Ctx.PKTS (rxCtx x.leg) = s.rd Ctx.PKTS (rxCtx x.leg) ∧
        t.fwd.nextPkt = s.fwd.nextPkt ∧
        t.out = s.out)

/-- A FIFO packet of length 0 is dropped and counted in ZERO_LEN. A packet that the MAC aborts before its first word
is stored changes nothing but ZERO_LEN of its port. (R88) -/
def Obligations.ZeroLengthPackets : Prop :=
  -- a packet that the MAC aborted before its first word was stored
  (∀ (s : State) (f : Frame),
      s.running = true →
      f.port.val < 16 ∧ s.on Lp.ENABLE f.port = true ∧ s.on Lp.LINK f.port = true →
      s.rd Lp.FIFO_LEVEL f.port + s.rd Lp.MAX_FRAME f.port ≤ 524288 →
      (s.flight f.port).length < 2048 →
      f.aborted = true →
      ∃ t, exec (.ingressFrame f) s = .next t ∧
        t.od = (s.bump Lp.ZERO_LEN f.port).od ∧
        t.ing = s.ing ∧ t.fwd = s.fwd ∧ t.ev = s.ev ∧
        t.out = s.out)

/-- Punted frames are delivered, and meters refill. The oldest punted frame goes out on its route, over UDP or not at
all where it has none; a meter gains the tokens of the time that passed, up to its burst. (spec/04_media_ingress.md)
-/
def Obligations.PuntAndMeter : Prop :=
  -- over UDP
  (∀ (s : State) (h : Fin 8) (x : PuntX) (rest : List PuntX) (q : SessX),
      s.running = true →
      (s.puntQ h).queue = x :: rest →
      s.rd Punt.ROUTE h ≠ 0 ∧ (s.hostX h).open_ = some q →
      ∃ t, exec (.puntDeliver h) s = .next t ∧
        t.out = .punted q.port (s.mgPath q.port q.addr) q.addr q.udp (puntHeader true x (((s.puntQ h).seq + 1) % 2 ^ 32) ++ x.raw) :: s.out ∧
        (t.puntQ h).queue = rest ∧ (t.puntQ h).seq = ((s.puntQ h).seq + 1) % 2 ^ 32 ∧
        t.rd Punt.QUEUED h = rest.length ∧
        t.rd Punt.SENT h = (s.rd Punt.SENT h + 1) % 2 ^ 64) ∧
  -- no route
  (∀ (s : State) (h : Fin 8) (x : PuntX) (rest : List PuntX),
      s.running = true →
      (s.puntQ h).queue = x :: rest →
      s.rd Punt.ROUTE h ≠ 0 ∧ (s.hostX h).open_ = none →
      ∃ t, exec (.puntDeliver h) s = .next t ∧
        t.out = s.out ∧
        (t.puntQ h).queue = rest ∧ (t.puntQ h).seq = (s.puntQ h).seq ∧
        t.rd Punt.DROPS h = (s.rd Punt.DROPS h + 1) % 2 ^ 64) ∧
  -- meterRefill
  (∀ (s : State) (h src : Nat),
      s.Accepts h Meter.CMD src 1 →
      s.rd Src.STATE src = 1 →
      ∃ t, exec (.meterRefill h src) s = .next t ∧
        t.meterX src = ⟨s.rd Meter.CBS src * tokB, s.rd Meter.PBS src * tokB, s.ns⟩ ∧
        (∀ k, k ≠ src → t.meterX k = s.meterX k) ∧
        t.od = s.od ∧
        t.out = .status h 0 :: s.out)

/-- Reports, upstream NACKs and refresh requests are sent. An ACTIVE leg's report is due once a period and goes into
its audio queue, or out at once where that queue is empty and tokens suffice; missing packets are asked for once in a
NACK; a pending refresh request goes to the source's leg as a PLI, or to the encoder of a device-produced source.
(spec/05_layer_forwarding.md) -/
def Obligations.RtcpAndRefresh : Prop :=
  -- a leg without sources, subscriptions or a mix reports an empty RR
  (∀ (s : State) (l : Nat) (z : StreamX),
      s.running = true →
      s.rd Leg.STATE l = 2 →
      s.rtcpIndex l ≠ (s.legX l).rtcpAt →
      s.sourcesOf l = [] ∧ s.subsOfLeg l = [] ∧ (s.legX l).mixSent = false →
      s.RtcpGoes l [.rr (s.rd LegMix.MIX_SSRC l) [], .sdes (s.rd LegMix.MIX_SSRC l) (s.cname l)] z →
      ∃ t, exec (.rtcpReportSend l) s = .next t ∧
        SentRtcp s t l [.rr (s.rd LegMix.MIX_SSRC l) [], .sdes (s.rd LegMix.MIX_SSRC l) (s.cname l)] ∧
        (t.legX l).rtcpAt = s.rtcpIndex l ∧
        t.rd Ctx.PKTS (txCtx l) = (s.rd Ctx.PKTS (txCtx l) + 1) % 2 ^ 64) ∧
  -- upNackSend
  (∀ (s : State) (src l : Nat) (z : StreamX) (due : List (Nat × Nat × Bool)),
      s.running = true →
      s.rd Src.STATE src = 1 ∧ s.rd Src.LEG src = l ∧ l ≠ 0xFFFFFFFF →
      s.rd Leg.STATE l = 2 ∧ s.on LegFb.UP_NACK l = true →
      due = (s.srcX src).missing.filter (fun m => decide (m.2.1 ≤ s.phys) && !m.2.2) ∧ due ≠ [] →
      s.RtcpGoes l [.rr (s.rd LegMix.MIX_SSRC l) [], .sdes (s.rd LegMix.MIX_SSRC l) (s.cname l),
          .nack (s.rd LegMix.MIX_SSRC l) (s.rd Src.SSRC src) (due.map (fun m => m.1 % 65536))] z →
      ∃ t, exec (.upNackSend src) s = .next t ∧
        SentRtcp s t l [.rr (s.rd LegMix.MIX_SSRC l) [], .sdes (s.rd LegMix.MIX_SSRC l) (s.cname l),
            .nack (s.rd LegMix.MIX_SSRC l) (s.rd Src.SSRC src) (due.map (fun m => m.1 % 65536))] ∧
        t.rd SrcFwd.NACK_TX src = (s.rd SrcFwd.NACK_TX src + due.length) % 2 ^ 64 ∧
        (∀ m ∈ (t.srcX src).missing, m.2.1 ≤ s.phys → m.2.2 = true)) ∧
  -- as a PLI to the source's leg
  (∀ (s : State) (src l : Nat) (z : StreamX),
      s.running = true →
      s.rd Src.STATE src = 1 ∧ s.rd Src.LEG src = l ∧ l ≠ 0xFFFFFFFF ∧ s.rd Leg.STATE l = 2 →
      (s.srcX src).refreshPend = true ∧ (s.srcX src).refreshFir = false ∧ (s.srcX src).refreshAt = none →
      s.RtcpGoes l [.rr (s.rd LegMix.MIX_SSRC l) [], .sdes (s.rd LegMix.MIX_SSRC l) (s.cname l),
          .pli (s.rd LegMix.MIX_SSRC l) (s.rd Src.SSRC src)] z →
      ∃ t, exec (.refreshRequestSend src) s = .next t ∧
        SentRtcp s t l [.rr (s.rd LegMix.MIX_SSRC l) [], .sdes (s.rd LegMix.MIX_SSRC l) (s.cname l),
            .pli (s.rd LegMix.MIX_SSRC l) (s.rd Src.SSRC src)] ∧
        (t.srcX src).refreshPend = false ∧ (t.srcX src).refreshAt = some s.phys ∧
        t.rd SrcFwd.PLI_TX src = (s.rd SrcFwd.PLI_TX src + 1) % 2 ^ 32) ∧
  -- to the encoder of a device-produced source
  (∀ (s : State) (src c : Nat),
      s.running = true →
      s.rd Src.STATE src = 1 ∧ s.rd Src.LEG src = 0xFFFFFFFF →
      (s.srcX src).refreshPend = true ∧ (s.srcX src).refreshAt = some c ∧ s.rd SrcFwd.PLI_MIN src * cycMs ≤ s.since c →
      ∃ t, exec (.refreshRequestSend src) s = .next t ∧
        t.fwd.encReq = s.fwd.encReq ++ [(src, (s.srcX src).refreshFir)] ∧
        (t.srcX src).refreshPend = false ∧ (t.srcX src).refreshAt = some s.phys ∧
        t.od = s.od ∧ t.out = s.out)

/-- The pick sends the head of the first class that can send; Fret DATA follows ANSWER order. A port's pick takes the
head copy of the leg it chooses, charges its shaper and counts it; a Fret port sends the oldest committed packet with
its DATA header. (spec/07_egress_shaping.md, spec/06_fret_interface.md) -/
def Obligations.EgressSends : Prop :=
  -- a leg outside the groups
  (∀ (s : State) (p : Fin 16) (k l : Nat) (x : CopyX) (rest : List CopyX),
      s.running = true →
      s.on Lp.ENABLE p = true →
      k < 4 ∧ (∀ j < k, s.pickLeg p j = none) ∧ s.pickLeg p k = some l →
      (s.legEg l).q k = x :: rest ∧ s.rd Shp.GROUP l = 0xFFFF →
      ∃ t, exec (.egressPick p 0) s = .next t ∧
        t.out = .wire p (s.dscpOf x) (s.ecnOf x.leg) (s.ipHead x).1 x :: s.out ∧
        (t.legEg l).q k = rest ∧
        (t.legEg l).sh.tok = ((s.legEg l).sh.refill s.shTick).tok - (s.charged p x * 8000000 : Nat) ∧
        t.rd Egr.TX_PKTS p = (s.rd Egr.TX_PKTS p + 1) % 2 ^ 64 ∧
        t.rd Egr.TX_BYTES p = (s.rd Egr.TX_BYTES p + s.charged p x) % 2 ^ 64 ∧
        t.rd Egr.QLEVEL p = s.rd Egr.QLEVEL p - x.charged) ∧
  -- fretDataSend
  (∀ (s : State) (f : Fin 2) (d : DataX) (rest : List DataX) (z : StreamX),
      s.running = true →
      (s.fPort f).data = d :: rest →
      d.copy.isRtcp = false →
      s.CtxServes (txCtx d.leg) →
      (s.ctxX (txCtx d.leg)).stream? d.copy.ssrc = some z →
      ∃ t, exec (.fretDataSend f 0) s = .next t ∧
        t.out = .fretData f (s.fretEther f ++ d.header (s.fPort f).txSeq) (s.sealCopy d.copy) :: s.out ∧
        (t.fPort f).data = rest ∧ (t.fPort f).txSeq = ((s.fPort f).txSeq + 1) % 2 ^ 32 ∧
        t.rd Fret.DATA_TX f = (s.rd Fret.DATA_TX f + 1) % 2 ^ 64 ∧
        t.rd Ctx.PKTS (txCtx d.leg) = (s.rd Ctx.PKTS (txCtx d.leg) + 1) % 2 ^ 64)

/-- A shaper's refill is the per-tick procedure, one tick in turn after another. One tick applies pending values at
their tick, clearing or capping the tokens, and then adds RATE times 1,000 up to BURST times 8,000,000. A refill to
tick n is the result of that procedure run once for every tick from the shaper's own to n; with no tick to run it
changes nothing. SHAPER_TICK runs it for every leg and group, on the 1,000 ns grid of local time. (R162) -/
def Obligations.ShaperRefill : Prop :=
  (∀ sh : ShX, sh.tickOnce =
      (let a : ShX := { sh with tick := sh.tick + 1 }
       let b : ShX := if a.pend = true ∧ a.pendTick ≤ a.tick then
           { a with rate := a.newRate, burst := a.newBurst,
                    tok := if a.newReset = true then 0 else min a.tok (a.newBurst * 8000000 : Nat),
                    pend := false, newReset := false }
         else a
       { b with tok := min (b.tok + (b.rate * 1000 : Nat)) (b.burst * 8000000 : Nat) })) ∧
    (∀ sh : ShX, sh.ticks 0 = sh ∧ ∀ k, sh.ticks (k + 1) = (sh.ticks k).tickOnce) ∧
    (∀ (sh : ShX) (n : Nat), sh.refill n = sh.ticks (n - sh.tick)) ∧
    (∀ s : State, s.running = true → ∃ t, exec .shaperTick s = .next t ∧
      t.egr.legs = s.egr.legs.map (fun r => (r.1, { r.2 with sh := r.2.sh.ticks (s.ns / 1000 - r.2.sh.tick) })) ∧
      t.egr.groups = s.egr.groups.map (fun r => (r.1, r.2.ticks (s.ns / 1000 - r.2.tick))) ∧
      t.od = s.od ∧ t.out = s.out)

/-- A shaper starts full, with RATE and BURST in force. When a wired leg becomes ACTIVE and when a group is opened,
the shaper has RATE and BURST in force, BURST times 8,000,000 tokens and the tick of local time. (A radio leg takes
none of the egress path.) (R164) -/
def Obligations.ShapersStartFull : Prop :=
  -- a leg becomes ACTIVE
  (∀ (s : State) (h l : Nat),
      s.Accepts h Leg.CMD l 2 →
      s.rd Leg.STATE l = 1 →
      s.rd Leg.KEYS l = 3 →
      s.tupleTaken l = false ∧ s.oneVersion l = true ∧ s.radio l = false →
      ∃ t, exec (.legActivate h l) s = .next t ∧
        (t.legEg l).sh = { tok := (s.rd Shp.BURST l * 8000000 : Nat), tick := s.ns / 1000, rate := s.rd Shp.RATE l, burst := s.rd Shp.BURST l }) ∧
  -- a group is opened
  (∀ (s : State) (h g : Nat),
      s.Accepts h LegGrp.CMD g 1 →
      s.rd LegGrp.STATE g = 0 →
      ∃ t, exec (.legGroupOpen h g) s = .next t ∧
        t.grpSh g = { tok := (s.rd LegGrp.BURST g * 8000000 : Nat), tick := s.ns / 1000, rate := s.rd LegGrp.RATE g, burst := s.rd LegGrp.BURST g } ∧
        t.rd LegGrp.STATE g = 1 ∧ t.rd LegGrp.OWNER g = h ∧
        t.out = .status h 0 :: s.out)

/-- Leg groups close, and legs join and leave them. A group without legs closes and reads its defaults; a write of
GROUP moves the leg in or out and counts it in LEGS, its own shaper unchanged. (spec/07_egress_shaping.md) -/
def Obligations.LegGroups : Prop :=
  -- legGroupClose
  (∀ (s : State) (h g : Nat),
      s.Accepts h LegGrp.CMD g 2 →
      s.groupSeen h g = true →
      s.rd LegGrp.STATE g = 1 ∧ s.rd LegGrp.LEGS g = 0 →
      ∃ t, exec (.legGroupClose h g) s = .next t ∧
        t.rd LegGrp.STATE g = 0 ∧
        t.rd LegGrp.RATE g = dflt LegGrp.RATE g ∧
        t.out = .status h 0 :: s.out) ∧
  -- a leg joins a group
  (∀ (s : State) (h l g : Nat),
      s.Accepts h Shp.GROUP l g →
      g < 4096 ∧ s.groupSeen h g = true →
      s.rd Leg.STATE l = 1 ∨ s.rd Leg.STATE l = 2 →
      s.rd LegGrp.STATE g = 1 ∧ s.rd LegGrp.PORT g = s.rd Leg.PORT l →
      s.rd Shp.GROUP l = 0xFFFF →
      ∃ t, exec (.groupWrite h l g) s = .next t ∧
        t.rd Shp.GROUP l = g ∧
        t.rd LegGrp.LEGS g = (s.rd LegGrp.LEGS g + 1) % 2 ^ 32 ∧
        t.legEg l = s.legEg l ∧
        t.out = .status h 0 :: s.out) ∧
  -- a leg leaves its group
  (∀ (s : State) (h l g : Nat),
      s.Accepts h Shp.GROUP l 0xFFFF →
      s.rd Leg.STATE l = 1 ∨ s.rd Leg.STATE l = 2 →
      s.rd Shp.GROUP l = g ∧ g ≠ 0xFFFF →
      ∃ t, exec (.groupWrite h l 0xFFFF) s = .next t ∧
        t.rd Shp.GROUP l = 0xFFFF ∧
        t.rd LegGrp.LEGS g = s.rd LegGrp.LEGS g - 1 ∧
        t.out = .status h 0 :: s.out)

/-- Splice groups and mosaics open and close; a mosaic emits its pictures. A group opens with its fill and skip tiles
coded and closes without members; a mosaic opens on a device-produced source whose layers it fills with its geometry,
closes to its defaults, and emits each picture 8 ms after its tick at the layer's rate. (spec/05_layer_forwarding.md)
-/
def Obligations.SplicesAndMosaics : Prop :=
  -- spliceGroupOpen
  (∀ (s : State) (h g : Nat),
      s.Accepts h Splice.CMD g 1 →
      rateOk (s.rd Splice.RATE_N g) (s.rd Splice.RATE_D g) = true ∧ s.rd Splice.PHASE g < s.rd Splice.PERIOD g →
      s.rd Splice.STATE g = 0 ∧ s.hbmUp = true →
      ∃ t, exec (.spliceGroupOpen h g) s = .next t ∧
        t.rd Splice.STATE g = 1 ∧ t.rd Splice.OWNER g = h ∧
        1 ≤ (Tbl.get {} t.fwd.groups g).fill ∧ 1 ≤ (Tbl.get {} t.fwd.groups g).skip ∧
        t.out = .status h 0 :: s.out) ∧
  -- spliceGroupClose
  (∀ (s : State) (h g : Nat),
      s.Accepts h Splice.CMD g 2 →
      s.rd Splice.STATE g = 1 ∧ s.rd Splice.MEMBERS g = 0 →
      ∃ t, exec (.spliceGroupClose h g) s = .next t ∧
        t.rd Splice.STATE g = 0 ∧
        t.out = .status h 0 :: s.out) ∧
  -- mosaicOpen
  (∀ (s : State) (h m g src w v : Nat),
      s.Accepts h Mos.CMD m 1 →
      s.rd Mos.STATE m = 0 ∧ s.hbmUp = true →
      g = s.rd Mos.GROUP m ∧ g < 255 ∧ s.splOwned h Splice.STATE Splice.OWNER g = true ∧ s.rd Splice.STATE g = 1 →
      src = s.rd Mos.OUT_SOURCE m ∧ src < 262144 ∧ s.reaches .src h src = true →
      s.rd Src.STATE src = 1 ∧ s.rd Src.MEDIA src = 1 ∧ s.rd Src.LEG src = 0xFFFFFFFF →
      (s.elemsWith Enc.OUT_SOURCE src).any (fun e => s.rd Enc.STATE e != 0) = false ∧ s.mosaicOf src = none →
      (s.mosPos m).all (fun x => x == posEmpty || s.mayTile g x) = true →
      w = s.rd Mos.COLS m * s.rd Splice.TILE_W g ∧ w ≤ 7680 ∧ v = s.rd Mos.ROWS m * s.rd Splice.TILE_H g ∧ v ≤ 4320 →
      ∃ t, exec (.mosaicOpen h m) s = .next t ∧
        t.rd Mos.STATE m = 1 ∧ t.rd Mos.OWNER m = h ∧
        (∀ i < 4, t.rd Layer.WIDTH (16 * src + i) = w ∧ t.rd Layer.HEIGHT (16 * src + i) = v) ∧
        t.out = .status h 0 :: s.out) ∧
  -- mosaicClose
  (∀ (s : State) (h m : Nat),
      s.Accepts h Mos.CMD m 2 →
      s.rd Mos.STATE m = 1 ∧ s.subsOfSource (s.rd Mos.OUT_SOURCE m) = [] →
      ∃ t, exec (.mosaicClose h m) s = .next t ∧
        t.rd Mos.STATE m = 0 ∧
        (∀ k < 64, t.rd MosPos.SOURCE (64 * m + k) = dflt MosPos.SOURCE (64 * m + k)) ∧
        t.out = .status h 0 :: s.out) ∧
  -- mosaicPictureEmit
  (∀ (s : State) (m : Fin 8192) (c g out i : Nat),
      s.running = true →
      s.rd Mos.STATE m = 1 →
      (s.mosX m).since = some c ∧ 8 * cycMs ≤ s.since c →
      g = s.rd Mos.GROUP m ∧ out = s.rd Mos.OUT_SOURCE m ∧ s.rd Src.STATE out = 1 →
      i = temporalId (s.groupTemporal g) (s.mosX m).tick →
      s.mosaicUp = true →
      ∃ t, exec (.mosaicPictureEmit m) s = .next t ∧
        (t.mosX m).emitted = (s.mosX m).emitted + 1 ∧
        t.rd Layer.FPS (16 * out + i) = 100 * s.rd Splice.RATE_N g * 2 ^ i / (s.rd Splice.RATE_D g * cycleOf (s.groupTemporal g)))

/-- A QUERY is answered: no leg, a late slot, or a commit of the queue's head. An entry that names no leg is answered
with NOLEG; for a slot that has begun every entry is answered with STATUS 1 and nothing is committed; a queued audio
packet that fits the budget is committed and answered with its packets, bytes and what remains.
(spec/06_fret_interface.md) -/
def Obligations.FretQueries : Prop :=
  -- an entry that names no leg
  (∀ (s : State) (f : Fin 2) (m : Bytes) (n slot qid ue b : Nat),
      s.running = true →
      s.on Fret.ENABLE f = true ∧ s.rd Fret.PEER f = 1 →
      fretCheck m = none ∧ byteAt m 1 = 1 ∧ byteAt m 14 = 1 ∧ (queryEntry m 0).bad = false →
      slot = beAt m 8 4 ∧ qid = beAt m 12 2 ∧ ue = beAt m 16 4 ∧ b = byteAt m 20 →
      (s.fPort f).answers.find? (fun a => a.1 == qid && a.2.1 == slot) = none →
      s.slotValid f slot = true ∧ (s.ns : Int) < s.slotStart f slot s.ns ∧
          s.slotStart f slot s.ns ≤ (s.ns : Int) + (s.rd Fret.MAX_LEAD f * 1000 : Nat) →
      s.binding f ue b = none →
      ∃ t, exec (.query f m n []) s = .next t ∧
        t.out = .fret f (s.fretWrap f (fretHeader 2 32 (s.fPort f).txSeq ++
            (natBE 4 slot ++ natBE 2 qid ++ natBE 1 1 ++ natBE 1 0 ++ answerEntry ue b 1 0 0 0))) :: s.out ∧
        t.rd Fret.QUERIES f = (s.rd Fret.QUERIES f + 1) % 2 ^ 64 ∧ t.rd Fret.ENTRIES f = (s.rd Fret.ENTRIES f + 1) % 2 ^ 64) ∧
  -- a slot that has begun
  (∀ (s : State) (f : Fin 2) (m : Bytes) (n slot qid ue b : Nat),
      s.running = true →
      s.on Fret.ENABLE f = true ∧ s.rd Fret.PEER f = 1 →
      fretCheck m = none ∧ byteAt m 1 = 1 ∧ byteAt m 14 = 1 →
      slot = beAt m 8 4 ∧ qid = beAt m 12 2 ∧ ue = beAt m 16 4 ∧ b = byteAt m 20 →
      (s.fPort f).answers.find? (fun a => a.1 == qid && a.2.1 == slot) = none →
      s.slotValid f slot = true ∧ s.slotStart f slot s.ns ≤ (s.ns : Int) →
      ∃ t, exec (.query f m n []) s = .next t ∧
        t.out = .fret f (s.fretWrap f (fretHeader 2 32 (s.fPort f).txSeq ++
            (natBE 4 slot ++ natBE 2 qid ++ natBE 1 1 ++ natBE 1 1 ++ answerEntry ue b 0 0 0 0))) :: s.out ∧
        t.rd Fret.STALE f = (s.rd Fret.STALE f + 1) % 2 ^ 32 ∧
        (∀ l, t.fLeg l = s.fLeg l)) ∧
  -- a queued audio packet that fits the budget is committed
  (∀ (s : State) (f : Fin 2) (m : Bytes) (n slot qid ue b l : Nat) (i : RItem),
      s.running = true →
      s.on Fret.ENABLE f = true ∧ s.rd Fret.PEER f = 1 →
      fretCheck m = none ∧ byteAt m 1 = 1 ∧ byteAt m 14 = 1 ∧ (queryEntry m 0).bad = false →
      slot = beAt m 8 4 ∧ qid = beAt m 12 2 ∧ ue = beAt m 16 4 ∧ b = byteAt m 20 →
      (s.fPort f).answers.find? (fun a => a.1 == qid && a.2.1 == slot) = none →
      s.slotValid f slot = true ∧ (s.ns : Int) < s.slotStart f slot s.ns ∧
          s.slotStart f slot s.ns ≤ (s.ns : Int) + (s.rd Fret.MAX_LEAD f * 1000 : Nat) →
      s.binding f ue b = some l ∧ s.rd FLeg.FSTATE l = 1 →
      s.fLeg l = { audio := [i], win := (1, 0, 0) } ∧ i.copy.leg = l →
      s.undo? l = none →
      expired i.dl (dlUnits (s.slotStart f slot s.ns).toNat) = false ∧ i.size + s.rd Fret.PKT_OVH f ≤ (queryEntry m 0).budget →
      ∃ t, exec (.query f m n []) s = .next t ∧
        t.out = .fret f (s.fretWrap f (fretHeader 2 32 (s.fPort f).txSeq ++
            (natBE 4 slot ++ natBE 2 qid ++ natBE 1 1 ++ natBE 1 0 ++
              answerEntry ue b 0 1 (i.size + s.rd Fret.PKT_OVH f) (s.rd FLeg.QBYTES l - i.copy.ipLen)))) :: s.out ∧
        (t.fLeg l).audio = [] ∧ (t.fPort f).data.length = (s.fPort f).data.length + 1)

/-- A LINK entry gives its bearer's rate; one that names no binding is counted and ignored. The rate of an entry that
names a leg's binding joins the rates of the leg's window, with its outage flag and its time. One that names none is
counted in RX_DISCARD and leaves every leg alone. (R147) -/
def Obligations.FretLinkEntries : Prop :=
  -- link
  (∀ (s : State) (f : Fin 2) (m : Bytes) (l : Nat),
      s.running = true →
      s.on Fret.ENABLE f = true ∧ s.rd Fret.PEER f = 1 →
      fretCheck m = none ∧ byteAt m 1 = 4 ∧ beAt m 12 2 = 1 →
      s.binding f (beAt m 16 4) (byteAt m 20) = some l →
      ∃ t, exec (.link f m) s = .next t ∧
        (t.fLeg l).rates = (s.fLeg l).rates ++ [beAt m 24 4] ∧
        (t.fLeg l).linkAt = some s.phys ∧
        (t.fLeg l).outage = ((s.fLeg l).outage || byteAt m 21 % 2 == 1) ∧
        t.out = s.out) ∧
  -- an entry that names no binding on the port
  (∀ (s : State) (f : Fin 2) (m : Bytes),
      s.running = true →
      s.on Fret.ENABLE f = true ∧ s.rd Fret.PEER f = 1 →
      fretCheck m = none ∧ byteAt m 1 = 4 ∧ beAt m 12 2 = 1 →
      s.binding f (beAt m 16 4) (byteAt m 20) = none →
      ∃ t, exec (.link f m) s = .next t ∧
        t.rd Fret.RX_DISCARD f = (s.rd Fret.RX_DISCARD f + 1) % 2 ^ 64 ∧
        t.fret.legs = s.fret.legs ∧ t.out = s.out)

/-- At the end of a 100 ms window line ceilings follow the measured rates. A radio leg's ceiling follows the mean of
its LINK rates through the candidate layer and the count of windows; a wired leg without feedback has the highest
ceiling. (spec/06_fret_interface.md, spec/07_egress_shaping.md) -/
def Obligations.WindowEnds : Prop :=
  -- an ACTIVE radio leg
  (∀ (s : State) (l f c r : Nat),
      s.running = true →
      s.elemsWith Leg.STATE 2 = [l] ∧ s.radio l = true ∧ f = s.rd Leg.PORT l →
      s.ns / 100000000 ≠ s.fret.window →
      (s.fLeg l).linkAt = some c ∧ s.since c < s.rd Fret.LINK_TIMEOUT f * cycMs ∧ (s.fLeg l).outage = false →
      (s.fLeg l).rates ≠ [] ∧ r = sumOf (s.fLeg l).rates / (s.fLeg l).rates.length →
      ∃ t, exec (.linkWindowEnd) s = .next t ∧
        t.rd FLeg.LINK_KBPS l = r ∧
        t.rd FLeg.LINE_CEIL l = (ceilingStep (s.candidate l r (s.rd Fret.HEADROOM f) (s.rd Fret.AUDIO_RES f))
            (s.rd FLeg.LINE_CEIL l) (s.fLeg l).up (s.rd Fret.UP_WINDOWS f)).1 ∧
        t.rd Leg.CEIL_LAYER l = lowerLayer (s.rd Leg.CAP_LAYER l) (t.rd FLeg.LINE_CEIL l) ∧
        (t.fLeg l).rates = [] ∧ t.fret.window = s.ns / 100000000) ∧
  -- an ACTIVE wired leg without feedback
  (∀ (s : State) (l : Nat),
      s.running = true →
      s.elemsWith Leg.STATE 2 = [l] ∧ s.radio l = false →
      s.ns / 100000000 ≠ s.fret.window →
      s.rd Line.FB_MODE l = 0 →
      ∃ t, exec (.linkWindowEnd) s = .next t ∧
        t.rd Line.LINE_CEIL l = 11 ∧
        t.rd Leg.CEIL_LAYER l = lowerLayer (s.rd Leg.CAP_LAYER l) 11 ∧
        t.fret.window = s.ns / 100000000)

/-- SLOT checks the slot clock, a silent peer is lost, and talker hints are repeated. A SLOT that agrees leaves the
counters; one that differs is counted and raises FRET_SLOT_MISMATCH with the difference; a peer silent for
PEER_TIMEOUT is lost; a talker set is sent again after HINT_REFRESH. (spec/06_fret_interface.md) -/
def Obligations.FretPeer : Prop :=
  -- a slot that agrees with the device's
  (∀ (s : State) (f : Fin 2) (m : Bytes),
      s.running = true →
      s.on Fret.ENABLE f = true ∧ s.rd Fret.PEER f = 1 →
      fretCheck m = none ∧ byteAt m 1 = 6 →
      s.slotValid f (beAt m 8 4) = true ∧ byteAt m 12 = s.rd FSlot.MU f →
      (((ofTime80 (beAt m 14 10) / nsU : Nat) : Int) - s.slotStart f (beAt m 8 4) s.ns).natAbs ≤ s.rd Fret.SLOT_TOL f →
      ∃ t, exec (.slot f m) s = .next t ∧
        t.rd Fret.SLOT_MISMATCH f = s.rd Fret.SLOT_MISMATCH f ∧
        (t.fPort f).heardAt = s.phys ∧ (t.fPort f).rxSeq = some (beAt m 4 4) ∧
        t.ev = s.ev ∧ t.out = s.out) ∧
  -- a slot that differs
  (∀ (s : State) (f : Fin 2) (m : Bytes) (d : Int),
      s.running = true ∧ s.hbmUp = true →
      s.on Fret.ENABLE f = true ∧ s.rd Fret.PEER f = 1 →
      fretCheck m = none ∧ byteAt m 1 = 6 →
      d = ((ofTime80 (beAt m 14 10) / nsU : Nat) : Int) - s.slotStart f (beAt m 8 4) s.ns ∧ s.rd Fret.SLOT_TOL f < d.natAbs →
      (s.fPort f).mismatchAt = none →
      ∃ t, exec (.slot f m) s = .next t ∧
        t.rd Fret.SLOT_MISMATCH f = (s.rd Fret.SLOT_MISMATCH f + 1) % 2 ^ 32 ∧
        Raised s t Ev.FRET_SLOT_MISMATCH f (slotArgs d)) ∧
  -- peerTimeout
  (∀ (s : State) (f : Fin 2),
      s.running = true ∧ s.hbmUp = true →
      s.rd Fret.PEER f = 1 ∧ s.rd Fret.PEER_TIMEOUT f * cycMs ≤ s.since (s.fPort f).heardAt →
      ∃ t, exec (.peerTimeout f) s = .next t ∧
        t.rd Fret.PEER f = 0 ∧
        Raised s t Ev.FRET_PEER_LOST f 0 ∧
        t.fret = s.fret ∧ t.out = s.out) ∧
  -- hintRefreshExpiry
  (∀ (s : State) (f : Fin 2) (e : Nat × Nat × Nat),
      s.running = true →
      s.hintOn f = true ∧ (s.fPort f).hintSent = true ∧ s.rd Fret.HINT_REFRESH f * cycMs ≤ s.since (s.fPort f).hintAt →
      s.talkerSet f = [e] →
      ∃ t, exec (.hintRefreshExpiry f) s = .next t ∧
        t.out = .fret f (s.fretWrap f (fretHeader 5 24 (s.fPort f).txSeq ++ (natBE 4 ((s.ns / 1000000 + 1) % 2 ^ 32) ++ natBE 2 1 ++ natBE 1 0 ++
            natBE 1 0 ++ (natBE 4 (s.rd Leg.RADIO_UE e.1) ++ natBE 1 (s.rd FLeg.BEARER e.1) ++ natBE 1 e.2.1 ++
              natBE 1 (s.hintLevel e.2.2) ++ natBE 1 0)))) :: s.out ∧
        (t.fPort f).hintAt = s.phys ∧
        t.rd Fret.HINT_TX f = (s.rd Fret.HINT_TX f + 1) % 2 ^ 64)

/-- BEARER operations suspend, resume, remap and release a leg and are echoed with their status. SUSPEND and RESUME
move FSTATE between active and suspended with the queue kept; REMAP gives the leg its new binding; RELEASE releases
it; the echo carries ACK and STATUS 0. A host's write of RADIO_UE remaps an ACTIVE radio leg, and is only stored on an
OPEN one. (spec/06_fret_interface.md) -/
def Obligations.FretBearers : Prop :=
  -- bearerSuspend
  (∀ (s : State) (f : Fin 2) (m : Bytes) (l : Nat),
      s.running = true →
      s.on Fret.ENABLE f = true ∧ s.rd Fret.PEER f = 1 →
      fretCheck m = none ∧ byteAt m 1 = 7 ∧ byteAt m 8 = 1 ∧ byteAt m 16 = 1 →
      beAt m 18 2 = 0 ∧ beAt m 26 2 = 0 ∧ beAt m 33 3 = 0 →
      s.binding f (beAt m 20 4) (byteAt m 24) = some l ∧ s.rd FLeg.FSTATE l = 1 →
      ∃ t, exec (.bearerSuspend f m) s = .next t ∧
        t.rd FLeg.FSTATE l = 2 ∧
        t.out = .fret f (s.fretWrap f (fretHeader 7 36 (s.fPort f).txSeq ++
            (slice m 8 1 ++ [1] ++ slice m 10 6 ++ (slice m 16 1 ++ natBE 1 0 ++ slice m 18 18)))) :: s.out ∧
        t.rd FLeg.GEN l = (s.rd FLeg.GEN l + 1) % 2 ^ 8 ∧ t.fret.legs = s.fret.legs) ∧
  -- bearerResume
  (∀ (s : State) (f : Fin 2) (m : Bytes) (l : Nat),
      s.running = true →
      s.on Fret.ENABLE f = true ∧ s.rd Fret.PEER f = 1 →
      fretCheck m = none ∧ byteAt m 1 = 7 ∧ byteAt m 8 = 1 ∧ byteAt m 16 = 2 →
      beAt m 18 2 = 0 ∧ beAt m 26 2 = 0 ∧ beAt m 33 3 = 0 →
      s.binding f (beAt m 20 4) (byteAt m 24) = some l ∧ s.rd FLeg.FSTATE l = 2 →
      ∃ t, exec (.bearerResume f m) s = .next t ∧
        t.rd FLeg.FSTATE l = 1 ∧
        t.out = .fret f (s.fretWrap f (fretHeader 7 36 (s.fPort f).txSeq ++
            (slice m 8 1 ++ [1] ++ slice m 10 6 ++ (slice m 16 1 ++ natBE 1 0 ++ slice m 18 18)))) :: s.out ∧
        t.fret.legs = s.fret.legs) ∧
  -- onto another binding of the same port
  (∀ (s : State) (f : Fin 2) (m : Bytes) (l ue b : Nat),
      s.running = true ∧ s.hbmUp = true →
      s.on Fret.ENABLE f = true ∧ s.rd Fret.PEER f = 1 →
      fretCheck m = none ∧ byteAt m 1 = 7 ∧ byteAt m 8 = 1 ∧ byteAt m 16 = 3 →
      beAt m 18 2 = 0 ∧ beAt m 26 2 = 0 ∧ beAt m 33 3 = 0 →
      s.binding f (beAt m 20 4) (byteAt m 24) = some l →
      byteAt m 25 = f ∧ ue = beAt m 28 4 ∧ b = byteAt m 32 ∧ b ≤ 31 →
      s.binding f ue b = none →
      ∃ t, exec (.bearerRemap f m) s = .next t ∧
        t.rd Leg.PORT l = f ∧ t.rd Leg.RADIO_UE l = ue ∧ t.rd FLeg.BEARER l = b ∧ t.rd FLeg.FSTATE l = 1 ∧
        Raised s t Ev.FRET_REMAP f (l + 2 ^ 32 * f) ∧
        t.out = .fret f (s.fretWrap f (fretHeader 7 36 (s.fPort f).txSeq ++
            (slice m 8 1 ++ [1] ++ slice m 10 6 ++ (slice m 16 1 ++ natBE 1 0 ++ slice m 18 18)))) :: s.out) ∧
  -- bearerRelease
  (∀ (s : State) (f : Fin 2) (m : Bytes) (l : Nat),
      s.running = true ∧ s.hbmUp = true →
      s.on Fret.ENABLE f = true ∧ s.rd Fret.PEER f = 1 →
      fretCheck m = none ∧ byteAt m 1 = 7 ∧ byteAt m 8 = 1 ∧ byteAt m 16 = 4 →
      beAt m 18 2 = 0 ∧ beAt m 26 2 = 0 ∧ beAt m 33 3 = 0 →
      s.binding f (beAt m 20 4) (byteAt m 24) = some l ∧ s.rd FLeg.FSTATE l ≠ 3 →
      ∃ t, exec (.bearerRelease f m) s = .next t ∧
        t.rd FLeg.FSTATE l = 3 ∧
        Raised s t Ev.FRET_RELEASED f l ∧
        t.out = .fret f (s.fretWrap f (fretHeader 7 36 (s.fPort f).txSeq ++
            (slice m 8 1 ++ [1] ++ slice m 10 6 ++ (slice m 16 1 ++ natBE 1 0 ++ slice m 18 18)))) :: s.out ∧
        t.fret.legs = s.fret.legs) ∧
  -- an ACTIVE radio leg moves to another binding
  (∀ (s : State) (h l ue : Nat),
      s.Accepts h Leg.RADIO_UE l ue →
      s.hbmUp = true ∧ s.rd Leg.STATE l = 2 ∧ s.radio l = true →
      s.binding (s.rd Leg.PORT l) ue (s.rd FLeg.BEARER l) = none →
      s.rd Leg.RADIO_UE l ≠ ue →
      ∃ t, exec (.radioUeWrite h l ue) s = .next t ∧
        t.rd Leg.RADIO_UE l = ue ∧ t.rd FLeg.FSTATE l = 1 ∧
        Raised s t Ev.FRET_REMAP (s.rd Leg.PORT l) (l + 2 ^ 32 * s.rd Leg.PORT l) ∧
        t.out = .status h 0 :: s.out) ∧
  -- an OPEN leg only stores it
  (∀ (s : State) (h l ue : Nat),
      s.Accepts h Leg.RADIO_UE l ue →
      s.rd Leg.STATE l = 1 →
      ∃ t, exec (.radioUeWrite h l ue) s = .next t ∧
        t.rd Leg.RADIO_UE l = ue ∧
        t.fret = s.fret ∧ t.ev = s.ev ∧
        t.out = .status h 0 :: s.out)

/-- Summaries are refilled, late frames abandoned, and Fret ports enabled and disabled. A refill puts the first items
of each class in the window; an incomplete frame past its deadline leaves the queue, counted in Q_DROP; ENABLE needs
valid time and starts the slot ticks; disabling keeps what was committed. (spec/06_fret_interface.md) -/
def Obligations.FretQueuesAndPorts : Prop :=
  -- summaryRefill
  (∀ (s : State) (l : Nat),
      s.running = true →
      (s.fLeg l).video = [] →
      ∃ t, exec (.summaryRefill l) s = .next t ∧
        (t.fLeg l).stale = false ∧
        (t.fLeg l).win = (min 3 (s.fLeg l).audio.length, min 1 (s.fLeg l).rtx.length, 0) ∧
        t.od = s.od ∧ t.out = s.out) ∧
  -- an incomplete frame whose deadline has passed
  (∀ (s : State) (l : Nat) (v : VItem),
      s.running = true →
      (s.fLeg l).video = [v] ∧ v.complete = false ∧ expired v.dl (dlUnits s.ns) = true →
      ∃ t, exec (.queueDeadlineAbandon l) s = .next t ∧
        (t.fLeg l).video = [] ∧
        t.rd FLeg.Q_DROP l = (s.rd FLeg.Q_DROP l + 1) % 2 ^ 64 ∧
        t.rd FLeg.QBYTES l = s.rd FLeg.QBYTES l - v.size) ∧
  -- fretEnable
  (∀ (s : State) (h f : Nat),
      s.Accepts h Fret.ENABLE f 1 →
      s.on Clk.TIME_VALID 0 = true ∧ s.hbmUp = true ∧ s.on Fret.ENABLE f = false →
      ∃ t, exec (.fretEnable h f) s = .next t ∧
        t.rd Fret.ENABLE f = 1 ∧
        Tbl.get {} t.tim.slot f = TickX.start (s.fretGrid f) s.ns ∧
        t.out = .status h 0 :: s.out) ∧
  -- fretDisable
  (∀ (s : State) (h f : Nat),
      s.Accepts h Fret.ENABLE f 0 →
      ∃ t, exec (.fretDisable h f) s = .next t ∧
        t.rd Fret.ENABLE f = 0 ∧
        t.fret = s.fret ∧
        t.out = .status h 0 :: s.out)

/-- Keys are installed and erased in contexts, and KEK slots written and cleared. An accepted blob gives the context
its key set, a new generation and the suite and KEK it names; ERASE empties the context and keeps GEN; the previous
keys end with their hold; a write of KEY loads the slot and its CHECK; CLEAR empties it and leaves the others.
(spec/08_srtp_cipher.md) -/
def Obligations.KeysAndKeks : Prop :=
  -- install
  (∀ (s : State) (h c : Nat) (b : Bytes) (k : KeySet),
      s.Accepts h Ctx.INSTALL c 0 →
      s.installCheck h c b none = .ok k →
      ∃ t, exec (.install h c b) s = .next t ∧
        (t.ctxX c).keys = some k ∧
        t.rd Ctx.GEN c = (s.rd Ctx.GEN c + 1) % 2 ^ 32 ∧
        t.rd Ctx.STATE c = 1 ∧ t.rd Ctx.SUITE c = k.suite ∧ t.rd Ctx.KEK c = byteAt b 1 ∧
        t.rd Leg.KEYS (c / 2) = (if c % 2 = 0 then s.rd Leg.KEYS (c / 2) / 2 * 2 + 1 else s.rd Leg.KEYS (c / 2) % 2 + 2) ∧
        t.out = .status h 0 :: s.out) ∧
  -- erase
  (∀ (s : State) (h c : Nat),
      s.Accepts h Ctx.ERASE c 1 →
      s.rd Ctx.STATE c ≠ 0 →
      ∃ t, exec (.erase h c) s = .next t ∧
        (t.ctxX c).keys = none ∧ (t.ctxX c).prev = none ∧ (t.ctxX c).streams = [] ∧ (t.ctxX c).epoch = (s.ctxX c).epoch + 1 ∧
        t.rd Ctx.STATE c = 0 ∧ t.rd Ctx.STREAMS c = 0 ∧ t.rd Ctx.KEK c = 0xFF ∧
        t.rd Ctx.GEN c = s.rd Ctx.GEN c ∧ t.rd Ctx.SUITE c = s.rd Ctx.SUITE c ∧
        t.out = .status h 0 :: s.out) ∧
  -- prevHoldExpiry
  (∀ (s : State) (c e : Nat) (k : KeySet),
      s.running = true →
      (s.ctxX c).prev = some (k, e) ∧ e ≤ s.phys →
      ∃ t, exec (.prevHoldExpiry c) s = .next t ∧
        (t.ctxX c).prev = none ∧ (t.ctxX c).keys = (s.ctxX c).keys ∧ (t.ctxX c).streams = (s.ctxX c).streams ∧
        t.od = s.od ∧ t.out = s.out) ∧
  -- kekKeyWrite
  (∀ (s : State) (h k v : Nat),
      s.Accepts h Kek.KEY k v →
      s.MramRoom →
      s.rd Kek.LEN k = 16 → v < 2 ^ 128 →
      ∃ t, exec (.kekKeyWrite h k v) s = .next t ∧
        Tbl.get 0 t.cip.kek k = v ∧
        t.rd Kek.STATE k = 1 ∧ t.rd Kek.CHECK k = kekCheck (natLE (s.rd Kek.LEN k) v) ∧
        t.rd Kek.WRITES k = (s.rd Kek.WRITES k + 1) % 2 ^ 32 ∧
        t.out = .status h 0 :: s.out) ∧
  -- kekClear
  (∀ (s : State) (h k : Nat),
      s.Accepts h Kek.CLEAR k 1 →
      ∃ t, exec (.kekClear h k) s = .next t ∧
        Tbl.get 0 t.cip.kek k = 0 ∧
        t.rd Kek.STATE k = 0 ∧ t.rd Kek.USERS k = 0 ∧ t.rd Kek.CHECK k = 0 ∧
        (∀ j, j ≠ k → t.rd Kek.STATE j = s.rd Kek.STATE j) ∧
        t.out = .status h 0 :: s.out)

/-- ZEROISE and a security alarm erase every key. Each sets CAUSE and counts the alarm, empties every context of keys,
previous keys and streams and every leg of KEYS, leaves every KEK slot empty with no key, ends every session, open or
pending, with its SESSION_KEK named no more, and keeps the power state. ZEROISE answers status 0.
(spec/08_srtp_cipher.md, spec/19_power_lifecycle.md) -/
def Obligations.AlarmsZeroise : Prop :=
  -- zeroise
  (∀ (s : State) (h : Nat),
      s.Accepts h Alarm.ZEROISE 0 1 →
      s.ctl.after = [] ∧ s.ctl.held.any HeldX.installs = false →
      ∃ t, exec (.zeroise h 1) s = .next t ∧
        t.rd Alarm.CAUSE 0 = 64 ∧ t.rd Alarm.COUNT 0 = (s.rd Alarm.COUNT 0 + 1) % 2 ^ 32 ∧
        (∀ c, t.rd Ctx.STATE c = 0 ∧ (t.ctxX c).keys = none ∧ (t.ctxX c).prev = none ∧ (t.ctxX c).streams = []) ∧
        (∀ l, t.rd Leg.KEYS l = 0) ∧
        (∀ k < 16, t.rd Kek.STATE k = 0 ∧ Tbl.get 0 t.cip.kek k = 0) ∧
        (∀ k < 8, t.rd SKek.SESSION_KEK k = 0xFF ∧ (t.hostX k).open_ = none ∧ (t.hostX k).pend = none) ∧
        t.rd Pwr.PSTATE 0 = s.rd Pwr.PSTATE 0 ∧
        t.out.head? = some (.status h 0)) ∧
  -- secAlarm
  (∀ (s : State) (c : Nat),
      s.rd Ident.LC_STATE 0 = 3 ∧ 0 < c ∧ c < 64 →
      ∃ t, exec (.secAlarm c) s = .next t ∧
        t.rd Alarm.CAUSE 0 = c ∧ t.rd Alarm.COUNT 0 = (s.rd Alarm.COUNT 0 + 1) % 2 ^ 32 ∧
        (∀ c, t.rd Ctx.STATE c = 0 ∧ (t.ctxX c).keys = none ∧ (t.ctxX c).prev = none ∧ (t.ctxX c).streams = []) ∧
        (∀ l, t.rd Leg.KEYS l = 0) ∧
        (∀ k < 16, t.rd Kek.STATE k = 0 ∧ Tbl.get 0 t.cip.kek k = 0) ∧
        (∀ k < 8, t.rd SKek.SESSION_KEK k = 0xFF ∧ (t.hostX k).open_ = none ∧ (t.hostX k).pend = none) ∧
        t.rd Pwr.PSTATE 0 = s.rd Pwr.PSTATE 0)

/-- A block tick of the mixers advances its stream, and a quiet conference falls silent. A block tick of the mixers
posts its tick to the scheduler and moves its grid on; a conference without sources has no candidates and talkers and
one quiet block more; a running output port whose block is late counts it. A conference quiet for SIL_MS becomes
SILENT. (spec/09_audio_mixing.md, spec/12_scheduler.md) -/
def Obligations.AudioBlocks : Prop :=
  -- a conference without sources and member legs, and a running output port whose block is late
  (∀ (s : State) (c q k : Nat) (din : List (Nat × List PinBit)) (aes : List (Nat × List AesFrame)) (late : List (Nat × Nat)),
      s.running = true →
      s.tim.block.due blockGrid s.ns = true ∧ k = s.tim.block.next →
      s.elemsWith Conf.STATE 1 = [c] ∧ s.members c = [] ∧ s.on Mix.SILENT c = false →
      s.sch.items = [] ∧ s.sch.held = [] ∧ s.mixLegs = [] ∧ s.aud.graphs = [] ∧ s.tim.block.skipped = 0 →
      q < 16 ∧ s.rd Sap.STATE q = 3 →
      ∃ t, exec (.audioBlockTick din aes late [q]) s = .next t ∧
        t.tim.block = s.tim.block.post ∧
        Tbl.get 0 t.sch.ticks 0 = k % 2 ^ 25 + 1 ∧
        (t.confX c).cand = [] ∧ (t.confX c).talkers = [] ∧ (t.confX c).quiet = (s.confX c).quiet + 1 ∧
        t.rd Mix.CANDS c = 0 ∧ t.rd Mix.TALKERS c = talkersValue [] ∧
        t.rd Sap.LATE q = (s.rd Sap.LATE q + 1) % 2 ^ 32) ∧
  -- silentEntry
  (∀ (s : State) (c : Nat),
      s.running = true →
      s.rd Conf.STATE c = 1 ∧ s.on Mix.SILENT c = false ∧ s.rd Mix.SIL_MS c ≤ (s.confX c).quiet →
      ∃ t, exec (.silentEntry c) s = .next t ∧
        t.rd Mix.SILENT c = 1 ∧
        (t.confX c).silentAt = s.ns / 1000000 + 1 ∧ (t.confX c).cand = (s.confX c).cand ∧ (t.confX c).outs = [] ∧
        t.out = s.out)

/-- A route graph's blob is staged and compiled. The first bytes make a FREE graph STAGED, owned by the host; more
bytes are appended; CMD COMPILE makes it COMPILING. Its completion leaves it COMPILED with its program, cycles and
pairs, or FAILED with the status, the detail and the node of the check that failed. (spec/09_audio_mixing.md) -/
def Obligations.RouteGraphs : Prop :=
  -- the first bytes of a free graph
  (∀ (s : State) (h g : Nat) (b : Bytes),
      s.Accepts h Graph.BLOB g 0 →
      b.length ≤ 8192 ∧ s.rd Graph.STATE g = 0 ∧ s.on Graph.RUNNING g = false ∧ 2 ^ 20 ≤ s.poolFree →
      ∃ t, exec (.graphBlob h g b) s = .next t ∧
        t.rd Graph.STATE g = 1 ∧ t.rd Graph.OWNER g = h ∧ t.rd Graph.BLOB_LEN g = b.length ∧
        (t.graphX g).blob = b ∧
        t.out = .status h 0 :: s.out) ∧
  -- more bytes of a staged blob
  (∀ (s : State) (h g : Nat) (b : Bytes),
      s.Accepts h Graph.BLOB g 0 →
      b.length ≤ 8192 ∧ s.rd Graph.STATE g = 1 →
      ∃ t, exec (.graphBlob h g b) s = .next t ∧
        t.rd Graph.STATE g = 1 ∧ t.rd Graph.BLOB_LEN g = ((s.graphX g).blob ++ b).length ∧
        (t.graphX g).blob = (s.graphX g).blob ++ b ∧
        t.out = .status h 0 :: s.out) ∧
  -- compile
  (∀ (s : State) (h g : Nat),
      s.Accepts h Graph.CMD g 1 →
      s.rd Graph.STATE g = 1 ∧ (s.elemsWith Graph.STATE 2).length < 4 →
      ∃ t, exec (.compile h g) s = .next t ∧
        t.rd Graph.STATE g = 2 ∧
        t.aud = s.aud ∧ t.out = .status h 0 :: s.out) ∧
  -- every check passes
  (∀ (s : State) (g : Fin 1024) (p : Prog),
      s.running = true →
      s.rd Graph.STATE g = 2 →
      (s.kerady g (s.rd Graph.OWNER g)).1 = .ok p →
      ∃ t, exec (.compileDone g) s = .next t ∧
        t.rd Graph.STATE g = 3 ∧ t.rd Graph.CYCLES g = p.cycles ∧ t.rd Graph.PAIRS g = p.pairs.length ∧
        (t.graphX g).compiled = some p ∧
        t.rd Graph.ERROR g = 0 ∧ t.out = s.out) ∧
  -- a check fails
  (∀ (s : State) (g : Fin 1024) (st : Status) (d n : Nat),
      s.running = true →
      s.rd Graph.STATE g = 2 →
      (s.kerady g (s.rd Graph.OWNER g)).1 = .error (st, d, n) →
      ∃ t, exec (.compileDone g) s = .next t ∧
        t.rd Graph.STATE g = 4 ∧ t.rd Graph.ERROR g = 256 * st.code + d ∧ t.rd Graph.ERR_NODE g = n ∧
        t.out = s.out)

/-- A compiled route graph runs, stops and is deleted. RUN sets RUNNING, takes the compiled program as the one that
starts next and frees the staged side; STOP clears RUNNING and has the program end; both leave what runs now. DELETE
frees the staged side of a graph that does not run. (spec/09_audio_mixing.md) -/
def Obligations.GraphRuns : Prop :=
  -- run
  (∀ (s : State) (h g : Nat) (p : Prog),
      s.Accepts h Graph.CMD g 2 →
      s.rd Graph.STATE g = 3 ∧ (s.graphX g).compiled = some p →
      ∃ t, exec (.run h g) s = .next t ∧
        t.rd Graph.RUNNING g = 1 ∧ t.rd Graph.STATE g = 0 ∧ t.rd Graph.BLOB_LEN g = 0 ∧
        (t.graphX g).next = some (some p) ∧ (t.graphX g).compiled = none ∧ (t.graphX g).running = (s.graphX g).running ∧
        t.out = .status h 0 :: s.out) ∧
  -- stop
  (∀ (s : State) (h g : Nat),
      s.Accepts h Graph.CMD g 3 →
      s.on Graph.RUNNING g = true →
      ∃ t, exec (.stop h g) s = .next t ∧
        t.rd Graph.RUNNING g = 0 ∧
        (t.graphX g).next = some none ∧ (t.graphX g).running = (s.graphX g).running ∧
        t.out = .status h 0 :: s.out) ∧
  -- graphDelete
  (∀ (s : State) (h g : Nat),
      s.Accepts h Graph.CMD g 4 →
      s.graphOwned g = true →
      ∃ t, exec (.graphDelete h g) s = .next t ∧
        t.rd Graph.STATE g = 0 ∧ t.rd Graph.RUNNING g = 0 ∧ t.rd Graph.CYCLES g = 0 ∧
        (t.graphX g).blob = [] ∧ (t.graphX g).compiled = none ∧
        t.out = .status h 0 :: s.out)

/-- Audio ports start with their pre-roll, end with their post-roll and take masks at a frame. Enabling puts a master
at 48 kHz in pre-roll on the frame grid, and a slave or AES3 input in acquisition; disabling puts a running master in
post-roll from its next frame. The ends of pre-roll and post-roll move the port on to RUNNING and OFF, where a serial
port's pins take their idle levels. A pending mask is in force from its frame, told in MASK_FRAME.
(spec/10_audio_ports.md) -/
def Obligations.AudioPorts : Prop :=
  -- a master port at 48 kHz
  (∀ (s : State) (h : Nat) (p : Fin 32),
      s.Accepts h (enableCol p) (portEl p) 1 →
      s.portState p = 0 ∧ s.slave p = false ∧ s.portRate p = 1 →
      s.on Clk.TIME_VALID 0 = true ∧ s.hbmUp = true →
      ∃ t, exec (.portEnable h p) s = .next t ∧
        t.portState p = 2 ∧ t.rd (enableCol p) (portEl p) = 1 ∧
        (t.portX p).m0 = frameFrom 48000 (s.clk + 60 * usU) ∧ (t.portX p).rx = s.maskRx p ∧ (t.portX p).tx = s.maskTx p ∧
        (t.portX p).asrc = 4 ∧ (t.portX p).ratio = 2 ^ 24 ∧ (p.val < 16 → t.rd Asrc.STATE p = 4 ∧ t.rd Asrc.RATIO p = 2 ^ 24) ∧
        t.out = .status h 0 :: s.out) ∧
  -- a slave port, or an AES3 input
  (∀ (s : State) (h : Nat) (p : Fin 32),
      s.Accepts h (enableCol p) (portEl p) 1 →
      s.portState p = 0 ∧ s.slave p = true ∧ s.hbmUp = true →
      ∃ t, exec (.portEnable h p) s = .next t ∧
        t.portState p = 1 ∧ t.rd (enableCol p) (portEl p) = 1 ∧ t.rd Asrc.STATE (portQ p) = 1 ∧
        (t.portX p).fromOff = true ∧ (t.portX p).acqAt = s.phys ∧
        t.out = .status h 0 :: s.out) ∧
  -- a master port that runs
  (∀ (s : State) (h : Nat) (p : Fin 32) (n : Nat),
      s.Accepts h (enableCol p) (portEl p) 0 →
      s.portState p = 3 ∧ s.slave p = false ∧ s.framesRun p = true →
      ∃ t, exec (.portDisableAudio h p n) s = .next t ∧
        t.portState p = 4 ∧ t.rd (enableCol p) (portEl p) = 0 ∧
        (t.portX p).postAt = s.frameOf p n + 1 ∧ (t.portX p).was = 3 ∧
        t.out = .status h 0 :: s.out) ∧
  -- prerollEnd
  (∀ (s : State) (p : Fin 32) (n : Nat),
      s.running = true →
      s.portState p = 2 ∧ s.framesRun p = true ∧ (s.portX p).preAt + s.preroll p ≤ s.frameOf p n →
      p.val < 16 →
      ∃ t, exec (.prerollEnd p n) s = .next t ∧
        t.portState p = 3 ∧ t.rd Sap.FRAME p = s.frameOf p n % 2 ^ 32 ∧
        (∃ g : SegX, t.portX p = { s.portX p with segs := g :: (s.portX p).segs } ∧ g.st = 3 ∧ g.at_ = s.frameAt p ((s.portX p).preAt + s.preroll p)) ∧
        t.out = s.out) ∧
  -- postrollEnd
  (∀ (s : State) (p : Fin 32) (n : Nat),
      s.running = true →
      s.portState p = 4 ∧ s.framesRun p = true ∧ (s.portX p).postAt + s.postroll p ≤ s.frameOf p n →
      ∃ t, exec (.postrollEnd p n) s = .next t ∧
        t.portState p = 0 ∧ (p.val < 16 → t.rd Asrc.STATE p = 0) ∧
        (∃ g : SegX, t.portX p = { s.portX p with asrc := 0, segs := g :: (s.portX p).segs } ∧ g.st = 0 ∧
            g.at_ = s.frameAt p ((s.portX p).postAt + s.postroll p)) ∧
        t.out = (if p.val < 16 then .sapLevels p (t.sapLevels p).1 (t.sapLevels p).2 :: s.out else s.out)) ∧
  -- a serial port's frame start after the commit
  (∀ (s : State) (p : Fin 32) (n : Nat),
      s.running = true →
      p.val < 16 ∧ (s.portX p).maskPend = true ∧ s.portState p ≠ 0 ∧ s.portState p ≠ 5 →
      s.framesRun p = true ∧ (s.portX p).maskAt ≤ s.frameOf p n →
      ∃ t, exec (.maskApply p n) s = .next t ∧
        (t.portX p).rx = s.rd Sap.RX_MASK p ∧ (t.portX p).tx = s.rd Sap.TX_MASK p ∧ (t.portX p).maskPend = false ∧
        t.rd Sap.MASK_FRAME p = (if s.slave p then n else (s.portX p).maskAt) % 2 ^ 32 ∧
        t.portState p = s.portState p)

/-- An audio port locks, loses its clock, slips and relocks, and reports its rate's range. A first lock of a serial
slave, its ratio steady, stores the ratio, a delay of 46 to 50 samples and the lock time, begins the pre-roll and is
told; a lost clock moves the port to CLOCK_LOST, counted on serial ports and told; a clock restored starts an
acquisition; a frame-sync error is counted and told where it is more than one bit clock and changes nothing where it
is not; a relock is counted and told, muting where the change is large; a rate out of range mutes and is told.
(spec/10_audio_ports.md) -/
def Obligations.AudioClocks : Prop :=
  -- a serial slave's first lock after OFF
  (∀ (s : State) (p : Fin 32) (ratio : Nat),
      s.running = true ∧ s.hbmUp = true →
      p.val < 16 ∧ s.slave p = true ∧ s.portState p = 1 ∧ (s.portX p).fromOff = true →
      (s.portX p).asrc = 1 ∧ (s.portX p).steady = true ∧ ratio = (s.portX p).ests.headD 0 ∧ ratioOk ratio = true →
      ∃ t, exec (.audAsrcLocked p) s = .next t ∧
        t.rd Asrc.STATE (portQ p) = 2 ∧ t.rd Asrc.RATIO (portQ p) = ratio ∧
            736 ≤ t.rd Asrc.DELAY (portQ p) ∧ t.rd Asrc.DELAY (portQ p) ≤ 800 ∧
        t.rd Asrc.LOCK_MS (portQ p) = min 65535 (s.since (s.portX p).acqAt / cycMs) ∧
        t.portState p = 2 ∧ (t.portX p).preAt = (s.portX p).frames ∧
        Raised s t Ev.AUD_ASRC_LOCKED (portQ p) ratio) ∧
  -- audClockLost
  (∀ (s : State) (p : Fin 32),
      s.running = true ∧ s.hbmUp = true →
      s.slave p = true ∧ s.portState p = 3 →
      ∃ t, exec (.audClockLost p) s = .next t ∧
        t.portState p = 5 ∧ (t.portX p).lostAt = s.phys ∧
        (p.val < 16 → t.rd Sap.CLK_LOST p = (s.rd Sap.CLK_LOST p + 1) % 2 ^ 32) ∧
        Raised s t Ev.AUD_CLOCK_LOST (portQ p) 0) ∧
  -- audClockRestored
  (∀ (s : State) (p : Fin 32) (n : Nat),
      s.running = true →
      s.portState p = 5 →
      ∃ t, exec (.audClockRestored p n) s = .next t ∧
        t.portState p = 1 ∧ (t.portX p).asrc = 1 ∧ (p.val < 16 → t.rd Asrc.STATE p = 1) ∧
        (t.portX p).fromOff = false ∧ (t.portX p).acqAt = s.phys ∧ (t.portX p).lossMs = s.since (s.portX p).lostAt / cycMs ∧
        (p.val < 16 → t.rd Sap.FRAME p = n % 2 ^ 32) ∧
        t.out = s.out) ∧
  -- audFsErr
  (∀ (s : State) (p : Fin 32) (off : Int),
      s.running = true ∧ s.hbmUp = true →
      p.val < 16 ∧ s.slave p = true ∧ s.portState p = 3 ∧ 1 < off.natAbs →
      (s.portX p).fsAt = none →
      ∃ t, exec (.audFsErr p off) s = .next t ∧
        t.rd Sap.FS_ERR p = (s.rd Sap.FS_ERR p + 1) % 2 ^ 32 ∧
        Raised s t Ev.AUD_FS_ERR (portQ p) 0 ∧
        t.portState p = 3) ∧
  -- one bit clock is tolerated
  (∀ (s : State) (p : Fin 32) (off : Int),
      off.natAbs ≤ 1 →
      ∃ t, exec (.audFsErr p off) s = .next t ∧
        t = s) ∧
  -- a change of at most 2 %
  (∀ (s : State) (p : Fin 32) (ratio : Nat),
      s.running = true ∧ s.hbmUp = true →
      s.slave p = true ∧ s.portState p = 3 ∧ (s.portX p).asrc = 2 ∧ ratio = (s.portX p).ratio8 ∧ ratioOk ratio = true →
      (s.portX p).rates.length = 8 ∧ (s.portX p).rates.all (s.portX p).moved = true →
      ((ratio : Int) - (s.portX p).ratio).natAbs * 100 ≤ 2 * (s.portX p).ratio →
      ∃ t, exec (.audAsrcRelock p) s = .next t ∧
        t.portState p = 3 ∧ (t.portX p).asrc = 1 ∧ (t.portX p).acqAt = s.phys ∧
        t.rd Asrc.RELOCKS (portQ p) = (s.rd Asrc.RELOCKS (portQ p) + 1) % 2 ^ 32 ∧
        Raised s t Ev.AUD_ASRC_RELOCK (portQ p) ratio) ∧
  -- a larger change mutes
  (∀ (s : State) (p : Fin 32) (ratio : Nat),
      s.running = true ∧ s.hbmUp = true →
      s.slave p = true ∧ s.portState p = 3 ∧ (s.portX p).asrc = 2 ∧ ratio = (s.portX p).ratio8 ∧ ratioOk ratio = true →
      (s.portX p).rates.length = 8 ∧ (s.portX p).rates.all (s.portX p).moved = true →
      2 * (s.portX p).ratio < ((ratio : Int) - (s.portX p).ratio).natAbs * 100 →
      ∃ t, exec (.audAsrcRelock p) s = .next t ∧
        t.portState p = 1 ∧ (t.portX p).asrc = 3 ∧
        t.rd Asrc.MUTES (portQ p) = (s.rd Asrc.MUTES (portQ p) + 1) % 2 ^ 32 ∧
        t.rd Asrc.RELOCKS (portQ p) = (s.rd Asrc.RELOCKS (portQ p) + 1) % 2 ^ 32 ∧
        Raised s t Ev.AUD_ASRC_RELOCK (portQ p) (ratio + 2 ^ 32)) ∧
  -- audRateRange
  (∀ (s : State) (p : Fin 32) (ratio : Nat),
      s.running = true ∧ s.hbmUp = true →
      s.slave p = true ∧ s.portState p = 3 ∧ ratio = (s.portX p).rates.headD (2 ^ 24) ∧ ratioOk ratio = false →
      (s.portX p).rangeHeld = false →
      ∃ t, exec (.audRateRange p) s = .next t ∧
        t.portState p = 1 ∧ (t.portX p).asrc = 3 ∧ (t.portX p).rangeHeld = true ∧
        Raised s t Ev.AUD_RATE_RANGE (portQ p) (ratio % 2 ^ 32))

/-- An AES3 input takes whole blocks and counts broken ones. A whole block whose channel status passes has its channel
status and user data stored and is counted in BLOCKS; one of which a channel fails its CRCC is counted once in
CS_CRC_ERR and not stored; a broken one is counted in BLOCK_ERR and leaves CS_A and BLOCKS. (spec/10_audio_ports.md)
-/
def Obligations.AesBlocks : Prop :=
  -- a complete block whose channel status passes
  (∀ (s : State) (a : Fin 8) (csA csB uA uB : Nat) (rest : List (Option (Nat × Nat × Nat × Nat))),
      s.running = true →
      s.portState (16 + a) ≠ 0 ∧ (s.portX (16 + a)).blocks = some (csA, csB, uA, uB) :: rest →
      csOk csA = true ∧ csOk csB = true →
      ∃ t, exec (.aesBlockRx a) s = .next t ∧
        t.rd Aesi.CS_A a = csA ∧ t.rd Aesi.CS_B a = csB ∧ t.rd Aesi.U_A a = uA ∧ t.rd Aesi.U_B a = uB ∧
        t.rd Aesi.BLOCKS a = (s.rd Aesi.BLOCKS a + 1) % 2 ^ 32 ∧ t.rd Aesi.CS_CRC_ERR a = s.rd Aesi.CS_CRC_ERR a ∧
        (t.portX (16 + a)).blocks = rest ∧ t.out = s.out) ∧
  -- a complete block of which a channel fails its CRCC
  (∀ (s : State) (a : Fin 8) (csA csB uA uB : Nat) (rest : List (Option (Nat × Nat × Nat × Nat))),
      s.running = true →
      s.portState (16 + a) ≠ 0 ∧ (s.portX (16 + a)).blocks = some (csA, csB, uA, uB) :: rest →
      csOk csA = false ∨ csOk csB = false →
      ∃ t, exec (.aesBlockRx a) s = .next t ∧
        t.rd Aesi.CS_CRC_ERR a = (s.rd Aesi.CS_CRC_ERR a + 1) % 2 ^ 32 ∧
        t.rd Aesi.CS_A a = s.rd Aesi.CS_A a ∧ t.rd Aesi.CS_B a = s.rd Aesi.CS_B a ∧ t.ev = s.ev ∧
        t.rd Aesi.BLOCKS a = (s.rd Aesi.BLOCKS a + 1) % 2 ^ 32) ∧
  -- a block broken by a misplaced preamble
  (∀ (s : State) (a : Fin 8) (rest : List (Option (Nat × Nat × Nat × Nat))),
      s.running = true →
      s.portState (16 + a) ≠ 0 ∧ (s.portX (16 + a)).blocks = none :: rest →
      ∃ t, exec (.aesBlockRx a) s = .next t ∧
        t.rd Aesi.BLOCK_ERR a = (s.rd Aesi.BLOCK_ERR a + 1) % 2 ^ 32 ∧
        t.rd Aesi.CS_A a = s.rd Aesi.CS_A a ∧ t.rd Aesi.BLOCKS a = s.rd Aesi.BLOCKS a)

/-- An item's dependence counter is the number of its distinct unsatisfied handles. An accepted descriptor becomes an
item that waits for its handles not yet satisfied, each counted once; with none it is ready. The SSN, SUBMITTED and
IN_FLIGHT go up by one. (R274) -/
def Obligations.DependenceCounter : Prop :=
  -- the counter of an accepted item
  (∀ (s : State) (d : Bytes) (g nd eg : Nat) (pk : List Nat),
      s.running = true →
      s.sch.held = [] ∧ s.rd Sch.IN_FLIGHT 0 < 131072 →
      s.rejects d = none →
      s.item? (s.rd Sch.NEXT_SSN 0) = none →
      (depsOf d).all (fun h => missingOk d || !(s.handleMet h).2) = true →
      ∃ t, exec (.submit d g nd pk eg) s = .next t ∧
        ∃ i : ItemX, t.item? (s.rd Sch.NEXT_SSN 0) = some i ∧ i.desc = d ∧ i.graph = g ∧ i.node = nd ∧ i.pkts = pk ∧ i.egress = eg ∧
            i.wait.length = ((distinct (depsOf d)).filter (fun h => !(s.handleMet h).1)).length ∧ i.phase = (if i.wait = [] then 1 else 0) ∧
        t.rd Sch.NEXT_SSN 0 = (s.rd Sch.NEXT_SSN 0 + 1) % 2 ^ 30 ∧
        t.rd Sch.SUBMITTED 0 = (s.rd Sch.SUBMITTED 0 + 1) % 2 ^ 64 ∧ t.rd Sch.IN_FLIGHT 0 = s.rd Sch.IN_FLIGHT 0 + 1)

/-- Items are rejected, dispatched, committed and dispatched again after a fault. A descriptor that fails a check
leaves the items as they are and is counted and told with the check's number; a dispatch puts the ready item on the
core chosen and charges its cluster's words; a commit removes the item and counts it; an I parity error makes it ready
again with its core excluded; a slot tick is posted. (spec/12_scheduler.md, spec/11_dsp_cores.md) -/
def Obligations.SchedulerDecisions : Prop :=
  -- a descriptor that fails a check
  (∀ (s : State) (d : Bytes) (k g nd eg : Nat) (pk : List Nat),
      s.running = true ∧ s.hbmUp = true →
      s.sch.held = [] ∧ s.rd Sch.IN_FLIGHT 0 < 131072 →
      s.rejects d = some k →
      ∃ t, exec (.submit d g nd pk eg) s = .next t ∧
        t.sch.items = s.sch.items ∧ t.rd Sch.NEXT_SSN 0 = s.rd Sch.NEXT_SSN 0 ∧
        t.rd Sch.REJECTED 0 = (s.rd Sch.REJECTED 0 + 1) % 2 ^ 32 ∧
        ∃ r, t.ev.ring.head? = some r ∧ r.code = Ev.SCHED_REJECT ∧ r.args = k) ∧
  -- one ready item without windows
  (∀ (s : State) (i : ItemX) (n : Nat),
      s.running = true →
      s.sch.items = [i] ∧ s.sch.held = [] ∧ i.phase = 1 →
      s.chooseCore i [] = some n ∧ n < 128 →
      (List.range 10).all (fun w => (winOf i.desc w).2 == 0) = true →
      isCustom i.desc = false ∧ (s.coreX n).resident = codeImgOf i.desc ∧ i.missing < 64 →
      ∃ t, exec (.dispatchCycle) s = .next t ∧
        t.sch.items = [{ i with phase := 2, core := n, at_ := s.phys }] ∧
        t.shmGet (n / 16) (4 * itemBase i.desc) 4 = natLE 4 i.missing ∧
        (t.coreX n).regs.d = [itemBase i.desc, tagOf i.desc] ++ List.replicate 14 0 ∧ (t.coreX n).regs.pc = leAt i.desc 12 2 ∧
        t.out = s.out) ∧
  -- a run that reached done
  (∀ (s : State) (n : Fin 128) (i : ItemX) (st : Nat) (r : CoreR),
      s.running = true →
      s.onCore n = some i ∧ s.sch.items = [i] ∧ s.sch.held = [] ∧ i.overBy = none →
      s.runItem i st = .done r →
      ∃ t, exec (.workItemCommit n st) s = .next t ∧
        t.sch.items = [] ∧ Tbl.get 0 t.sch.outcome i.ssn = 1 ∧
        t.rd Core.ITEMS n = (s.rd Core.ITEMS n + 1) % 2 ^ 64 ∧ t.rd Core.BUSY n = (s.rd Core.BUSY n + (r.cycles + st)) % 2 ^ 64 ∧
        t.rd Sch.COMMITTED 0 = (s.rd Sch.COMMITTED 0 + 1) % 2 ^ 64 ∧ t.rd Sch.IN_FLIGHT 0 = s.rd Sch.IN_FLIGHT 0 - 1) ∧
  -- an I parity error returns the item to the ready list
  (∀ (s : State) (n : Fin 128) (i : ItemX) (st word k : Nat),
      s.running = true →
      s.onCore n = some i ∧ s.item? i.ssn = some i ∧ s.sch.held = [] →
      (s.coreX n).iAt = [] →
      k < 128 ∧ k ≠ i.core ∧ bitOf (affinityOf i.desc) (k / 16) = true ∧ s.rd Core.STATE k = 0 ∧ i.excluded.contains k = false →
      ∃ t, exec (.workItemFault n 5 st word) s = .next t ∧
        t.item? i.ssn = some { i with phase := 1, core := 0xFF, doomed := false, excluded := i.core :: i.excluded } ∧
        t.rd Core.PAR_I n = (s.rd Core.PAR_I n + 1) % 2 ^ 32 ∧ (t.coreX n).resident = 0 ∧
        t.rd Core.STATE n = s.rd Core.STATE n) ∧
  -- slotTick
  (∀ (s : State) (f : Fin 2),
      s.running = true →
      (Tbl.get {} s.tim.slot f).due (s.fretGrid f) s.ns = true ∧ s.sch.items = [] ∧ s.sch.held = [] →
      ∃ t, exec (.slotTick f) s = .next t ∧
        Tbl.get 0 t.sch.ticks (17 + f) = (Tbl.get {} s.tim.slot f).next % 2 ^ 25 + 1 ∧
        Tbl.get {} t.tim.slot f = (Tbl.get {} s.tim.slot f).post ∧
        t.out = s.out)

/-- Units retire and return. RETIRE of a DSP core, a decode core and an encode core without work retires the unit with
cause 7 and a UNIT_RETIRED record of the units left; a cause met retires a DSP core the same way; UNRETIRE of a
retired unit marks it to return (state 2). (spec/11_dsp_cores.md, spec/13_video_decode.md, spec/14_video_encode.md) -/
def Obligations.UnitsRetire : Prop :=
  -- a DSP core without work
  (∀ (s : State) (h n : Nat),
      s.Accepts h Core.CMD n 1 →
      s.hbmUp = true ∧ s.rd Core.STATE n = 0 ∧ s.coresIn ≠ 1 →
      s.sch.items = [] ∧ s.sch.held = [] →
      ∃ t, exec (.retire h 0 n) s = .next t ∧
        t.rd Core.STATE n = 1 ∧ t.rd Core.CAUSE n = 7 ∧ t.rd Core.RETIRED_AT n = s.now80 ∧
        t.rd Clu.IN_SERVICE (n / 16) = s.rd Clu.IN_SERVICE (n / 16) - 1 ∧
        Raised s t Ev.UNIT_RETIRED n (1 + 2 ^ 8 * 7 + 2 ^ 16 * t.coresIn + 2 ^ 32 * (t.cap .dsp % 2 ^ 32)) ∧
        t.out = .status h 0 :: s.out) ∧
  -- a decode core without sessions
  (∀ (s : State) (h n : Nat),
      s.Accepts h Vd.CMD n 1 →
      s.hbmUp = true ∧ s.rd Vd.STATE n = 0 ∧ s.vdIn ≠ 1 →
      s.column Dec.CORES = [] ∧ s.vid.queue = [] →
      ∃ t, exec (.retire h 1 n) s = .next t ∧
        t.rd Vd.STATE n = 1 ∧ t.rd Vd.CAUSE n = 7 ∧ t.vid.retired = s.vid.retired ++ [(1, n)] ∧ (t.handOffVd n).rd Vd.USED n = 0 ∧
        Raised s t Ev.UNIT_RETIRED n (3 + 2 ^ 8 * 7 + 2 ^ 16 * t.vdIn + 2 ^ 32 * (t.cap .vdec % 2 ^ 32)) ∧
        t.out = .status h 0 :: s.out) ∧
  -- an encode core without sessions
  (∀ (s : State) (h n : Nat),
      s.Accepts h Ve.CMD n 1 →
      s.hbmUp = true ∧ s.rd Ve.STATE n = 0 ∧ s.veIn ≠ 1 →
      s.column Enc.CORES = [] ∧ s.encOn n = [] →
      ∃ t, exec (.retire h 2 n) s = .next t ∧
        t.rd Ve.STATE n = 1 ∧ t.rd Ve.CAUSE n = 7 ∧ t.vid.retired = s.vid.retired ++ [(2, n)] ∧ (t.handOffVe n).rd Ve.USED n = 0 ∧
        Raised s t Ev.UNIT_RETIRED n (4 + 2 ^ 8 * 7 + 2 ^ 16 * t.veIn + 2 ^ 32 * (t.cap .venc % 2 ^ 32)) ∧
        t.out = .status h 0 :: s.out) ∧
  -- unretire
  (∀ (s : State) (h n : Nat) (k : Fin 4),
      s.Accepts h (unitOf k).cmd n 2 →
      s.rd (unitOf k).state n = 1 →
      ∃ t, exec (.unretire h k n) s = .next t ∧
        t.rd (unitOf k).state n = 2 ∧
        t.out = .status h 0 :: s.out) ∧
  -- a DSP core without work meets a cause
  (∀ (s : State) (n c : Nat),
      s.running = true ∧ s.hbmUp = true →
      n < 128 ∧ s.causeMet .dsp n c = true ∧ s.rd Core.STATE n = 0 →
      s.sch.items = [] ∧ s.sch.held = [] →
      ∃ t, exec (.unitRetirement 0 n c) s = .next t ∧
        t.rd Core.STATE n = 1 ∧ t.rd Core.CAUSE n = c ∧
        t.rd Clu.IN_SERVICE (n / 16) = s.rd Clu.IN_SERVICE (n / 16) - 1 ∧
        Raised s t Ev.UNIT_RETIRED n (1 + 2 ^ 8 * c + 2 ^ 16 * t.coresIn + 2 ^ 32 * (t.cap .dsp % 2 ^ 32)))

/-- Decode sessions open, take and complete pictures, and close. OPEN charges the session, places it on a core and
raises a refresh request; a picture that is ready joins the ready pictures of its session; completion and abandonment
give the next picture, the latter from the one before with its flags; START_MS and the refresh of WAIT_RAP act at
their times; CLOSE gives back what OPEN took. (spec/13_video_decode.md) -/
def Obligations.DecodeSessions : Prop :=
  -- decodeOpen
  (∀ (s : State) (h d src r : Nat),
      s.Accepts h Dec.CMD d 1 →
      src = s.rd Dec.SOURCE d ∧ src < 262144 ∧ s.reaches .src h src = true →
      s.rd Src.STATE src = 1 ∧ s.rd Src.MEDIA src = 1 ∧ 16 ≤ s.rd Src.CODEC src ∧ s.rd Src.CODEC src ≤ 18 ∧ s.on Src.E2E src = false →
      s.rd Dec.MAX_WIDTH d * s.rd Dec.MAX_HEIGHT d * s.rd Dec.MAX_FPS d ≤ 199065600000 →
      s.rd Dec.STATE d = 0 ∧ s.hbmUp = true →
      s.ctl.credit = [] ∧ s.ctl.trial = false →
      r = s.decCharge d ∧ 0 < r ∧ r ≤ 497664 →
      s.rd Cap.VDEC_USED 0 + r ≤ s.cap .vdec →
      2 ≤ h → s.rd Part.VDEC_USED h + r ≤ s.rd Part.VDEC_QUOTA h →
      (List.range 16).any (fun v => s.rd Vd.STATE v == 0 && s.rd Vd.USED v + r ≤ 497664 && s.rd Vd.SESSIONS v < 128) = true →
      s.decBytes d + 2 ^ 24 ≤ s.poolFree →
      ∃ t, exec (.decodeOpen h d) s = .next t ∧
        t.rd Dec.STATE d = 1 ∧ t.rd Dec.OWNER d = h ∧ t.rd Dec.CHARGE d = r ∧
        t.rd Cap.VDEC_USED 0 = s.rd Cap.VDEC_USED 0 + r ∧
        (∃ v < 16, t.rd Dec.CORES d = 2 ^ v ∧ t.rd Vd.USED v = s.rd Vd.USED v + r ∧ t.rd Vd.SESSIONS v = s.rd Vd.SESSIONS v + 1) ∧
        t.rd Dec.REFRESH_REQ d = (s.rd Dec.REFRESH_REQ d + 1) % 2 ^ 32 ∧
        t.out = .status h 0 :: s.out) ∧
  -- decodeClose
  (∀ (s : State) (h d v : Nat),
      s.Accepts h Dec.CMD d 2 →
      s.rd Dec.STATE d = 1 ∨ s.rd Dec.STATE d = 2 →
      v < 16 ∧ s.rd Dec.CORES d = 2 ^ v →
      s.latchedOf d = [] ∧ s.elemsWith Dec.STATE 3 = [] ∧ s.vid.queue = [] →
      ((s.decX d).latest.toList ++ (s.decX d).read ++ (s.decX d).slots.filterMap (·.2)).any s.picRead = false →
      ∃ t, exec (.decodeClose h d) s = .next t ∧
        t.rd Dec.STATE d = 0 ∧ t.rd Dec.CORES d = dflt Dec.CORES d ∧ t.decX d = {} ∧
        t.rd Vd.USED v = s.rd Vd.USED v - s.rd Dec.CHARGE d ∧ t.rd Vd.SESSIONS v = s.rd Vd.SESSIONS v - 1 ∧
        t.rd Cap.VDEC_USED 0 = s.rd Cap.VDEC_USED 0 - s.rd Dec.CHARGE d ∧
        t.out = .status h 0 :: s.out) ∧
  -- a session that decodes a picture now
  (∀ (s : State) (d : Fin 2048) (i : PicInfo) (ts : Nat) (l : List (Nat × PktX × TagX)),
      s.running = true →
      s.rd Dec.STATE d = 2 ∧ (s.decX d).cur.isSome = true ∧ s.vid.queue = [] →
      s.nextPic d = some (ts, l) ∧ s.picReady d ts l = true →
      ((s.decX d).params || i.params) = true ∧ ((s.decX d).started || i.rap || (s.decX d).late) = true →
      ∃ t, exec (.pictureReady d i) s = .next t ∧
        ∃ r : ReadyX, (t.decX d).ready = (s.decX d).ready ++ [r] ∧ r.ts = ts ∧ r.pkts = l.map (·.1) ∧ r.info = i ∧
        (t.decX d).lastTs = some ts ∧ (t.decX d).buf = (s.decX d).buf.filter (fun n => !(l.map (·.1)).contains n) ∧
        t.rd Dec.STATE d = 2 ∧ t.out = s.out) ∧
  -- a picture without damage
  (∀ (s : State) (d : Fin 2048) (c : CurX) (r : PicResult),
      s.running = true →
      (s.decX d).cur = some c ∧ s.since c.at_ ≤ c.budget ∧ (c.held || s.bufFree d) = true ∧ s.vid.queue = [] →
      r.conceal = [] ∧ c.pic.lost = 0 ∧ c.missing = false ∧ c.taint = false →
      (c.pic.info.refs.filterMap (fun k => Tbl.get none (s.decX d).slots k)).any s.picBad = false →
      ∃ t, exec (.pictureComplete d r) s = .next t ∧
        (t.decX d).cur = none ∧ (t.decX d).count = (s.decX d).count + 1 ∧
        (∃ p : PicX, (t.decX d).latest = some p ∧ p.id = (s.decX d).count + 1 ∧
            descFlags p.desc = 16 * c.pic.info.rap.toNat + 32 * (r.mdcv != [] || r.cll != []).toNat + 64 * (c.pic.info.chroma == 0).toNat) ∧
        t.rd Dec.PICTURES d = (s.rd Dec.PICTURES d + 1) % 2 ^ 64 ∧ t.rd Dec.CONCEALED d = s.rd Dec.CONCEALED d ∧
        t.rd Dec.WIDTH d = c.pic.info.width % 65536 ∧ t.rd Dec.HEIGHT d = c.pic.info.height % 65536) ∧
  -- a picture past its budget; the previous one is emitted again
  (∀ (s : State) (d : Fin 2048) (v : Fin 16) (a : CoreAccess) (c : CurX) (p : PicX),
      s.running = true →
      (s.decX d).cur = some c ∧ c.budget < s.since c.at_ ∧ s.vid.queue = [] →
      (s.decX d).latest = some p ∧ p.desc.length = 64 →
      ∃ t, exec (.pictureAbandon d 0 v a) s = .next t ∧
        (t.decX d).cur = none ∧
        t.rd Dec.ABANDONED d = (s.rd Dec.ABANDONED d + 1) % 2 ^ 32 ∧
        (∃ p' : PicX, (t.decX d).latest = some p' ∧ p'.id = (s.decX d).count + 1 ∧ descFlags p'.desc = (descFlags p.desc ||| 5))) ∧
  -- startMsExpiry
  (∀ (s : State) (d : Fin 2048),
      s.running = true →
      s.rd Dec.STATE d = 1 ∧ (s.decX d).late = false ∧ s.rd Dec.START_MS d * cycMs ≤ s.since (s.decX d).openAt →
      ∃ t, exec (.startMsExpiry d) s = .next t ∧
        t.decX d = { s.decX d with late := true } ∧
        t.od = s.od ∧ t.out = s.out) ∧
  -- waitRapRefresh
  (∀ (s : State) (d : Fin 2048) (src : Nat),
      s.running = true →
      s.rd Dec.STATE d = 1 ∧ (s.decX d).params = false ∧ (s.decX d).reqAt = none →
      src = s.rd Dec.SOURCE d ∧ s.rd Src.STATE src = 1 ∧ s.rd Src.LEG src = 0xFFFFFFFF →
      ∃ t, exec (.waitRapRefresh d) s = .next t ∧
        (t.srcX src).refreshPend = true ∧ (t.decX d).reqAt = some s.phys ∧
        t.rd Dec.REFRESH_REQ d = (s.rd Dec.REFRESH_REQ d + 1) % 2 ^ 32 ∧
        t.out = s.out)

/-- Encode sessions open, begin and complete pictures, miss deadlines, and close. OPEN charges the session and places
it on a core; a frame tick begins a picture of the session's layers; the completion of its only layer ends the
picture, counts it and numbers its packets; a missed deadline drops it, counted in LATE with VE_LATE; CLOSE gives back
what OPEN took. (spec/14_video_encode.md) -/
def Obligations.EncodeSessions : Prop :=
  -- of a source outside the splice groups
  (∀ (s : State) (h e src r : Nat),
      s.Accepts h Enc.CMD e 1 →
      src = s.rd Enc.OUT_SOURCE e ∧ src < 262144 ∧ s.reaches .src h src = true ∧ s.encForeign h e = false →
      s.rd Enc.SPLICE e = 0xFF ∧ s.encBadRange e = false ∧ s.encOutFits e src = true ∧ s.encInFits e = true →
      s.rd Enc.STATE e = 0 ∧ s.hbmUp = true →
      s.ctl.credit = [] ∧ s.ctl.trial = false →
      r = s.encCharge e ∧ 0 < r ∧ r ≤ 497664 →
      s.rd Cap.VENC_USED 0 + r ≤ s.cap .venc →
      2 ≤ h → s.rd Part.VENC_USED h + r ≤ s.rd Part.VENC_QUOTA h →
      (List.range 16).any (fun v => s.rd Ve.STATE v == 0 && s.rd Ve.USED v + r ≤ 497664 && s.rd Ve.SESSIONS v < 128) = true →
      2 ^ 24 ≤ s.poolFree →
      ∃ t, exec (.encodeOpen h e) s = .next t ∧
        t.rd Enc.STATE e = 1 ∧ t.rd Enc.OWNER e = h ∧ t.rd Enc.CHARGE e = r ∧
        t.rd Cap.VENC_USED 0 = s.rd Cap.VENC_USED 0 + r ∧
        (∃ v < 16, t.rd Enc.CORES e = 2 ^ v ∧ t.rd Ve.USED v = s.rd Ve.USED v + r ∧ t.rd Ve.SESSIONS v = s.rd Ve.SESSIONS v + 1) ∧
        Tbl.get {} t.tim.enc e = (if s.rd Enc.INPUT e = 1 then TickX.start (s.encGrid e) s.ns else {}) ∧
        t.out = .status h 0 :: s.out) ∧
  -- of a source outside the splice groups
  (∀ (s : State) (h e v : Nat),
      s.Accepts h Enc.CMD e 2 →
      s.rd Enc.STATE e = 1 ∨ s.rd Enc.STATE e = 2 →
      v < 16 ∧ s.rd Enc.CORES e = 2 ^ v ∧ s.rd Enc.SPLICE e = 0xFF →
      s.elemsWith Enc.STATE 3 = [] →
      ∃ t, exec (.encodeClose h e) s = .next t ∧
        t.rd Enc.STATE e = 0 ∧ t.encX e = {} ∧ Tbl.get {} t.tim.enc e = {} ∧
        t.rd Ve.USED v = s.rd Ve.USED v - s.rd Enc.CHARGE e ∧ t.rd Ve.SESSIONS v = s.rd Ve.SESSIONS v - 1 ∧
        t.rd Cap.VENC_USED 0 = s.rd Cap.VENC_USED 0 - s.rd Enc.CHARGE e ∧
        t.out = .status h 0 :: s.out) ∧
  -- a session without debt and without a picture in progress
  (∀ (s : State) (e : Fin 2048) (k : TickX),
      s.running = true →
      s.rd Enc.INPUT e = 1 ∧ k = Tbl.get {} s.tim.enc e ∧ k.due (s.encGrid e) s.ns = true →
      (s.rd Enc.STATE e = 1 ∨ s.rd Enc.STATE e = 2) ∧ (s.encX e).pics = [] →
      s.rd Enc.DEBT e = 0 ∧ 1 ≤ s.rd Enc.SPATIAL e →
      ∃ t, exec (.encodeFrameTick e) s = .next t ∧
        Tbl.get {} t.tim.enc e = k.post ∧ t.rd Enc.STATE e = 2 ∧
        (∃ p : EPic, (t.encX e).pics = [p] ∧ p.n = k.next ∧ p.t = temporalId (s.rd Enc.TEMPORAL e) k.next ∧
            p.layers.length = s.rd Enc.SPATIAL e ∧ p.cores = bitsSet (s.rd Enc.CORES e) ∧ ∀ l ∈ p.layers, l.fate = 0) ∧
        t.out = s.out) ∧
  -- a picture of one layer that is past its deadline
  (∀ (s : State) (e : Fin 2048) (p : EPic) (l : LPic),
      s.running = true ∧ s.hbmUp = true →
      (s.encX e).pics = [p] ∧ p.layers = [l] ∧ l.fate = 0 ∧ s.encAt e (p.n + 1) ≤ s.ns →
      (s.encX e).lateAt = none →
      s.rd Enc.INPUT e ≠ 1 ∨ p.alone = false ∨ s.since p.at_ ≤ 2 * s.encNominal e p.cores.length →
      ∃ t, exec (.encodeDeadline e) s = .next t ∧
        (t.encX e).pics = [] ∧
        t.rd Enc.LATE e = (s.rd Enc.LATE e + 1) % 2 ^ 32 ∧
        Raised s t Ev.VE_LATE e 0) ∧
  -- the only layer of a picture in time, fed by an output
  (∀ (s : State) (e : Fin 2048) (sl : Fin 3) (p : EPic) (l : LPic) (rows : List (List Nat)) (ks : List Nat),
      s.running = true →
      (s.encX e).pics = [p] ∧ p.layers = [l] ∧ l.fate = 0 ∧ l.s = sl ∧ p.stored = false ∧ p.splice = false →
      s.rd Enc.INPUT e = 0 ∧ s.rd Enc.SPLICE e = 0xFF →
      s.rd SrcFwd.GROUP (s.rd Enc.OUT_SOURCE e) = 0xFF →
      s.rowsFit e sl p.cores.length rows = true ∧ ks ≠ [] ∧ (∀ n ∈ ks, 1 ≤ n ∧ n ≤ 1200) →
      s.ns ≤ s.encAt e (p.n + 1) ∧ s.streaming e p.n = false ∧ p.waiting = false ∧ s.behind e p = false →
      ∃ t, exec (.layerPictureComplete e sl rows ks [] none) s = .next t ∧
        (t.encX e).pics = [] ∧
        t.rd Enc.PICTURES e = (s.rd Enc.PICTURES e + 1) % 2 ^ 64 ∧
        (t.srcX (s.rd Enc.OUT_SOURCE e)).outSeq = (s.srcX (s.rd Enc.OUT_SOURCE e)).outSeq + ks.length)

/-- Composition outputs open, begin and complete frames, and close. OPEN takes one compositor slot and starts the
frame ticks; a tick begins a frame with what the Rosette layer shows, or counts the one still in progress as LATE;
completion gives the next picture and counts it; a memory error loses it and is told; CLOSE gives back the slot and
clears the layers. (spec/15_composition.md) -/
def Obligations.CompositionOutputs : Prop :=
  -- an output of one slot without layers, alone on its compositor
  (∀ (s : State) (h k : Nat),
      s.Accepts h Outp.CMD k 1 →
      s.rd Outp.STATE k = 0 ∧ s.rd Outp.STATE (k / 2 * 2 + (1 - k % 2)) = 0 ∧ s.hbmUp = true →
      s.rd Cmp.STATE (k / 2) = 0 ∧ s.rd Cmp.OUTPUTS (k / 2) = 0 →
      rateOk (s.rd Outp.RATE_N k) (s.rd Outp.RATE_D k) = true ∧ s.ratesFit [k] = true ∧ s.outColourOk k = true →
      s.twoSlots k = false ∧ s.outLayers k = [] →
      s.ctl.credit = [] ∧ s.ctl.trial = false →
      s.rd Cap.CMP_USED 0 + 1 ≤ s.cap .cmp →
      2 ≤ h → s.rd Part.CMP_USED h + 1 ≤ s.rd Part.CMP_QUOTA h →
      s.rd Outp.WIDTH k * s.rd Outp.HEIGHT k * 3 / 2 * (if s.rd Outp.DEPTH k = 8 then 1 else 2) + 2 ^ 24 ≤ s.poolFree →
      ∃ t, exec (.outputOpen h k) s = .next t ∧
        t.rd Outp.STATE k = 1 ∧ t.rd Outp.OWNER k = h ∧ t.rd Outp.HOST k = k / 2 ∧ t.rd Outp.SLOTS k = 1 ∧
        t.rd Cmp.OUTPUTS (k / 2) = 2 ^ k ∧ t.rd Cap.CMP_USED 0 = s.rd Cap.CMP_USED 0 + 1 ∧
        t.outX k = {} ∧ Tbl.get {} t.tim.frame k = TickX.start (s.outGrid k) s.ns ∧
        t.out = .status h 0 :: s.out) ∧
  -- an output that no encode session and no other output's layer names
  (∀ (s : State) (h k i : Nat),
      s.Accepts h Outp.CMD k 2 →
      s.rd Outp.STATE k = 1 ∧ s.outNamed k = false ∧ s.elemsWith Outp.STATE 2 = [] →
      i = s.rd Outp.HOST k ∧ bitOf (s.rd Cmp.OUTPUTS i) k = true →
      ∃ t, exec (.outputClose h k) s = .next t ∧
        t.rd Outp.STATE k = 0 ∧ t.outX k = {} ∧ Tbl.get {} t.tim.frame k = {} ∧
        (∀ j < 32, t.rd Lay.KIND (32 * k + j) = 0) ∧
        t.rd Cmp.OUTPUTS i = s.rd Cmp.OUTPUTS i - 2 ^ k ∧ t.rd Cap.CMP_USED 0 = s.rd Cap.CMP_USED 0 - s.rd Outp.SLOTS k ∧
        t.out = .status h 0 :: s.out) ∧
  -- an output without layers and inline encode sessions
  (∀ (s : State) (k : Fin 16) (x : TickX),
      s.running = true →
      x = Tbl.get {} s.tim.frame k ∧ x.due (s.outGrid k) s.ns = true →
      s.rd Outp.STATE k = 1 ∧ (s.outX k).busy = none ∧ (s.outX k).resumeAt ≤ s.phys →
      s.outLayers k = [] ∧ s.elemsWith Enc.STATE 1 = [] ∧ s.elemsWith Enc.STATE 2 = [] ∧ s.sch.items = [] ∧ s.sch.held = [] →
      ∃ t, exec (.frameTick k) s = .next t ∧
        (t.outX k).busy = some (x.next, s.phys) ∧ (t.outX k).counted = false ∧
        (t.outX k).rosette = s.rosetteAt k ((s.outGrid k).at x.next) ∧ (t.outX k).latest = (s.outX k).latest ∧
        Tbl.get {} t.tim.frame k = x.post ∧ Tbl.get 0 t.sch.ticks (k + 1) = x.next % 2 ^ 25 + 1 ∧
        t.rd Outp.FRAMES k = s.rd Outp.FRAMES k ∧ t.rd Outp.LATE k = s.rd Outp.LATE k) ∧
  -- a frame still in progress at the next tick, for the first time in 24 h
  (∀ (s : State) (k : Fin 16) (x : TickX) (b : Nat × Nat),
      s.running = true →
      x = Tbl.get {} s.tim.frame k ∧ x.due (s.outGrid k) s.ns = true →
      s.rd Outp.STATE k = 1 ∧ (s.outX k).busy = some b ∧ (s.outX k).counted = false ∧ (s.cmpX (s.rd Outp.HOST k)).faultAt = [] →
      s.elemsWith Enc.STATE 1 = [] ∧ s.elemsWith Enc.STATE 2 = [] ∧ s.sch.items = [] ∧ s.sch.held = [] →
      ∃ t, exec (.frameTick k) s = .next t ∧
        (t.outX k).busy = some b ∧ (t.outX k).counted = true ∧
        t.rd Outp.LATE k = (s.rd Outp.LATE k + 1) % 2 ^ 32 ∧ t.rd Outp.FRAMES k = s.rd Outp.FRAMES k ∧
        (t.cmpX (s.rd Outp.HOST k)).faultAt = [s.phys] ∧ t.rd Cmp.STATE (s.rd Outp.HOST k) = s.rd Cmp.STATE (s.rd Outp.HOST k) ∧
        Tbl.get {} t.tim.frame k = x.post) ∧
  -- composeFrameComplete
  (∀ (s : State) (k : Fin 16) (n a : Nat),
      s.running = true →
      (s.outX k).busy = some (n, a) →
      ∃ t, exec (.composeFrameComplete k false) s = .next t ∧
        (t.outX k).busy = none ∧ (t.outX k).count = (s.outX k).count + 1 ∧
        (∃ p : PicX, (t.outX k).latest = some p ∧ p.id = (s.outX k).count + 1 ∧ t.rd Outp.LAST_DESC k = leNat p.desc) ∧
        t.rd Outp.FRAMES k = (s.rd Outp.FRAMES k + 1) % 2 ^ 64 ∧
        t.rd Cmp.FRAMES (s.rd Outp.HOST k) = (s.rd Cmp.FRAMES (s.rd Outp.HOST k) + 1) % 2 ^ 64 ∧
        t.out = s.out) ∧
  -- an uncorrectable memory error loses the frame; the compositor's first in 24 h
  (∀ (s : State) (k : Fin 16) (n a : Nat),
      s.running = true ∧ s.hbmUp = true →
      (s.outX k).busy = some (n, a) ∧ s.elemsWith Enc.STATE 2 = [] →
      (s.cmpX (s.rd Outp.HOST k)).memAt = [] ∧ Tbl.get 0 s.ev.parityAt 7 = 0 →
      ∃ t, exec (.composeFrameComplete k true) s = .next t ∧
        (t.outX k).busy = none ∧ (t.outX k).latest = (s.outX k).latest ∧
        t.rd Outp.FRAMES k = s.rd Outp.FRAMES k ∧ t.rd Cmp.STATE (s.rd Outp.HOST k) = s.rd Cmp.STATE (s.rd Outp.HOST k) ∧
        (t.cmpX (s.rd Outp.HOST k)).memAt = [s.phys] ∧
        Raised s t Ev.PARITY_ERROR (s.rd Outp.HOST k) 7)

/-- The override is engaged and released by host and pin, and its streams play. ENGAGE = 1 engages at the present
instant, counted and told; it ends when neither HOST_ENG nor PIN_ENG is left, told with ROS_RELEASED; PIN_LATCH holds
the pin's until RELEASE_PIN. One millisecond after engagement the READY streams play from their first records, and
each record is followed by the next, looping. (spec/15_composition.md) -/
def Obligations.RosetteOverride : Prop :=
  -- engage
  (∀ (s : State) (h : Nat),
      s.Accepts h Ros.ENGAGE 0 1 →
      s.ros.at_ = none ∧ s.hbmUp = true →
      ∃ t, exec (.engage h 1) s = .next t ∧
        t.rd Ros.ENGAGE 0 = 1 ∧ t.rd Ros.STATE 0 = s.rd Ros.STATE 0 / 2 * 2 + 1 ∧
        t.ros.at_ = some s.ns ∧ t.ros.playing = false ∧ t.rd Ros.ENGAGED_AT 0 = s.now80 ∧
        t.rd Ros.ENGAGES 0 = (s.rd Ros.ENGAGES 0 + 1) % 2 ^ 32 ∧
        (∃ r ∈ t.ev.ring.take 3, r.code = Ev.ROS_ENGAGED ∧ r.args = 1) ∧
        t.out = .status h 0 :: s.out) ∧
  -- a release by the SAFETY host
  (∀ (s : State) (h e : Nat),
      s.Accepts h Ros.ENGAGE 0 0 →
      s.ros.at_ = some e ∧ s.ros.playing = false ∧ s.hbmUp = true →
      ∃ t, exec (.engage h 0) s = .next t ∧
        t.rd Ros.ENGAGE 0 = 0 ∧ t.rd Ros.STATE 0 = s.rd Ros.STATE 0 / 2 * 2 ∧
        (s.rd Ros.STATE 0 / 2 ≠ 0 → t.ros = s.ros ∧ t.ev = s.ev) ∧
        (s.rd Ros.STATE 0 / 2 = 0 → t.ros.at_ = none ∧ t.ros.ended = some s.ns ∧ Raised s t Ev.ROS_RELEASED 0 0) ∧
        t.out = .status h 0 :: s.out) ∧
  -- a release by the SAFETY host while its streams play: the playouts end
  (∀ (s : State) (h e : Nat),
      s.Accepts h Ros.ENGAGE 0 0 →
      s.ros.at_ = some e ∧ s.ros.playing = true ∧ s.hbmUp = true ∧ s.rd Ros.STATE 0 / 2 = 0 →
      s.ros.subs = [] ∧ s.videoSubs = [] →
      ∃ t, exec (.engage h 0) s = .next t ∧
        t.rd Ros.ENGAGE 0 = 0 ∧ t.rd Ros.STATE 0 = 0 ∧
        t.ros.at_ = none ∧ t.ros.ended = some s.ns ∧ t.ros.playing = false ∧ t.ros.play = [] ∧ t.ros.data = s.ros.data ∧
        (∃ r ∈ t.ev.ring, r.code = Ev.ROS_RELEASED) ∧
        t.out = .status h 0 :: s.out) ∧
  -- without PIN_LATCH
  (∀ (s : State) (e : Nat),
      s.running = true ∧ s.hbmUp = true →
      s.ros.at_ = some e ∧ s.ros.playing = false ∧ s.on Ros.PIN_LATCH 0 = false →
      ∃ t, exec (.pinRelease) s = .next t ∧
        t.rd Ros.STATE 0 = s.rd Ros.STATE 0 % 2 ∧ t.rd Ros.ENGAGE 0 = s.rd Ros.ENGAGE 0 ∧
        (s.rd Ros.STATE 0 % 2 = 1 → t.ros = { s.ros with pinHigh := true } ∧ t.ev = s.ev) ∧
        (s.rd Ros.STATE 0 % 2 = 0 → t.ros.at_ = none ∧ t.ros.ended = some s.ns ∧ Raised s t Ev.ROS_RELEASED 0 0) ∧
        t.out = s.out) ∧
  -- with PIN_LATCH
  (∀ (s : State),
      s.running = true →
      s.on Ros.PIN_LATCH 0 = true →
      ∃ t, exec (.pinRelease) s = .next t ∧
        t.od = s.od ∧ t.ros = { s.ros with pinHigh := true } ∧ t.ev = s.ev ∧ t.out = s.out) ∧
  -- a latched engagement, SAFETY_N high
  (∀ (s : State) (h e v : Nat),
      s.Accepts h Ros.RELEASE_PIN 0 v →
      s.ros.at_ = some e ∧ s.ros.playing = false ∧ s.on Ros.PIN_LATCH 0 = true ∧ s.hbmUp = true →
      ∃ t, exec (.releasePin h v true) s = .next t ∧
        t.rd Ros.STATE 0 = s.rd Ros.STATE 0 % 2 ∧
        (s.rd Ros.STATE 0 % 2 = 1 → t.ros = s.ros ∧ t.ev = s.ev) ∧
        (s.rd Ros.STATE 0 % 2 = 0 → t.ros.at_ = none ∧ t.ros.ended = some s.ns ∧ Raised s t Ev.ROS_RELEASED 0 0) ∧
        t.out = .status h 0 :: s.out) ∧
  -- overridePlayStart
  (∀ (s : State) (e : Nat),
      s.running = true →
      s.ros.at_ = some e ∧ s.ros.playing = false ∧ e + 1000000 ≤ s.ns ∧ s.rd Pwr.PSTATE 0 = 0 →
      ∃ t, exec (.overridePlayStart) s = .next t ∧
        t.ros.playing = true ∧ t.ros.subs = [] ∧ t.ros.at_ = some e ∧ t.ros.data = s.ros.data ∧
        (∀ k < 64, Tbl.get none t.ros.play k =
            (if s.rd Store.READY k ≠ 0 ∧ s.rd Store.KIND k = 2 then some ⟨8, 0, 0, none⟩ else none)) ∧
        t.out = s.out) ∧
  -- no video subscription is ACTIVE
  (∀ (s : State) (k : Fin 64) (e : Nat) (x : PlayX) (r : OvRec),
      s.running = true →
      s.ros.at_ = some e ∧ s.ros.playing = true ∧ Tbl.get none s.ros.play k = some x →
      ovRec (s.storeBytes k) x.next = some r ∧ playAt e (beAt (s.storeBytes k) 0 4) x.loops r.time ≤ s.ns →
      s.ros.subs = [] ∧ s.videoSubs = [] →
      ∃ t, exec (.overrideStreamPlayout k) s = .next t ∧
        (∃ y : PlayX, Tbl.get none t.ros.play k = some y ∧ y.last = some r.time ∧
            y.pics = x.pics + (if x.last ≠ some r.time ∨ x.next = 8 then 1 else 0) ∧
            (y.next, y.loops) = (if (ovRec (s.storeBytes k) r.next).isSome then (r.next, x.loops) else (8, x.loops + 1))) ∧
        t.ros.data = s.ros.data ∧ t.od = s.od ∧ t.out = s.out)

/-- The Rosette store takes data, seals and clears entries. DATA appends to an entry not in use and takes its READY;
SEAL of an image of the size it states gives READY, and of one with an odd width E_RANGE at offset 0; CLEAR empties
the entry named and leaves the bytes of the others. (spec/15_composition.md) -/
def Obligations.RosetteStore : Prop :=
  -- an image that keeps Table 15.4
  (∀ (s : State) (h e x y : Nat),
      s.Accepts h Store.CMD e 1 →
      s.rd Store.KIND e = 1 ∧ x = s.rd Store.WIDTH e ∧ y = s.rd Store.HEIGHT e →
      x % 2 = 0 ∧ 16 ≤ x ∧ x ≤ 4096 ∧ y % 2 = 0 ∧ 16 ≤ y ∧ y ≤ 2160 →
      (s.storeBytes e).length = 4 * x * y →
      ∃ t, exec (.seal h e) s = .next t ∧
        t.rd Store.READY e = 1 ∧ t.rd Store.ERROR e = 0 ∧ t.rd Store.ERR_AT e = 0 ∧
        t.ros = s.ros ∧
        t.out = .status h 0 :: s.out) ∧
  -- an image with an odd number of columns
  (∀ (s : State) (h e : Nat),
      s.Accepts h Store.CMD e 1 →
      s.rd Store.KIND e = 1 ∧ s.rd Store.WIDTH e % 2 = 1 →
      ∃ t, exec (.seal h e) s = .next t ∧
        t.rd Store.READY e = 0 ∧ t.rd Store.ERROR e = Status.eRange.code ∧ t.rd Store.ERR_AT e = 0 ∧
        t.ros = s.ros ∧
        t.out = .status h 0 :: s.out) ∧
  -- storeClear
  (∀ (s : State) (h e : Nat),
      s.Accepts h Store.CMD e 2 →
      s.entryUsed e = false →
      ∃ t, exec (.storeClear h e) s = .next t ∧
        t.storeBytes e = [] ∧ t.rd Store.KIND e = 0 ∧ t.rd Store.READY e = 0 ∧ t.rd Store.LEN e = 0 ∧
        (∀ j, j ≠ e → t.storeBytes j = s.storeBytes j) ∧
        t.out = .status h 0 :: s.out) ∧
  -- storeData
  (∀ (s : State) (h e : Nat) (b : Bytes),
      s.Accepts h Store.DATA e 0 →
      s.rd Store.KIND e ≠ 0 ∧ s.entryUsed e = false →
      b.length ≤ 8192 ∧ (s.storeBytes e).length + b.length ≤ 2 ^ 28 ∧ s.storeTotal + b.length ≤ 2 ^ 30 →
      ∃ t, exec (.storeData h e b) s = .next t ∧
        t.storeBytes e = s.storeBytes e ++ b ∧ t.rd Store.LEN e = (s.storeBytes e ++ b).length ∧ t.rd Store.READY e = 0 ∧
        t.rd Store.KIND e = s.rd Store.KIND e ∧
        t.out = .status h 0 :: s.out)

/-- Tracked delays follow the drift step by step up to TRACK_LIMIT, then the pseudo-channel is DEGRADED. A tracking
pass moves the delays one step towards the eye; a pseudo-channel that would pass TRACK_LIMIT stays at that limit and
becomes DEGRADED, with cause 5, its bit in DEGRADED and HBM_PC_DEGRADED. (R367) -/
def Obligations.DriftIsLimited : Prop :=
  -- the drift stays within TRACK_LIMIT
  (∀ (s : State) (i : Fin 64) (d : Nat),
      s.running = true →
      s.rd Pwr.PSTATE 0 = 0 ∧ s.mem.selfRefresh = false ∧ s.rd Pc.STATE i ≤ 1 →
      (s.pcX i).trackAt = none →
      stepTo (s.rd Pc.DRIFT i) d ≤ s.rd Hbm.TRACK_LIMIT 0 →
      ∃ t, exec (.trackingPass i d) s = .next t ∧
        t.rd Pc.DRIFT i = stepTo (s.rd Pc.DRIFT i) d ∧ (t.pcX i).trackAt = some s.phys ∧
        t.rd Pc.STATE i = s.rd Pc.STATE i ∧ t.ev = s.ev ∧ t.out = s.out) ∧
  -- the drift passes TRACK_LIMIT
  (∀ (s : State) (i : Fin 64) (d : Nat),
      s.running = true ∧ s.hbmUp = true →
      s.rd Pwr.PSTATE 0 = 0 ∧ s.mem.selfRefresh = false ∧ s.rd Pc.STATE i = 0 →
      (s.pcX i).trackAt = none →
      s.rd Hbm.TRACK_LIMIT 0 < stepTo (s.rd Pc.DRIFT i) d →
      ∃ t, exec (.trackingPass i d) s = .next t ∧
        t.rd Pc.DRIFT i = s.rd Hbm.TRACK_LIMIT 0 ∧ (t.pcX i).trackAt = some s.phys ∧
        t.rd Pc.STATE i = 1 ∧ t.rd Pc.CAUSE i = 5 ∧ t.rd Hbm.DEGRADED 0 = s.rd Hbm.DEGRADED 0 ||| 2 ^ i.val ∧
        Raised s t Ev.HBM_PC_DEGRADED i 5)

/-- HBM is retrained, refreshed, scrubbed, fenced and scanned. RETRAIN of an empty IDLE device leaves 64
pseudo-channels trained in full, the bytes wiped and the stacks in self-refresh; REFRESH closes a bank's row and
lowers its rolling count; the patrol moves one granule on and queued repairs are counted; FENCE and UNFENCE only mark
the pseudo-channel; a margin scan stores its result or its failure. (spec/16_memory.md) -/
def Obligations.HbmService : Prop :=
  -- an empty IDLE device of 64 healthy pseudo-channels
  (∀ (s : State) (h a b : Nat),
      s.Accepts h Hbm.CMD 0 1 →
      s.rd Pwr.PSTATE 0 = 1 ∧ s.mediaUsed = false ∧ s.unitsUsed = false →
      s.rd Hbm.FENCED 0 = 0 ∧ (List.range 64).all (fun i => s.rd Pc.PENDING i != 1) = true ∧ s.rd Cal.HBM_LAST_GOOD 0 < 4 →
      ∃ t, exec (.retrain h { trainMs := a, wipeMs := b }) s = .next t ∧
        t.rd Hbm.IN_SERVICE 0 = 64 ∧ t.rd Hbm.CAP_MIB 0 = 49152 ∧ t.rd Hbm.FENCED 0 = 0 ∧
        t.rd Hbm.TRAIN_MS 0 = a % 65536 ∧ t.rd Hbm.WIPE_MS 0 = b % 65536 ∧
        (∀ i < 64, t.rd Pc.STATE i = 0 ∧ t.rd Pc.SOURCE i = 2 ∧ t.rd Pc.DRIFT i = 0) ∧
        t.mem.hbm = [] ∧ t.mem.poison = [] ∧ t.mem.selfRefresh = true ∧
        t.rd Alarm.ICK_GEN 0 = (s.rd Alarm.ICK_GEN 0 + 1) % 2 ^ 32 ∧
        t.out.head? = some (.status h 0)) ∧
  -- refresh
  (∀ (s : State) (i : Fin 64) (b : Fin 32) (c : Int),
      s.running = true →
      s.mem.selfRefresh = false ∧ s.rd Pc.STATE i ≤ 1 ∧ -40 ≤ c ∧ c ≤ 125 →
      ∃ t, exec (.refresh i b c) s = .next t ∧
        (Tbl.get {} (t.pcX i).banks b).row = none ∧
        (Tbl.get {} (t.pcX i).banks b).raa = (Tbl.get {} (s.pcX i).banks b).raa - s.rd Stk.RAAIMT (i / 32) ∧
        t.rdI Stk.TEMP (i / 32) = c ∧ t.rd Stk.HOT (i / 32) = (if 85 < c then 1 else 0) ∧
        t.mem.hbm = s.mem.hbm ∧ t.out = s.out) ∧
  -- the patrol's next granule, without errors
  (∀ (s : State),
      s.running = true →
      s.mem.selfRefresh = false ∧ s.hbmUp = true ∧ s.mem.poison = [] →
      s.mem.scrubPos + 1 < s.capBytes / 256 →
      ∃ t, exec (.scrubRepair none 0 []) s = .next t ∧
        t.mem.scrubPos = s.mem.scrubPos + 1 ∧ t.mem.poison = [] ∧ t.mem.hbm = s.mem.hbm ∧
        t.mem.repair = s.mem.repair.filter (· ≠ s.mem.scrubPos) ∧
        t.rd Hbm.SCRUB_PASSES 0 = s.rd Hbm.SCRUB_PASSES 0 ∧
        t.ev = s.ev ∧ t.out = s.out) ∧
  -- a granule queued for repair that reads without an uncorrectable word
  (∀ (s : State) (g n : Nat) (k : Fin 33),
      s.running = true →
      s.mem.selfRefresh = false ∧ s.hbmUp = true ∧ s.mem.poison = [] →
      g ∈ s.mem.repair →
      n = (s.locate (256 * g)).pc →
      ∃ t, exec (.scrubRepair (some g) k []) s = .next t ∧
        t.rd Pc.SCRUB_FIX n = (s.rd Pc.SCRUB_FIX n + k) % 2 ^ 64 ∧
        t.mem.scrubPos = s.mem.scrubPos ∧ t.mem.poison = [] ∧ t.mem.hbm = s.mem.hbm) ∧
  -- fence
  (∀ (s : State) (h i : Nat),
      s.Accepts h Pc.CMD i 1 →
      bitOf (s.rd Hbm.FENCED 0) i = false →
      ∃ t, exec (.fence h i) s = .next t ∧
        t.rd Pc.PENDING i = 1 ∧ (∀ j, j ≠ i → t.rd Pc.PENDING j = s.rd Pc.PENDING j) ∧
        t.rd Pc.STATE i = s.rd Pc.STATE i ∧ t.rd Hbm.FENCED 0 = s.rd Hbm.FENCED 0 ∧
        t.out = .status h 0 :: s.out) ∧
  -- unfence
  (∀ (s : State) (h i : Nat),
      s.Accepts h Pc.CMD i 2 →
      bitOf (s.rd Hbm.FENCED 0) i = true →
      ∃ t, exec (.unfence h i) s = .next t ∧
        t.rd Pc.PENDING i = 2 ∧ (∀ j, j ≠ i → t.rd Pc.PENDING j = s.rd Pc.PENDING j) ∧
        t.rd Pc.STATE i = s.rd Pc.STATE i ∧ t.rd Hbm.FENCED 0 = s.rd Hbm.FENCED 0 ∧
        t.out = .status h 0 :: s.out) ∧
  -- margin
  (∀ (s : State) (h v : Nat),
      s.Accepts h Mar.CMD 0 1 →
      s.rd Pwr.PSTATE 0 = 1 ∧ bitOf (s.rd Hbm.FENCED 0) (s.rd Mar.TARGET 0) = false →
      v < 2 ^ 576 →
      ∃ t, exec (.margin h (some v)) s = .next t ∧
        t.rd Mar.STATUS 0 = 2 ∧ t.rd Mar.MARGIN 0 = v ∧
        t.mem = s.mem ∧
        t.out = .status h 0 :: s.out) ∧
  -- marginFails
  (∀ (s : State) (h : Nat),
      s.Accepts h Mar.CMD 0 1 →
      s.rd Pwr.PSTATE 0 = 1 ∧ bitOf (s.rd Hbm.FENCED 0) (s.rd Mar.TARGET 0) = false →
      ∃ t, exec (.margin h none) s = .next t ∧
        t.rd Mar.STATUS 0 = 3 ∧ t.rd Mar.MARGIN 0 = s.rd Mar.MARGIN 0 ∧
        t.mem = s.mem ∧
        t.out = .status h 0 :: s.out)

/-- Ports freeze by CAPO, and DMA channels start, stop and finish descriptors. CAPO = 1 freezes a port, which drains
with an event and is released by CAPO = 0 or after 10 ms. START puts a channel on the descriptor at HEAD; STOP ends at
a boundary; DISABLE ends at once; a finished fill has written exactly its bytes and is counted; an empty descriptor
moves none. (spec/17_dma_arbitration.md) -/
def Obligations.PortsAndDma : Prop :=
  -- capoSet
  (∀ (s : State) (h i : Nat),
      s.Accepts h APort.CAPO i 1 →
      s.on APort.CAPO i = false →
      ∃ t, exec (.capoSet h i) s = .next t ∧
        t.rd APort.CAPO i = 1 ∧ t.rd APort.STATE i = 1 ∧
        (t.pcX i).capoBy = some h ∧ (t.pcX i).capoAt = s.phys ∧ (t.pcX i).parked = (s.pcX i).parked ∧
        t.out = .status h 0 :: s.out) ∧
  -- capoClear
  (∀ (s : State) (h i : Nat),
      s.Accepts h APort.CAPO i 0 →
      ∃ t, exec (.capoClear h i) s = .next t ∧
        t.rd APort.CAPO i = 0 ∧ t.rd APort.STATE i = 0 ∧
        t.mem = s.mem ∧
        t.out = .status h 0 :: s.out) ∧
  -- drained
  (∀ (s : State) (i : Fin 64) (h : Nat),
      s.running = true ∧ s.hbmUp = true →
      s.rd APort.STATE i = 1 ∧ (s.pcX i).capoBy = some h ∧ (s.pcX i).queue = [] →
      ∃ t, exec (.drained i) s = .next t ∧
        t.rd APort.STATE i = 2 ∧ t.rd APort.OUTSTANDING i = 0 ∧ t.rd APort.CAPO i = s.rd APort.CAPO i ∧
        Raised s t Ev.DRAINED i 0) ∧
  -- arbCapoTimeout
  (∀ (s : State) (i : Fin 64),
      s.running = true ∧ s.hbmUp = true →
      s.rd Pwr.PSTATE 0 = 0 ∧ s.on APort.CAPO i = true ∧ 10 * cycMs ≤ s.since (s.pcX i).capoAt →
      ∃ t, exec (.arbCapoTimeout i) s = .next t ∧
        t.rd APort.CAPO i = 0 ∧ t.rd APort.STATE i = 0 ∧
        Raised s t Ev.ARB_CAPO_TIMEOUT i 0) ∧
  -- a host's channel with its first descriptor in host memory
  (∀ (s : State) (h n : Nat) (d : Bytes),
      s.Accepts h Dma.CMD n 1 →
      48 ≤ n ∧ (s.rd Dma.STATE n = 0 ∨ s.rd Dma.STATE n = 3) ∧ s.hbmUp = true ∧ (s.dmaX n).undef = false →
      (dAddr (s.rd Dma.HEAD n)).space = 2 ∧ s.addrOk n (dAddr (s.rd Dma.HEAD n)) 64 false = true →
      d.length = 64 ∧ s.dStatus n d < 2 →
      ∃ t, exec (.dmaStart h n none d) s = .next t ∧
        t.rd Dma.STATE n = 1 ∧ (t.dmaX n).desc = d ∧ (t.dmaX n).seq = 0 ∧ (t.dmaX n).stopping = false ∧
        t.rd Dma.DESCS n = s.rd Dma.DESCS n ∧ t.rd Dma.BYTES n = s.rd Dma.BYTES n ∧ t.mem.hbm = s.mem.hbm ∧
        t.out = .status h 0 :: s.out) ∧
  -- a firmware channel with its first descriptor in HBM
  (∀ (s : State) (h n a : Nat) (b : Bool) (d : Bytes),
      s.running = true →
      n < 48 ∧ s.rd Dma.STATE n = 0 ∧ s.hbmUp = true ∧ (s.dmaX n).undef = false →
      a < 2 ^ 60 ∧ s.addrOk n (dAddr a) 64 false = true ∧ d = s.hbmGet (dAddr a).addr 64 →
      inside (dAddr a).addr 64 storeRange = false ∧ meets (dAddr a).addr 64 eventRange = false ∧ s.allPlanes = [] →
      s.mem.poison = [] ∧ s.dStatus n d < 2 ∧ s.frozenAt (dAddr a) 64 = none →
      ∃ t, exec (.dmaStart h n (some (a, b)) []) s = .next t ∧
        t.rd Dma.STATE n = 1 ∧ (t.dmaX n).desc = d ∧ (t.dmaX n).seq = 0 ∧ (t.dmaX n).stopping = false ∧
        t.rd Dma.HEAD n = a ∧ t.rd Dma.HIGH n = b.toNat ∧ t.mem.hbm = s.mem.hbm ∧
        t.out = s.out) ∧
  -- a channel on a descriptor goes on to its end
  (∀ (s : State) (h n : Nat),
      s.Accepts h Dma.CMD n 2 →
      48 ≤ n ∧ s.rd Dma.STATE n = 1 ∧ (s.dmaX n).desc ≠ [] →
      ∃ t, exec (.dmaStop h n false) s = .next t ∧
        t.dmaX n = { s.dmaX n with stopping := true } ∧
        t.od = s.od ∧ t.mem.hbm = s.mem.hbm ∧
        t.out = .status h 0 :: s.out) ∧
  -- a paused channel stops at once, its HEAD at the next descriptor
  (∀ (s : State) (h n a : Nat),
      s.Accepts h Dma.CMD n 2 →
      48 ≤ n ∧ s.rd Dma.STATE n = 2 ∧ (s.dmaX n).next = some a →
      ∃ t, exec (.dmaStop h n false) s = .next t ∧
        t.rd Dma.STATE n = 0 ∧ t.rd Dma.HEAD n = a ∧
        (t.dmaX n).desc = [] ∧ (t.dmaX n).next = none ∧ (t.dmaX n).seq = (s.dmaX n).seq ∧
        t.rd Dma.DESCS n = s.rd Dma.DESCS n ∧ t.rd Dma.BYTES n = s.rd Dma.BYTES n ∧
        t.out = .status h 0 :: s.out) ∧
  -- a channel between descriptors
  (∀ (s : State) (h n : Nat) (b : Bytes),
      s.Accepts h Dma.CMD n 3 →
      (48 ≤ n ∨ h = 0) ∧ (s.dmaX n).desc = [] →
      ∃ t, exec (.dmaDisable h n b) s = .next t ∧
        t.rd Dma.STATE n = 0 ∧ (t.dmaX n).desc = [] ∧ (t.dmaX n).undef = true ∧ (t.dmaX n).mover = none ∧
        t.rd Dma.HEAD n = s.rd Dma.HEAD n ∧ t.mem.hbm = s.mem.hbm ∧
        t.out = .status h 0 :: s.out) ∧
  -- a firmware channel's last descriptor, a fill of HBM without record
  (∀ (s : State) (n : Fin 64) (d : Bytes) (m : Nat),
      s.running = true →
      n < 48 ∧ s.rd Dma.STATE n = 1 ∧ (s.dmaX n).desc = d ∧ d ≠ [] ∧ (s.dmaX n).mover = some m →
      (s.dmaX n).stopping = false ∧ dFlag d 0 = false ∧ dFlag d 1 = false →
      dOp d = 7 ∧ 0 < dLen d ∧ (dDst d).space = 0 →
      (List.range 64).all (fun i => !s.on APort.CAPO i) = true ∧ s.rd Pwr.PSTATE 0 = 0 ∧ s.elemsWith Dec.STATE 4 = [] →
      ∃ t, exec (.dmaDescriptorDone n [] [] []) s = .next t ∧
        t.mem.hbm = poke s.mem.hbm (dDst d).addr ((List.range (dLen d)).map (fun i => BitVec.ofNat 8 (dPar d 0 4 / 256 ^ (i % 4)))) ∧
        t.rd Dma.DESCS n = (s.rd Dma.DESCS n + 1) % 2 ^ 64 ∧ t.rd Dma.BYTES n = (s.rd Dma.BYTES n + dLen d) % 2 ^ 64 ∧
        t.rd Dma.STATE n = 0 ∧ (t.dmaX n).desc = [] ∧ (t.dmaX n).seq = ((s.dmaX n).seq + 1) % 2 ^ 32 ∧
        t.mem.shm = s.mem.shm ∧ t.out = s.out) ∧
  -- a descriptor of no bytes
  (∀ (s : State) (n : Fin 64) (d : Bytes) (m : Nat),
      s.running = true →
      n < 48 ∧ s.rd Dma.STATE n = 1 ∧ (s.dmaX n).desc = d ∧ d ≠ [] ∧ (s.dmaX n).mover = some m →
      (s.dmaX n).stopping = false ∧ dFlag d 0 = false ∧ dFlag d 1 = false ∧ dLen d = 0 →
      ∃ t, exec (.dmaDescriptorDone n [] [] []) s = .next t ∧
        t.mem.hbm = s.mem.hbm ∧ t.mem.shm = s.mem.shm ∧
        t.rd Dma.DESCS n = (s.rd Dma.DESCS n + 1) % 2 ^ 64 ∧ t.rd Dma.BYTES n = s.rd Dma.BYTES n % 2 ^ 64 ∧
        t.rd Dma.STATE n = 0 ∧ (t.dmaX n).desc = [] ∧
        t.out = s.out)
end

