-- ==== Sys2Proof/Laws/Tables.lean ====
section
/-! SUPPORT. The laws of sparse tables: a read after a write to the same key gives the value written, a write leaves
every other key alone, and a write keeps the canonical form. -/

namespace Sys2Proof.Machine

/-- Dropping the rows at or below k leaves the values of the keys above k. -/
theorem Tbl.get_dropWhile_above {α : Type} (d : α) (k i : Nat) (h : k < i) (t : Tbl α) :
    Tbl.get d (t.dropWhile (fun r => decide (r.1 ≤ k))) i = Tbl.get d t i := by
  induction t with
  | nil => rfl
  | cons r t ih =>
    obtain ⟨j, a⟩ := r
    by_cases hj : j ≤ k
    · have : j < i := by omega
      simp [hj, ih, Tbl.get, this]
    · simp [hj]

/-- Dropping the rows at or below k leaves no row at or below k. -/
theorem Tbl.get_dropWhile_below {α : Type} (d : α) (k i : Nat) (h : i ≤ k) (t : Tbl α) :
    Tbl.get d (t.dropWhile (fun r => decide (r.1 ≤ k))) i = d := by
  induction t with
  | nil => rfl
  | cons r t ih =>
    obtain ⟨j, a⟩ := r
    by_cases hj : j ≤ k
    · simp [hj, ih]
    · have h1 : ¬ j < i := by omega
      have h2 : j ≠ i := by omega
      simp [hj, Tbl.get, h1, h2]

/-- A read of the key written gives the value written. -/
@[simp] theorem Tbl.get_set_self {α : Type} [DecidableEq α] (d : α) (t : Tbl α) (k : Nat) (v : α) :
    Tbl.get d (Tbl.set d t k v) k = v := by
  have put (t : Tbl α) : Tbl.get d (Tbl.put d k v t) k = v := by
    unfold Tbl.put
    split
    · simp [Tbl.get_dropWhile_below d k k (Nat.le_refl k), *]
    · simp [Tbl.get]
  induction t with
  | nil => exact put []
  | cons r t ih =>
    obtain ⟨j, a⟩ := r
    by_cases hj : j < k
    · simp [Tbl.set, hj, Tbl.get, ih]
    · simp only [Tbl.set, hj, if_false]
      exact put _

/-- A write of key k leaves every other key alone, whatever the reader takes an unlisted key to read as. -/
theorem Tbl.get_set_ne {α : Type} [DecidableEq α] (c d : α) (t : Tbl α) (k i : Nat) (v : α) (h : i ≠ k) :
    Tbl.get c (Tbl.set d t k v) i = Tbl.get c t i := by
  induction t with
  | nil =>
    have : ¬ k = i := fun e => h e.symm
    by_cases hv : v = d <;> simp [Tbl.set, Tbl.put, hv, Tbl.get, this]
  | cons r t ih =>
    obtain ⟨j, a⟩ := r
    by_cases hj : j < k
    · simp [Tbl.set, hj, Tbl.get, ih]
    · simp only [Tbl.set, hj, if_false, Tbl.put]
      have hk : k ≠ i := fun e => h e.symm
      rcases Nat.lt_or_gt_of_ne h with hi | hi
      · have h1 : ¬ j < i := by omega
        have h2 : j ≠ i := by omega
        have h3 : ¬ k < i := by omega
        have : Tbl.get c ((j, a) :: t) i = c := by simp [Tbl.get, h1, h2]
        split
        · rw [Tbl.get_dropWhile_below c k i (by omega), this]
        · rw [this]; simp [Tbl.get, h3, hk]
      · split
        · rw [Tbl.get_dropWhile_above c k i hi]
        · simp only [Tbl.get, hi, if_true]
          rw [Tbl.get_dropWhile_above c k i hi]; rfl

/-- A read after a write, whichever key is read. -/
theorem Tbl.get_set {α : Type} [DecidableEq α] (d : α) (t : Tbl α) (k i : Nat) (v : α) :
    Tbl.get d (Tbl.set d t k v) i = if i = k then v else Tbl.get d t i := by
  split
  · next h => subst h; simp
  · next h => exact Tbl.get_set_ne d d t k i v h

/-- A read after an update. -/
theorem Tbl.get_upd {α : Type} [DecidableEq α] (d : α) (t : Tbl α) (k i : Nat) (f : α → α) :
    Tbl.get d (Tbl.upd d t k f) i = if i = k then f (Tbl.get d t k) else Tbl.get d t i :=
  Tbl.get_set d t k i _

/-- The canonical form from `lo` on holds from any lower bound on. -/
theorem Tbl.wfFrom_mono {α : Type} [DecidableEq α] (d : α) (a b : Nat) (h : a ≤ b) (t : Tbl α)
    (hw : Tbl.wfFrom d b t = true) : Tbl.wfFrom d a t = true := by
  cases t with
  | nil => rfl
  | cons r t =>
    obtain ⟨j, x⟩ := r
    simp only [Tbl.wfFrom, Bool.and_eq_true, decide_eq_true_eq] at hw ⊢
    exact ⟨⟨by omega, hw.1.2⟩, hw.2⟩

/-- What is left above k of a canonical table is canonical from k + 1 on. -/
theorem Tbl.wfFrom_dropWhile {α : Type} [DecidableEq α] (d : α) (k : Nat) (t : Tbl α) (lo : Nat)
    (hw : Tbl.wfFrom d lo t = true) : Tbl.wfFrom d (k + 1) (t.dropWhile (fun r => decide (r.1 ≤ k))) = true := by
  induction t generalizing lo with
  | nil => rfl
  | cons r t ih =>
    obtain ⟨j, x⟩ := r
    simp only [Tbl.wfFrom, Bool.and_eq_true, decide_eq_true_eq] at hw
    by_cases hj : j ≤ k
    · simpa [hj] using ih _ hw.2
    · simp only [List.dropWhile_cons, hj, decide_false, Tbl.wfFrom, Bool.and_eq_true, decide_eq_true_eq, Bool.false_eq_true,
        if_false]
      exact ⟨⟨by omega, hw.1.2⟩, hw.2⟩

/-- A write keeps the canonical form from a bound at or below its key. -/
theorem Tbl.wfFrom_set {α : Type} [DecidableEq α] (d : α) (t : Tbl α) (lo k : Nat) (v : α) (h : lo ≤ k)
    (hw : Tbl.wfFrom d lo t = true) : Tbl.wfFrom d lo (Tbl.set d t k v) = true := by
  have put (t : Tbl α) (lo' : Nat) (hw : Tbl.wfFrom d lo' t = true) : Tbl.wfFrom d lo (Tbl.put d k v t) = true := by
    have hd := Tbl.wfFrom_dropWhile d k t lo' hw
    unfold Tbl.put
    split
    · exact Tbl.wfFrom_mono d lo (k + 1) (by omega) _ hd
    · next hv =>
      simp only [Tbl.wfFrom, Bool.and_eq_true, decide_eq_true_eq]
      exact ⟨⟨h, hv⟩, hd⟩
  induction t generalizing lo with
  | nil => exact put [] lo rfl
  | cons r t ih =>
    obtain ⟨j, x⟩ := r
    by_cases hj : j < k
    · simp only [Tbl.wfFrom, Bool.and_eq_true, decide_eq_true_eq] at hw
      simp only [Tbl.set, hj, if_true, Tbl.wfFrom, Bool.and_eq_true, decide_eq_true_eq]
      refine ⟨hw.1, ih (j + 1) (by omega) hw.2 ?_⟩
      intro t lo' hw'
      have hd := Tbl.wfFrom_dropWhile d k t lo' hw'
      unfold Tbl.put
      split
      · exact Tbl.wfFrom_mono d (j + 1) (k + 1) (by omega) _ hd
      · next hv =>
        simp only [Tbl.wfFrom, Bool.and_eq_true, decide_eq_true_eq]
        exact ⟨⟨by omega, hv⟩, hd⟩
    · simp only [Tbl.set, hj, if_false]
      exact put _ lo hw

/-- A write keeps the canonical form. -/
theorem Tbl.wf_set {α : Type} [DecidableEq α] (d : α) (t : Tbl α) (k : Nat) (v : α) (hw : Tbl.wf d t = true) :
    Tbl.wf d (Tbl.set d t k v) = true :=
  Tbl.wfFrom_set d t 0 k v (Nat.zero_le k) hw

end Sys2Proof.Machine
end

