-- ==== Sys2Proof/Laws/State.lean ====
section
/-! SUPPORT. The small laws of the shared operations on State: what a read gives after a write of an object, and the
fields of the state that each operation leaves alone. -/

namespace Sys2Proof.Machine

/-! Reads depend on the object store alone. -/

/-- Two states with the same object store read the same. -/
theorem State.rd_congr {s t : State} (h : s.od = t.od) (col el : Nat) : s.rd col el = t.rd col el := by
  simp only [State.rd, State.column, h]

/-- A column after a write. -/
theorem State.column_wr (s : State) (col el v c : Nat) :
    (s.wr col el v).column c = if c = col then Tbl.set (dflt col el) (s.column col) el v else s.column c := by
  simp only [State.column, State.wr, Tbl.get_set]

/-- A read of the object written gives the value written. -/
@[simp] theorem State.rd_wr_self (s : State) (col el v : Nat) : (s.wr col el v).rd col el = v := by
  simp [State.rd, State.column_wr]

/-- A write leaves every other object alone: another column, or another element. -/
theorem State.rd_wr_ne (s : State) (col el v c e : Nat) (h : c ≠ col ∨ e ≠ el) : (s.wr col el v).rd c e = s.rd c e := by
  unfold State.rd
  rw [State.column_wr]
  split
  · next hc =>
    subst hc
    rw [Tbl.get_set_ne _ _ _ _ _ _ (h.resolve_left (fun n => n rfl))]
  · rfl

/-- A read after a write, whichever object is read. -/
theorem State.rd_wr (s : State) (col el v c e : Nat) :
    (s.wr col el v).rd c e = if c = col ∧ e = el then v else s.rd c e := by
  split
  · next h => obtain ⟨rfl, rfl⟩ := h; simp
  · next h =>
    apply State.rd_wr_ne
    by_cases hc : c = col
    · exact .inr (fun he => h ⟨hc, he⟩)
    · exact .inl hc

/-- A counter after it is counted up. -/
theorem State.rd_bump_self (s : State) (col el n : Nat) : (s.bump col el n).rd col el = (s.rd col el + n) % 2 ^ colBits col := by
  simp [State.bump]

/-- Counting leaves every other object alone. -/
theorem State.rd_bump_ne (s : State) (col el n c e : Nat) (h : c ≠ col ∨ e ≠ el) : (s.bump col el n).rd c e = s.rd c e :=
  State.rd_wr_ne _ _ _ _ _ _ h

/-- What is taken from a count. -/
theorem State.rd_drop_self (s : State) (col el n : Nat) : (s.drop col el n).rd col el = s.rd col el - n := by
  simp [State.drop]

/-- Taking from a count leaves every other object alone. -/
theorem State.rd_drop_ne (s : State) (col el n c e : Nat) (h : c ≠ col ∨ e ≠ el) : (s.drop col el n).rd c e = s.rd c e :=
  State.rd_wr_ne _ _ _ _ _ _ h

/-! What each operation leaves alone. -/

@[simp] theorem State.wr_clk (s : State) (col el v : Nat) : (s.wr col el v).clk = s.clk := rfl
@[simp] theorem State.wr_clkRem (s : State) (col el v : Nat) : (s.wr col el v).clkRem = s.clkRem := rfl
@[simp] theorem State.wr_phys (s : State) (col el v : Nat) : (s.wr col el v).phys = s.phys := rfl
@[simp] theorem State.wr_draws (s : State) (col el v : Nat) : (s.wr col el v).draws = s.draws := rfl
@[simp] theorem State.wr_pending (s : State) (col el v : Nat) : (s.wr col el v).pending = s.pending := rfl
@[simp] theorem State.wr_out (s : State) (col el v : Nat) : (s.wr col el v).out = s.out := rfl
@[simp] theorem State.wr_ev (s : State) (col el v : Nat) : (s.wr col el v).ev = s.ev := rfl
@[simp] theorem State.wr_ctl (s : State) (col el v : Nat) : (s.wr col el v).ctl = s.ctl := rfl
@[simp] theorem State.wr_tim (s : State) (col el v : Nat) : (s.wr col el v).tim = s.tim := rfl
@[simp] theorem State.wr_cip (s : State) (col el v : Nat) : (s.wr col el v).cip = s.cip := rfl
@[simp] theorem State.wr_egr (s : State) (col el v : Nat) : (s.wr col el v).egr = s.egr := rfl
@[simp] theorem State.wr_fret (s : State) (col el v : Nat) : (s.wr col el v).fret = s.fret := rfl
@[simp] theorem State.wr_fwd (s : State) (col el v : Nat) : (s.wr col el v).fwd = s.fwd := rfl
@[simp] theorem State.wr_ing (s : State) (col el v : Nat) : (s.wr col el v).ing = s.ing := rfl
@[simp] theorem State.wr_aud (s : State) (col el v : Nat) : (s.wr col el v).aud = s.aud := rfl
@[simp] theorem State.wr_ports (s : State) (col el v : Nat) : (s.wr col el v).ports = s.ports := rfl
@[simp] theorem State.wr_vid (s : State) (col el v : Nat) : (s.wr col el v).vid = s.vid := rfl
@[simp] theorem State.wr_ros (s : State) (col el v : Nat) : (s.wr col el v).ros = s.ros := rfl
@[simp] theorem State.wr_sch (s : State) (col el v : Nat) : (s.wr col el v).sch = s.sch := rfl
@[simp] theorem State.wr_mem (s : State) (col el v : Nat) : (s.wr col el v).mem = s.mem := rfl
@[simp] theorem State.wr_dma (s : State) (col el v : Nat) : (s.wr col el v).dma = s.dma := rfl
@[simp] theorem State.wr_pwr (s : State) (col el v : Nat) : (s.wr col el v).pwr = s.pwr := rfl

@[simp] theorem State.bump_clk (s : State) (col el n : Nat) : (s.bump col el n).clk = s.clk := rfl
@[simp] theorem State.bump_clkRem (s : State) (col el n : Nat) : (s.bump col el n).clkRem = s.clkRem := rfl
@[simp] theorem State.bump_phys (s : State) (col el n : Nat) : (s.bump col el n).phys = s.phys := rfl
@[simp] theorem State.bump_draws (s : State) (col el n : Nat) : (s.bump col el n).draws = s.draws := rfl
@[simp] theorem State.bump_pending (s : State) (col el n : Nat) : (s.bump col el n).pending = s.pending := rfl
@[simp] theorem State.bump_out (s : State) (col el n : Nat) : (s.bump col el n).out = s.out := rfl
@[simp] theorem State.bump_ev (s : State) (col el n : Nat) : (s.bump col el n).ev = s.ev := rfl
@[simp] theorem State.bump_ctl (s : State) (col el n : Nat) : (s.bump col el n).ctl = s.ctl := rfl
@[simp] theorem State.bump_tim (s : State) (col el n : Nat) : (s.bump col el n).tim = s.tim := rfl
@[simp] theorem State.bump_cip (s : State) (col el n : Nat) : (s.bump col el n).cip = s.cip := rfl
@[simp] theorem State.bump_egr (s : State) (col el n : Nat) : (s.bump col el n).egr = s.egr := rfl
@[simp] theorem State.bump_fret (s : State) (col el n : Nat) : (s.bump col el n).fret = s.fret := rfl
@[simp] theorem State.bump_fwd (s : State) (col el n : Nat) : (s.bump col el n).fwd = s.fwd := rfl
@[simp] theorem State.bump_ing (s : State) (col el n : Nat) : (s.bump col el n).ing = s.ing := rfl
@[simp] theorem State.bump_aud (s : State) (col el n : Nat) : (s.bump col el n).aud = s.aud := rfl
@[simp] theorem State.bump_ports (s : State) (col el n : Nat) : (s.bump col el n).ports = s.ports := rfl
@[simp] theorem State.bump_vid (s : State) (col el n : Nat) : (s.bump col el n).vid = s.vid := rfl
@[simp] theorem State.bump_ros (s : State) (col el n : Nat) : (s.bump col el n).ros = s.ros := rfl
@[simp] theorem State.bump_sch (s : State) (col el n : Nat) : (s.bump col el n).sch = s.sch := rfl
@[simp] theorem State.bump_mem (s : State) (col el n : Nat) : (s.bump col el n).mem = s.mem := rfl
@[simp] theorem State.bump_dma (s : State) (col el n : Nat) : (s.bump col el n).dma = s.dma := rfl
@[simp] theorem State.bump_pwr (s : State) (col el n : Nat) : (s.bump col el n).pwr = s.pwr := rfl

@[simp] theorem State.drop_clk (s : State) (col el n : Nat) : (s.drop col el n).clk = s.clk := rfl
@[simp] theorem State.drop_clkRem (s : State) (col el n : Nat) : (s.drop col el n).clkRem = s.clkRem := rfl
@[simp] theorem State.drop_phys (s : State) (col el n : Nat) : (s.drop col el n).phys = s.phys := rfl
@[simp] theorem State.drop_draws (s : State) (col el n : Nat) : (s.drop col el n).draws = s.draws := rfl
@[simp] theorem State.drop_pending (s : State) (col el n : Nat) : (s.drop col el n).pending = s.pending := rfl
@[simp] theorem State.drop_out (s : State) (col el n : Nat) : (s.drop col el n).out = s.out := rfl
@[simp] theorem State.drop_ev (s : State) (col el n : Nat) : (s.drop col el n).ev = s.ev := rfl
@[simp] theorem State.drop_ctl (s : State) (col el n : Nat) : (s.drop col el n).ctl = s.ctl := rfl
@[simp] theorem State.drop_tim (s : State) (col el n : Nat) : (s.drop col el n).tim = s.tim := rfl
@[simp] theorem State.drop_cip (s : State) (col el n : Nat) : (s.drop col el n).cip = s.cip := rfl
@[simp] theorem State.drop_egr (s : State) (col el n : Nat) : (s.drop col el n).egr = s.egr := rfl
@[simp] theorem State.drop_fret (s : State) (col el n : Nat) : (s.drop col el n).fret = s.fret := rfl
@[simp] theorem State.drop_fwd (s : State) (col el n : Nat) : (s.drop col el n).fwd = s.fwd := rfl
@[simp] theorem State.drop_ing (s : State) (col el n : Nat) : (s.drop col el n).ing = s.ing := rfl
@[simp] theorem State.drop_aud (s : State) (col el n : Nat) : (s.drop col el n).aud = s.aud := rfl
@[simp] theorem State.drop_ports (s : State) (col el n : Nat) : (s.drop col el n).ports = s.ports := rfl
@[simp] theorem State.drop_vid (s : State) (col el n : Nat) : (s.drop col el n).vid = s.vid := rfl
@[simp] theorem State.drop_ros (s : State) (col el n : Nat) : (s.drop col el n).ros = s.ros := rfl
@[simp] theorem State.drop_sch (s : State) (col el n : Nat) : (s.drop col el n).sch = s.sch := rfl
@[simp] theorem State.drop_mem (s : State) (col el n : Nat) : (s.drop col el n).mem = s.mem := rfl
@[simp] theorem State.drop_dma (s : State) (col el n : Nat) : (s.drop col el n).dma = s.dma := rfl
@[simp] theorem State.drop_pwr (s : State) (col el n : Nat) : (s.drop col el n).pwr = s.pwr := rfl

/-- Writing a list of columns changes the objects alone. -/
theorem State.foldl_wr_eq (f : Nat → Nat) (el : Nat) (cs : List Nat) (s : State) :
    ∃ o, cs.foldl (fun s c => s.wr c el (f c)) s = { s with od := o } := by
  induction cs generalizing s with
  | nil => exact ⟨s.od, rfl⟩
  | cons c cs ih =>
    obtain ⟨o, h⟩ := ih (s.wr c el (f c))
    exact ⟨o, by rw [List.foldl_cons, h]; rfl⟩

theorem State.rd_foldl_wr (f : Nat → Nat) (el : Nat) (cs : List Nat) (s : State) (col e : Nat) :
    (cs.foldl (fun s c => s.wr c el (f c)) s).rd col e = if col ∈ cs ∧ e = el then f col else s.rd col e := by
  induction cs generalizing s with
  | nil => simp
  | cons c cs ih =>
    rw [List.foldl_cons, ih, State.rd_wr]
    by_cases hc : col = c <;> by_cases he : e = el <;> by_cases hm : col ∈ cs <;> simp_all

theorem State.clearEl_eq (s : State) (ix el : Nat) : ∃ o, s.clearEl ix el = { s with od := o } :=
  State.foldl_wr_eq ..

/-- A column without a row reads as its Default. -/
theorem Tbl.get_absent {α : Type} (d : α) (t : Tbl α) (k : Nat) (h : k ∉ t.map (·.1)) : Tbl.get d t k = d := by
  induction t with
  | nil => rfl
  | cons r t ih =>
    obtain ⟨j, a⟩ := r
    simp only [List.map_cons, List.mem_cons, not_or] at h
    unfold Tbl.get
    split
    · exact ih h.2
    · rw [if_neg (fun e => h.1 e.symm)]

/-- Every object of the cleared element is at its Default, and every other object keeps its value. -/
theorem State.rd_clearEl (s : State) (ix el col e : Nat) :
    (s.clearEl ix el).rd col e = if col / 256 = ix ∧ e = el then dflt col el else s.rd col e := by
  unfold State.clearEl
  rw [State.rd_foldl_wr]
  by_cases hc : col / 256 = ix <;> by_cases he : e = el
  · subst he
    by_cases hm : col ∈ s.od.map (·.1)
    · simp [hc, List.mem_filter, hm]
    · have h : s.rd col e = dflt col e := by
        unfold State.rd State.column
        rw [Tbl.get_absent [] s.od col hm]; rfl
      simp only [hc, true_and, h]
      simp
  · simp [he]
  · simp [hc, List.mem_filter]
  · simp [he]

theorem State.column_foldl_wr (f : Nat → Nat) (el : Nat) (cs : List Nat) (s : State) (c : Nat) (h : c ∉ cs) :
    (cs.foldl (fun s c => s.wr c el (f c)) s).column c = s.column c := by
  induction cs generalizing s with
  | nil => rfl
  | cons d cs ih =>
    simp only [List.mem_cons, not_or] at h
    rw [List.foldl_cons, ih _ h.2, State.column_wr, if_neg h.1]

/-- The columns of other indexes are as they were. -/
theorem State.column_clearEl (s : State) (ix el c : Nat) (h : c / 256 ≠ ix) : (s.clearEl ix el).column c = s.column c := by
  apply State.column_foldl_wr
  simp [List.mem_filter, h]

@[simp] theorem State.clearEl_clk (s : State) (ix el : Nat) : (s.clearEl ix el).clk = s.clk := by
  obtain ⟨o, h⟩ := s.clearEl_eq ix el; rw [h]
@[simp] theorem State.clearEl_clkRem (s : State) (ix el : Nat) : (s.clearEl ix el).clkRem = s.clkRem := by
  obtain ⟨o, h⟩ := s.clearEl_eq ix el; rw [h]
@[simp] theorem State.clearEl_phys (s : State) (ix el : Nat) : (s.clearEl ix el).phys = s.phys := by
  obtain ⟨o, h⟩ := s.clearEl_eq ix el; rw [h]
@[simp] theorem State.clearEl_draws (s : State) (ix el : Nat) : (s.clearEl ix el).draws = s.draws := by
  obtain ⟨o, h⟩ := s.clearEl_eq ix el; rw [h]
@[simp] theorem State.clearEl_pending (s : State) (ix el : Nat) : (s.clearEl ix el).pending = s.pending := by
  obtain ⟨o, h⟩ := s.clearEl_eq ix el; rw [h]
@[simp] theorem State.clearEl_out (s : State) (ix el : Nat) : (s.clearEl ix el).out = s.out := by
  obtain ⟨o, h⟩ := s.clearEl_eq ix el; rw [h]
@[simp] theorem State.clearEl_ev (s : State) (ix el : Nat) : (s.clearEl ix el).ev = s.ev := by
  obtain ⟨o, h⟩ := s.clearEl_eq ix el; rw [h]
@[simp] theorem State.clearEl_ctl (s : State) (ix el : Nat) : (s.clearEl ix el).ctl = s.ctl := by
  obtain ⟨o, h⟩ := s.clearEl_eq ix el; rw [h]
@[simp] theorem State.clearEl_tim (s : State) (ix el : Nat) : (s.clearEl ix el).tim = s.tim := by
  obtain ⟨o, h⟩ := s.clearEl_eq ix el; rw [h]
@[simp] theorem State.clearEl_cip (s : State) (ix el : Nat) : (s.clearEl ix el).cip = s.cip := by
  obtain ⟨o, h⟩ := s.clearEl_eq ix el; rw [h]
@[simp] theorem State.clearEl_egr (s : State) (ix el : Nat) : (s.clearEl ix el).egr = s.egr := by
  obtain ⟨o, h⟩ := s.clearEl_eq ix el; rw [h]
@[simp] theorem State.clearEl_fret (s : State) (ix el : Nat) : (s.clearEl ix el).fret = s.fret := by
  obtain ⟨o, h⟩ := s.clearEl_eq ix el; rw [h]
@[simp] theorem State.clearEl_fwd (s : State) (ix el : Nat) : (s.clearEl ix el).fwd = s.fwd := by
  obtain ⟨o, h⟩ := s.clearEl_eq ix el; rw [h]
@[simp] theorem State.clearEl_ing (s : State) (ix el : Nat) : (s.clearEl ix el).ing = s.ing := by
  obtain ⟨o, h⟩ := s.clearEl_eq ix el; rw [h]
@[simp] theorem State.clearEl_aud (s : State) (ix el : Nat) : (s.clearEl ix el).aud = s.aud := by
  obtain ⟨o, h⟩ := s.clearEl_eq ix el; rw [h]
@[simp] theorem State.clearEl_ports (s : State) (ix el : Nat) : (s.clearEl ix el).ports = s.ports := by
  obtain ⟨o, h⟩ := s.clearEl_eq ix el; rw [h]
@[simp] theorem State.clearEl_vid (s : State) (ix el : Nat) : (s.clearEl ix el).vid = s.vid := by
  obtain ⟨o, h⟩ := s.clearEl_eq ix el; rw [h]
@[simp] theorem State.clearEl_ros (s : State) (ix el : Nat) : (s.clearEl ix el).ros = s.ros := by
  obtain ⟨o, h⟩ := s.clearEl_eq ix el; rw [h]
@[simp] theorem State.clearEl_sch (s : State) (ix el : Nat) : (s.clearEl ix el).sch = s.sch := by
  obtain ⟨o, h⟩ := s.clearEl_eq ix el; rw [h]
@[simp] theorem State.clearEl_mem (s : State) (ix el : Nat) : (s.clearEl ix el).mem = s.mem := by
  obtain ⟨o, h⟩ := s.clearEl_eq ix el; rw [h]
@[simp] theorem State.clearEl_dma (s : State) (ix el : Nat) : (s.clearEl ix el).dma = s.dma := by
  obtain ⟨o, h⟩ := s.clearEl_eq ix el; rw [h]
@[simp] theorem State.clearEl_pwr (s : State) (ix el : Nat) : (s.clearEl ix el).pwr = s.pwr := by
  obtain ⟨o, h⟩ := s.clearEl_eq ix el; rw [h]

@[simp] theorem State.emit_od (s : State) (e : Emission) : (s.emit e).od = s.od := rfl
@[simp] theorem State.emit_clk (s : State) (e : Emission) : (s.emit e).clk = s.clk := rfl
@[simp] theorem State.emit_clkRem (s : State) (e : Emission) : (s.emit e).clkRem = s.clkRem := rfl
@[simp] theorem State.emit_phys (s : State) (e : Emission) : (s.emit e).phys = s.phys := rfl
@[simp] theorem State.emit_draws (s : State) (e : Emission) : (s.emit e).draws = s.draws := rfl
@[simp] theorem State.emit_pending (s : State) (e : Emission) : (s.emit e).pending = s.pending := rfl
@[simp] theorem State.emit_ev (s : State) (e : Emission) : (s.emit e).ev = s.ev := rfl
@[simp] theorem State.emit_ctl (s : State) (e : Emission) : (s.emit e).ctl = s.ctl := rfl
@[simp] theorem State.emit_tim (s : State) (e : Emission) : (s.emit e).tim = s.tim := rfl
@[simp] theorem State.emit_cip (s : State) (e : Emission) : (s.emit e).cip = s.cip := rfl
@[simp] theorem State.emit_egr (s : State) (e : Emission) : (s.emit e).egr = s.egr := rfl
@[simp] theorem State.emit_fret (s : State) (e : Emission) : (s.emit e).fret = s.fret := rfl
@[simp] theorem State.emit_fwd (s : State) (e : Emission) : (s.emit e).fwd = s.fwd := rfl
@[simp] theorem State.emit_ing (s : State) (e : Emission) : (s.emit e).ing = s.ing := rfl
@[simp] theorem State.emit_aud (s : State) (e : Emission) : (s.emit e).aud = s.aud := rfl
@[simp] theorem State.emit_ports (s : State) (e : Emission) : (s.emit e).ports = s.ports := rfl
@[simp] theorem State.emit_vid (s : State) (e : Emission) : (s.emit e).vid = s.vid := rfl
@[simp] theorem State.emit_ros (s : State) (e : Emission) : (s.emit e).ros = s.ros := rfl
@[simp] theorem State.emit_sch (s : State) (e : Emission) : (s.emit e).sch = s.sch := rfl
@[simp] theorem State.emit_mem (s : State) (e : Emission) : (s.emit e).mem = s.mem := rfl
@[simp] theorem State.emit_dma (s : State) (e : Emission) : (s.emit e).dma = s.dma := rfl
@[simp] theorem State.emit_pwr (s : State) (e : Emission) : (s.emit e).pwr = s.pwr := rfl
@[simp] theorem State.emit_out (s : State) (e : Emission) : (s.emit e).out = e :: s.out := rfl
@[simp] theorem State.rd_emit (s : State) (e : Emission) (col el : Nat) : (s.emit e).rd col el = s.rd col el := rfl

@[simp] theorem State.draw_od (s : State) (w : Nat) : ((s.draw w).2).od = s.od := rfl
@[simp] theorem State.draw_clk (s : State) (w : Nat) : ((s.draw w).2).clk = s.clk := rfl
@[simp] theorem State.draw_clkRem (s : State) (w : Nat) : ((s.draw w).2).clkRem = s.clkRem := rfl
@[simp] theorem State.draw_phys (s : State) (w : Nat) : ((s.draw w).2).phys = s.phys := rfl
@[simp] theorem State.draw_pending (s : State) (w : Nat) : ((s.draw w).2).pending = s.pending := rfl
@[simp] theorem State.draw_out (s : State) (w : Nat) : ((s.draw w).2).out = s.out := rfl
@[simp] theorem State.draw_ev (s : State) (w : Nat) : ((s.draw w).2).ev = s.ev := rfl
@[simp] theorem State.draw_ctl (s : State) (w : Nat) : ((s.draw w).2).ctl = s.ctl := rfl
@[simp] theorem State.draw_tim (s : State) (w : Nat) : ((s.draw w).2).tim = s.tim := rfl
@[simp] theorem State.draw_cip (s : State) (w : Nat) : ((s.draw w).2).cip = s.cip := rfl
@[simp] theorem State.draw_egr (s : State) (w : Nat) : ((s.draw w).2).egr = s.egr := rfl
@[simp] theorem State.draw_fret (s : State) (w : Nat) : ((s.draw w).2).fret = s.fret := rfl
@[simp] theorem State.draw_fwd (s : State) (w : Nat) : ((s.draw w).2).fwd = s.fwd := rfl
@[simp] theorem State.draw_ing (s : State) (w : Nat) : ((s.draw w).2).ing = s.ing := rfl
@[simp] theorem State.draw_aud (s : State) (w : Nat) : ((s.draw w).2).aud = s.aud := rfl
@[simp] theorem State.draw_ports (s : State) (w : Nat) : ((s.draw w).2).ports = s.ports := rfl
@[simp] theorem State.draw_vid (s : State) (w : Nat) : ((s.draw w).2).vid = s.vid := rfl
@[simp] theorem State.draw_ros (s : State) (w : Nat) : ((s.draw w).2).ros = s.ros := rfl
@[simp] theorem State.draw_sch (s : State) (w : Nat) : ((s.draw w).2).sch = s.sch := rfl
@[simp] theorem State.draw_mem (s : State) (w : Nat) : ((s.draw w).2).mem = s.mem := rfl
@[simp] theorem State.draw_dma (s : State) (w : Nat) : ((s.draw w).2).dma = s.dma := rfl
@[simp] theorem State.draw_pwr (s : State) (w : Nat) : ((s.draw w).2).pwr = s.pwr := rfl
@[simp] theorem State.draw_draws (s : State) (w : Nat) : (s.draw w).2.draws = s.draws + 1 := rfl
@[simp] theorem State.rd_draw (s : State) (w col el : Nat) : (s.draw w).2.rd col el = s.rd col el := rfl

@[simp] theorem State.queueRec_od (s : State) (r : EvRec) : (s.queueRec r).od = s.od := rfl
@[simp] theorem State.queueRec_clk (s : State) (r : EvRec) : (s.queueRec r).clk = s.clk := rfl
@[simp] theorem State.queueRec_clkRem (s : State) (r : EvRec) : (s.queueRec r).clkRem = s.clkRem := rfl
@[simp] theorem State.queueRec_phys (s : State) (r : EvRec) : (s.queueRec r).phys = s.phys := rfl
@[simp] theorem State.queueRec_draws (s : State) (r : EvRec) : (s.queueRec r).draws = s.draws := rfl
@[simp] theorem State.queueRec_pending (s : State) (r : EvRec) : (s.queueRec r).pending = s.pending := rfl
@[simp] theorem State.queueRec_out (s : State) (r : EvRec) : (s.queueRec r).out = s.out := rfl
@[simp] theorem State.queueRec_ctl (s : State) (r : EvRec) : (s.queueRec r).ctl = s.ctl := rfl
@[simp] theorem State.queueRec_tim (s : State) (r : EvRec) : (s.queueRec r).tim = s.tim := rfl
@[simp] theorem State.queueRec_cip (s : State) (r : EvRec) : (s.queueRec r).cip = s.cip := rfl
@[simp] theorem State.queueRec_egr (s : State) (r : EvRec) : (s.queueRec r).egr = s.egr := rfl
@[simp] theorem State.queueRec_fret (s : State) (r : EvRec) : (s.queueRec r).fret = s.fret := rfl
@[simp] theorem State.queueRec_fwd (s : State) (r : EvRec) : (s.queueRec r).fwd = s.fwd := rfl
@[simp] theorem State.queueRec_ing (s : State) (r : EvRec) : (s.queueRec r).ing = s.ing := rfl
@[simp] theorem State.queueRec_aud (s : State) (r : EvRec) : (s.queueRec r).aud = s.aud := rfl
@[simp] theorem State.queueRec_ports (s : State) (r : EvRec) : (s.queueRec r).ports = s.ports := rfl
@[simp] theorem State.queueRec_vid (s : State) (r : EvRec) : (s.queueRec r).vid = s.vid := rfl
@[simp] theorem State.queueRec_ros (s : State) (r : EvRec) : (s.queueRec r).ros = s.ros := rfl
@[simp] theorem State.queueRec_sch (s : State) (r : EvRec) : (s.queueRec r).sch = s.sch := rfl
@[simp] theorem State.queueRec_mem (s : State) (r : EvRec) : (s.queueRec r).mem = s.mem := rfl
@[simp] theorem State.queueRec_dma (s : State) (r : EvRec) : (s.queueRec r).dma = s.dma := rfl
@[simp] theorem State.queueRec_pwr (s : State) (r : EvRec) : (s.queueRec r).pwr = s.pwr := rfl
@[simp] theorem State.rd_queueRec (s : State) (r : EvRec) (col el : Nat) : (s.queueRec r).rd col el = s.rd col el := rfl

@[simp] theorem State.logRec_clk (s : State) (r : EvRec) : (s.logRec r).clk = s.clk := by unfold State.logRec; split <;> rfl
@[simp] theorem State.logRec_clkRem (s : State) (r : EvRec) : (s.logRec r).clkRem = s.clkRem := by unfold State.logRec; split <;> rfl
@[simp] theorem State.logRec_phys (s : State) (r : EvRec) : (s.logRec r).phys = s.phys := by unfold State.logRec; split <;> rfl
@[simp] theorem State.logRec_draws (s : State) (r : EvRec) : (s.logRec r).draws = s.draws := by unfold State.logRec; split <;> rfl
@[simp] theorem State.logRec_pending (s : State) (r : EvRec) : (s.logRec r).pending = s.pending := by unfold State.logRec; split <;> rfl
@[simp] theorem State.logRec_out (s : State) (r : EvRec) : (s.logRec r).out = s.out := by unfold State.logRec; split <;> rfl
@[simp] theorem State.logRec_ctl (s : State) (r : EvRec) : (s.logRec r).ctl = s.ctl := by unfold State.logRec; split <;> rfl
@[simp] theorem State.logRec_tim (s : State) (r : EvRec) : (s.logRec r).tim = s.tim := by unfold State.logRec; split <;> rfl
@[simp] theorem State.logRec_cip (s : State) (r : EvRec) : (s.logRec r).cip = s.cip := by unfold State.logRec; split <;> rfl
@[simp] theorem State.logRec_egr (s : State) (r : EvRec) : (s.logRec r).egr = s.egr := by unfold State.logRec; split <;> rfl
@[simp] theorem State.logRec_fret (s : State) (r : EvRec) : (s.logRec r).fret = s.fret := by unfold State.logRec; split <;> rfl
@[simp] theorem State.logRec_fwd (s : State) (r : EvRec) : (s.logRec r).fwd = s.fwd := by unfold State.logRec; split <;> rfl
@[simp] theorem State.logRec_ing (s : State) (r : EvRec) : (s.logRec r).ing = s.ing := by unfold State.logRec; split <;> rfl
@[simp] theorem State.logRec_aud (s : State) (r : EvRec) : (s.logRec r).aud = s.aud := by unfold State.logRec; split <;> rfl
@[simp] theorem State.logRec_ports (s : State) (r : EvRec) : (s.logRec r).ports = s.ports := by unfold State.logRec; split <;> rfl
@[simp] theorem State.logRec_vid (s : State) (r : EvRec) : (s.logRec r).vid = s.vid := by unfold State.logRec; split <;> rfl
@[simp] theorem State.logRec_ros (s : State) (r : EvRec) : (s.logRec r).ros = s.ros := by unfold State.logRec; split <;> rfl
@[simp] theorem State.logRec_sch (s : State) (r : EvRec) : (s.logRec r).sch = s.sch := by unfold State.logRec; split <;> rfl
@[simp] theorem State.logRec_mem (s : State) (r : EvRec) : (s.logRec r).mem = s.mem := by unfold State.logRec; split <;> rfl
@[simp] theorem State.logRec_dma (s : State) (r : EvRec) : (s.logRec r).dma = s.dma := by unfold State.logRec; split <;> rfl
@[simp] theorem State.logRec_pwr (s : State) (r : EvRec) : (s.logRec r).pwr = s.pwr := by unfold State.logRec; split <;> rfl

/-- A log record changes no object but the count of log records. -/
theorem State.rd_logRec (s : State) (r : EvRec) (col el : Nat) (h : col ≠ Life.LOG_COUNT) :
    (s.logRec r).rd col el = s.rd col el := by
  unfold State.logRec
  split
  · rfl
  · exact State.rd_bump_ne _ _ _ _ _ _ (.inl h)

@[simp] theorem State.nextSeq_od (s : State) : (s.nextSeq).od = s.od := rfl
@[simp] theorem State.nextSeq_clk (s : State) : (s.nextSeq).clk = s.clk := rfl
@[simp] theorem State.nextSeq_clkRem (s : State) : (s.nextSeq).clkRem = s.clkRem := rfl
@[simp] theorem State.nextSeq_phys (s : State) : (s.nextSeq).phys = s.phys := rfl
@[simp] theorem State.nextSeq_draws (s : State) : (s.nextSeq).draws = s.draws := rfl
@[simp] theorem State.nextSeq_pending (s : State) : (s.nextSeq).pending = s.pending := rfl
@[simp] theorem State.nextSeq_out (s : State) : (s.nextSeq).out = s.out := rfl
@[simp] theorem State.nextSeq_ctl (s : State) : (s.nextSeq).ctl = s.ctl := rfl
@[simp] theorem State.nextSeq_tim (s : State) : (s.nextSeq).tim = s.tim := rfl
@[simp] theorem State.nextSeq_cip (s : State) : (s.nextSeq).cip = s.cip := rfl
@[simp] theorem State.nextSeq_egr (s : State) : (s.nextSeq).egr = s.egr := rfl
@[simp] theorem State.nextSeq_fret (s : State) : (s.nextSeq).fret = s.fret := rfl
@[simp] theorem State.nextSeq_fwd (s : State) : (s.nextSeq).fwd = s.fwd := rfl
@[simp] theorem State.nextSeq_ing (s : State) : (s.nextSeq).ing = s.ing := rfl
@[simp] theorem State.nextSeq_aud (s : State) : (s.nextSeq).aud = s.aud := rfl
@[simp] theorem State.nextSeq_ports (s : State) : (s.nextSeq).ports = s.ports := rfl
@[simp] theorem State.nextSeq_vid (s : State) : (s.nextSeq).vid = s.vid := rfl
@[simp] theorem State.nextSeq_ros (s : State) : (s.nextSeq).ros = s.ros := rfl
@[simp] theorem State.nextSeq_sch (s : State) : (s.nextSeq).sch = s.sch := rfl
@[simp] theorem State.nextSeq_mem (s : State) : (s.nextSeq).mem = s.mem := rfl
@[simp] theorem State.nextSeq_dma (s : State) : (s.nextSeq).dma = s.dma := rfl
@[simp] theorem State.nextSeq_pwr (s : State) : (s.nextSeq).pwr = s.pwr := rfl

@[simp] theorem State.ringRec_od (s : State) (r : EvRec) : (s.ringRec r).od = s.od := by unfold State.ringRec; split <;> rfl
@[simp] theorem State.ringRec_clk (s : State) (r : EvRec) : (s.ringRec r).clk = s.clk := by unfold State.ringRec; split <;> rfl
@[simp] theorem State.ringRec_clkRem (s : State) (r : EvRec) : (s.ringRec r).clkRem = s.clkRem := by unfold State.ringRec; split <;> rfl
@[simp] theorem State.ringRec_phys (s : State) (r : EvRec) : (s.ringRec r).phys = s.phys := by unfold State.ringRec; split <;> rfl
@[simp] theorem State.ringRec_draws (s : State) (r : EvRec) : (s.ringRec r).draws = s.draws := by unfold State.ringRec; split <;> rfl
@[simp] theorem State.ringRec_pending (s : State) (r : EvRec) : (s.ringRec r).pending = s.pending := by unfold State.ringRec; split <;> rfl
@[simp] theorem State.ringRec_out (s : State) (r : EvRec) : (s.ringRec r).out = s.out := by unfold State.ringRec; split <;> rfl
@[simp] theorem State.ringRec_ctl (s : State) (r : EvRec) : (s.ringRec r).ctl = s.ctl := by unfold State.ringRec; split <;> rfl
@[simp] theorem State.ringRec_tim (s : State) (r : EvRec) : (s.ringRec r).tim = s.tim := by unfold State.ringRec; split <;> rfl
@[simp] theorem State.ringRec_cip (s : State) (r : EvRec) : (s.ringRec r).cip = s.cip := by unfold State.ringRec; split <;> rfl
@[simp] theorem State.ringRec_egr (s : State) (r : EvRec) : (s.ringRec r).egr = s.egr := by unfold State.ringRec; split <;> rfl
@[simp] theorem State.ringRec_fret (s : State) (r : EvRec) : (s.ringRec r).fret = s.fret := by unfold State.ringRec; split <;> rfl
@[simp] theorem State.ringRec_fwd (s : State) (r : EvRec) : (s.ringRec r).fwd = s.fwd := by unfold State.ringRec; split <;> rfl
@[simp] theorem State.ringRec_ing (s : State) (r : EvRec) : (s.ringRec r).ing = s.ing := by unfold State.ringRec; split <;> rfl
@[simp] theorem State.ringRec_aud (s : State) (r : EvRec) : (s.ringRec r).aud = s.aud := by unfold State.ringRec; split <;> rfl
@[simp] theorem State.ringRec_ports (s : State) (r : EvRec) : (s.ringRec r).ports = s.ports := by unfold State.ringRec; split <;> rfl
@[simp] theorem State.ringRec_vid (s : State) (r : EvRec) : (s.ringRec r).vid = s.vid := by unfold State.ringRec; split <;> rfl
@[simp] theorem State.ringRec_ros (s : State) (r : EvRec) : (s.ringRec r).ros = s.ros := by unfold State.ringRec; split <;> rfl
@[simp] theorem State.ringRec_sch (s : State) (r : EvRec) : (s.ringRec r).sch = s.sch := by unfold State.ringRec; split <;> rfl
@[simp] theorem State.ringRec_mem (s : State) (r : EvRec) : (s.ringRec r).mem = s.mem := by unfold State.ringRec; split <;> rfl
@[simp] theorem State.ringRec_dma (s : State) (r : EvRec) : (s.ringRec r).dma = s.dma := by unfold State.ringRec; split <;> rfl
@[simp] theorem State.ringRec_pwr (s : State) (r : EvRec) : (s.ringRec r).pwr = s.pwr := by unfold State.ringRec; split <;> rfl

@[simp] theorem State.logByRate_clk (s : State) (r : EvRec) : (s.logByRate r).clk = s.clk := by
  unfold State.logByRate; repeat (first | rfl | split) <;> simp only [State.logRec_clk]
@[simp] theorem State.logByRate_clkRem (s : State) (r : EvRec) : (s.logByRate r).clkRem = s.clkRem := by
  unfold State.logByRate; repeat (first | rfl | split) <;> simp only [State.logRec_clkRem]
@[simp] theorem State.logByRate_phys (s : State) (r : EvRec) : (s.logByRate r).phys = s.phys := by
  unfold State.logByRate; repeat (first | rfl | split) <;> simp only [State.logRec_phys]
@[simp] theorem State.logByRate_draws (s : State) (r : EvRec) : (s.logByRate r).draws = s.draws := by
  unfold State.logByRate; repeat (first | rfl | split) <;> simp only [State.logRec_draws]
@[simp] theorem State.logByRate_pending (s : State) (r : EvRec) : (s.logByRate r).pending = s.pending := by
  unfold State.logByRate; repeat (first | rfl | split) <;> simp only [State.logRec_pending]
@[simp] theorem State.logByRate_out (s : State) (r : EvRec) : (s.logByRate r).out = s.out := by
  unfold State.logByRate; repeat (first | rfl | split) <;> simp only [State.logRec_out]
@[simp] theorem State.logByRate_ctl (s : State) (r : EvRec) : (s.logByRate r).ctl = s.ctl := by
  unfold State.logByRate; repeat (first | rfl | split) <;> simp only [State.logRec_ctl]
@[simp] theorem State.logByRate_tim (s : State) (r : EvRec) : (s.logByRate r).tim = s.tim := by
  unfold State.logByRate; repeat (first | rfl | split) <;> simp only [State.logRec_tim]
@[simp] theorem State.logByRate_cip (s : State) (r : EvRec) : (s.logByRate r).cip = s.cip := by
  unfold State.logByRate; repeat (first | rfl | split) <;> simp only [State.logRec_cip]
@[simp] theorem State.logByRate_egr (s : State) (r : EvRec) : (s.logByRate r).egr = s.egr := by
  unfold State.logByRate; repeat (first | rfl | split) <;> simp only [State.logRec_egr]
@[simp] theorem State.logByRate_fret (s : State) (r : EvRec) : (s.logByRate r).fret = s.fret := by
  unfold State.logByRate; repeat (first | rfl | split) <;> simp only [State.logRec_fret]
@[simp] theorem State.logByRate_fwd (s : State) (r : EvRec) : (s.logByRate r).fwd = s.fwd := by
  unfold State.logByRate; repeat (first | rfl | split) <;> simp only [State.logRec_fwd]
@[simp] theorem State.logByRate_ing (s : State) (r : EvRec) : (s.logByRate r).ing = s.ing := by
  unfold State.logByRate; repeat (first | rfl | split) <;> simp only [State.logRec_ing]
@[simp] theorem State.logByRate_aud (s : State) (r : EvRec) : (s.logByRate r).aud = s.aud := by
  unfold State.logByRate; repeat (first | rfl | split) <;> simp only [State.logRec_aud]
@[simp] theorem State.logByRate_ports (s : State) (r : EvRec) : (s.logByRate r).ports = s.ports := by
  unfold State.logByRate; repeat (first | rfl | split) <;> simp only [State.logRec_ports]
@[simp] theorem State.logByRate_vid (s : State) (r : EvRec) : (s.logByRate r).vid = s.vid := by
  unfold State.logByRate; repeat (first | rfl | split) <;> simp only [State.logRec_vid]
@[simp] theorem State.logByRate_ros (s : State) (r : EvRec) : (s.logByRate r).ros = s.ros := by
  unfold State.logByRate; repeat (first | rfl | split) <;> simp only [State.logRec_ros]
@[simp] theorem State.logByRate_sch (s : State) (r : EvRec) : (s.logByRate r).sch = s.sch := by
  unfold State.logByRate; repeat (first | rfl | split) <;> simp only [State.logRec_sch]
@[simp] theorem State.logByRate_mem (s : State) (r : EvRec) : (s.logByRate r).mem = s.mem := by
  unfold State.logByRate; repeat (first | rfl | split) <;> simp only [State.logRec_mem]
@[simp] theorem State.logByRate_dma (s : State) (r : EvRec) : (s.logByRate r).dma = s.dma := by
  unfold State.logByRate; repeat (first | rfl | split) <;> simp only [State.logRec_dma]
@[simp] theorem State.logByRate_pwr (s : State) (r : EvRec) : (s.logByRate r).pwr = s.pwr := by
  unfold State.logByRate; repeat (first | rfl | split) <;> simp only [State.logRec_pwr]

@[simp] theorem State.countRec_clk (s : State) (r : EvRec) : (s.countRec r).clk = s.clk := by unfold State.countRec; repeat (first | rfl | split)
@[simp] theorem State.countRec_clkRem (s : State) (r : EvRec) : (s.countRec r).clkRem = s.clkRem := by unfold State.countRec; repeat (first | rfl | split)
@[simp] theorem State.countRec_phys (s : State) (r : EvRec) : (s.countRec r).phys = s.phys := by unfold State.countRec; repeat (first | rfl | split)
@[simp] theorem State.countRec_draws (s : State) (r : EvRec) : (s.countRec r).draws = s.draws := by unfold State.countRec; repeat (first | rfl | split)
@[simp] theorem State.countRec_pending (s : State) (r : EvRec) : (s.countRec r).pending = s.pending := by unfold State.countRec; repeat (first | rfl | split)
@[simp] theorem State.countRec_out (s : State) (r : EvRec) : (s.countRec r).out = s.out := by unfold State.countRec; repeat (first | rfl | split)
@[simp] theorem State.countRec_ev (s : State) (r : EvRec) : (s.countRec r).ev = s.ev := by unfold State.countRec; repeat (first | rfl | split)
@[simp] theorem State.countRec_ctl (s : State) (r : EvRec) : (s.countRec r).ctl = s.ctl := by unfold State.countRec; repeat (first | rfl | split)
@[simp] theorem State.countRec_tim (s : State) (r : EvRec) : (s.countRec r).tim = s.tim := by unfold State.countRec; repeat (first | rfl | split)
@[simp] theorem State.countRec_cip (s : State) (r : EvRec) : (s.countRec r).cip = s.cip := by unfold State.countRec; repeat (first | rfl | split)
@[simp] theorem State.countRec_egr (s : State) (r : EvRec) : (s.countRec r).egr = s.egr := by unfold State.countRec; repeat (first | rfl | split)
@[simp] theorem State.countRec_fret (s : State) (r : EvRec) : (s.countRec r).fret = s.fret := by unfold State.countRec; repeat (first | rfl | split)
@[simp] theorem State.countRec_fwd (s : State) (r : EvRec) : (s.countRec r).fwd = s.fwd := by unfold State.countRec; repeat (first | rfl | split)
@[simp] theorem State.countRec_ing (s : State) (r : EvRec) : (s.countRec r).ing = s.ing := by unfold State.countRec; repeat (first | rfl | split)
@[simp] theorem State.countRec_aud (s : State) (r : EvRec) : (s.countRec r).aud = s.aud := by unfold State.countRec; repeat (first | rfl | split)
@[simp] theorem State.countRec_ports (s : State) (r : EvRec) : (s.countRec r).ports = s.ports := by unfold State.countRec; repeat (first | rfl | split)
@[simp] theorem State.countRec_vid (s : State) (r : EvRec) : (s.countRec r).vid = s.vid := by unfold State.countRec; repeat (first | rfl | split)
@[simp] theorem State.countRec_ros (s : State) (r : EvRec) : (s.countRec r).ros = s.ros := by unfold State.countRec; repeat (first | rfl | split)
@[simp] theorem State.countRec_sch (s : State) (r : EvRec) : (s.countRec r).sch = s.sch := by unfold State.countRec; repeat (first | rfl | split)
@[simp] theorem State.countRec_mem (s : State) (r : EvRec) : (s.countRec r).mem = s.mem := by unfold State.countRec; repeat (first | rfl | split)
@[simp] theorem State.countRec_dma (s : State) (r : EvRec) : (s.countRec r).dma = s.dma := by unfold State.countRec; repeat (first | rfl | split)
@[simp] theorem State.countRec_pwr (s : State) (r : EvRec) : (s.countRec r).pwr = s.pwr := by unfold State.countRec; repeat (first | rfl | split)

@[simp] theorem State.raiseAt_clk (s : State) (code severity unit hosts args time : Nat) : (s.raiseAt code severity unit hosts args time).clk = s.clk := by
  simp only [State.raiseAt, State.queueRec_clk, State.countRec_clk, State.logByRate_clk, State.ringRec_clk, State.nextSeq_clk]
@[simp] theorem State.raiseAt_clkRem (s : State) (code severity unit hosts args time : Nat) : (s.raiseAt code severity unit hosts args time).clkRem = s.clkRem := by
  simp only [State.raiseAt, State.queueRec_clkRem, State.countRec_clkRem, State.logByRate_clkRem, State.ringRec_clkRem, State.nextSeq_clkRem]
@[simp] theorem State.raiseAt_phys (s : State) (code severity unit hosts args time : Nat) : (s.raiseAt code severity unit hosts args time).phys = s.phys := by
  simp only [State.raiseAt, State.queueRec_phys, State.countRec_phys, State.logByRate_phys, State.ringRec_phys, State.nextSeq_phys]
@[simp] theorem State.raiseAt_draws (s : State) (code severity unit hosts args time : Nat) : (s.raiseAt code severity unit hosts args time).draws = s.draws := by
  simp only [State.raiseAt, State.queueRec_draws, State.countRec_draws, State.logByRate_draws, State.ringRec_draws, State.nextSeq_draws]
@[simp] theorem State.raiseAt_pending (s : State) (code severity unit hosts args time : Nat) : (s.raiseAt code severity unit hosts args time).pending = s.pending := by
  simp only [State.raiseAt, State.queueRec_pending, State.countRec_pending, State.logByRate_pending, State.ringRec_pending, State.nextSeq_pending]
@[simp] theorem State.raiseAt_out (s : State) (code severity unit hosts args time : Nat) : (s.raiseAt code severity unit hosts args time).out = s.out := by
  simp only [State.raiseAt, State.queueRec_out, State.countRec_out, State.logByRate_out, State.ringRec_out, State.nextSeq_out]
@[simp] theorem State.raiseAt_ctl (s : State) (code severity unit hosts args time : Nat) : (s.raiseAt code severity unit hosts args time).ctl = s.ctl := by
  simp only [State.raiseAt, State.queueRec_ctl, State.countRec_ctl, State.logByRate_ctl, State.ringRec_ctl, State.nextSeq_ctl]
@[simp] theorem State.raiseAt_tim (s : State) (code severity unit hosts args time : Nat) : (s.raiseAt code severity unit hosts args time).tim = s.tim := by
  simp only [State.raiseAt, State.queueRec_tim, State.countRec_tim, State.logByRate_tim, State.ringRec_tim, State.nextSeq_tim]
@[simp] theorem State.raiseAt_cip (s : State) (code severity unit hosts args time : Nat) : (s.raiseAt code severity unit hosts args time).cip = s.cip := by
  simp only [State.raiseAt, State.queueRec_cip, State.countRec_cip, State.logByRate_cip, State.ringRec_cip, State.nextSeq_cip]
@[simp] theorem State.raiseAt_egr (s : State) (code severity unit hosts args time : Nat) : (s.raiseAt code severity unit hosts args time).egr = s.egr := by
  simp only [State.raiseAt, State.queueRec_egr, State.countRec_egr, State.logByRate_egr, State.ringRec_egr, State.nextSeq_egr]
@[simp] theorem State.raiseAt_fret (s : State) (code severity unit hosts args time : Nat) : (s.raiseAt code severity unit hosts args time).fret = s.fret := by
  simp only [State.raiseAt, State.queueRec_fret, State.countRec_fret, State.logByRate_fret, State.ringRec_fret, State.nextSeq_fret]
@[simp] theorem State.raiseAt_fwd (s : State) (code severity unit hosts args time : Nat) : (s.raiseAt code severity unit hosts args time).fwd = s.fwd := by
  simp only [State.raiseAt, State.queueRec_fwd, State.countRec_fwd, State.logByRate_fwd, State.ringRec_fwd, State.nextSeq_fwd]
@[simp] theorem State.raiseAt_ing (s : State) (code severity unit hosts args time : Nat) : (s.raiseAt code severity unit hosts args time).ing = s.ing := by
  simp only [State.raiseAt, State.queueRec_ing, State.countRec_ing, State.logByRate_ing, State.ringRec_ing, State.nextSeq_ing]
@[simp] theorem State.raiseAt_aud (s : State) (code severity unit hosts args time : Nat) : (s.raiseAt code severity unit hosts args time).aud = s.aud := by
  simp only [State.raiseAt, State.queueRec_aud, State.countRec_aud, State.logByRate_aud, State.ringRec_aud, State.nextSeq_aud]
@[simp] theorem State.raiseAt_ports (s : State) (code severity unit hosts args time : Nat) : (s.raiseAt code severity unit hosts args time).ports = s.ports := by
  simp only [State.raiseAt, State.queueRec_ports, State.countRec_ports, State.logByRate_ports, State.ringRec_ports, State.nextSeq_ports]
@[simp] theorem State.raiseAt_vid (s : State) (code severity unit hosts args time : Nat) : (s.raiseAt code severity unit hosts args time).vid = s.vid := by
  simp only [State.raiseAt, State.queueRec_vid, State.countRec_vid, State.logByRate_vid, State.ringRec_vid, State.nextSeq_vid]
@[simp] theorem State.raiseAt_ros (s : State) (code severity unit hosts args time : Nat) : (s.raiseAt code severity unit hosts args time).ros = s.ros := by
  simp only [State.raiseAt, State.queueRec_ros, State.countRec_ros, State.logByRate_ros, State.ringRec_ros, State.nextSeq_ros]
@[simp] theorem State.raiseAt_sch (s : State) (code severity unit hosts args time : Nat) : (s.raiseAt code severity unit hosts args time).sch = s.sch := by
  simp only [State.raiseAt, State.queueRec_sch, State.countRec_sch, State.logByRate_sch, State.ringRec_sch, State.nextSeq_sch]
@[simp] theorem State.raiseAt_mem (s : State) (code severity unit hosts args time : Nat) : (s.raiseAt code severity unit hosts args time).mem = s.mem := by
  simp only [State.raiseAt, State.queueRec_mem, State.countRec_mem, State.logByRate_mem, State.ringRec_mem, State.nextSeq_mem]
@[simp] theorem State.raiseAt_dma (s : State) (code severity unit hosts args time : Nat) : (s.raiseAt code severity unit hosts args time).dma = s.dma := by
  simp only [State.raiseAt, State.queueRec_dma, State.countRec_dma, State.logByRate_dma, State.ringRec_dma, State.nextSeq_dma]
@[simp] theorem State.raiseAt_pwr (s : State) (code severity unit hosts args time : Nat) : (s.raiseAt code severity unit hosts args time).pwr = s.pwr := by
  simp only [State.raiseAt, State.queueRec_pwr, State.countRec_pwr, State.logByRate_pwr, State.ringRec_pwr, State.nextSeq_pwr]

@[simp] theorem State.raise_clk (s : State) (code unit hosts args : Nat) : (s.raise code unit hosts args).clk = s.clk := State.raiseAt_clk ..
@[simp] theorem State.raise_clkRem (s : State) (code unit hosts args : Nat) : (s.raise code unit hosts args).clkRem = s.clkRem := State.raiseAt_clkRem ..
@[simp] theorem State.raise_phys (s : State) (code unit hosts args : Nat) : (s.raise code unit hosts args).phys = s.phys := State.raiseAt_phys ..
@[simp] theorem State.raise_draws (s : State) (code unit hosts args : Nat) : (s.raise code unit hosts args).draws = s.draws := State.raiseAt_draws ..
@[simp] theorem State.raise_pending (s : State) (code unit hosts args : Nat) : (s.raise code unit hosts args).pending = s.pending := State.raiseAt_pending ..
@[simp] theorem State.raise_out (s : State) (code unit hosts args : Nat) : (s.raise code unit hosts args).out = s.out := State.raiseAt_out ..
@[simp] theorem State.raise_ctl (s : State) (code unit hosts args : Nat) : (s.raise code unit hosts args).ctl = s.ctl := State.raiseAt_ctl ..
@[simp] theorem State.raise_tim (s : State) (code unit hosts args : Nat) : (s.raise code unit hosts args).tim = s.tim := State.raiseAt_tim ..
@[simp] theorem State.raise_cip (s : State) (code unit hosts args : Nat) : (s.raise code unit hosts args).cip = s.cip := State.raiseAt_cip ..
@[simp] theorem State.raise_egr (s : State) (code unit hosts args : Nat) : (s.raise code unit hosts args).egr = s.egr := State.raiseAt_egr ..
@[simp] theorem State.raise_fret (s : State) (code unit hosts args : Nat) : (s.raise code unit hosts args).fret = s.fret := State.raiseAt_fret ..
@[simp] theorem State.raise_fwd (s : State) (code unit hosts args : Nat) : (s.raise code unit hosts args).fwd = s.fwd := State.raiseAt_fwd ..
@[simp] theorem State.raise_ing (s : State) (code unit hosts args : Nat) : (s.raise code unit hosts args).ing = s.ing := State.raiseAt_ing ..
@[simp] theorem State.raise_aud (s : State) (code unit hosts args : Nat) : (s.raise code unit hosts args).aud = s.aud := State.raiseAt_aud ..
@[simp] theorem State.raise_ports (s : State) (code unit hosts args : Nat) : (s.raise code unit hosts args).ports = s.ports := State.raiseAt_ports ..
@[simp] theorem State.raise_vid (s : State) (code unit hosts args : Nat) : (s.raise code unit hosts args).vid = s.vid := State.raiseAt_vid ..
@[simp] theorem State.raise_ros (s : State) (code unit hosts args : Nat) : (s.raise code unit hosts args).ros = s.ros := State.raiseAt_ros ..
@[simp] theorem State.raise_sch (s : State) (code unit hosts args : Nat) : (s.raise code unit hosts args).sch = s.sch := State.raiseAt_sch ..
@[simp] theorem State.raise_mem (s : State) (code unit hosts args : Nat) : (s.raise code unit hosts args).mem = s.mem := State.raiseAt_mem ..
@[simp] theorem State.raise_dma (s : State) (code unit hosts args : Nat) : (s.raise code unit hosts args).dma = s.dma := State.raiseAt_dma ..
@[simp] theorem State.raise_pwr (s : State) (code unit hosts args : Nat) : (s.raise code unit hosts args).pwr = s.pwr := State.raiseAt_pwr ..

/-- The objects an event record may change: the counts of the log and of errors, and the latest error (R452, Table 18.16). -/
def eventCols : List Nat := [Life.LOG_COUNT, Svc.ERRORS, Svc.FATALS, Svc.LAST_ERROR]

/-- An event record changes no object but those. -/
theorem State.rd_raiseAt (s : State) (code severity unit hosts args time col el : Nat) (h : col ∉ eventCols) :
    (s.raiseAt code severity unit hosts args time).rd col el = s.rd col el := by
  simp only [eventCols, List.mem_cons, List.not_mem_nil, or_false, not_or] at h
  obtain ⟨h1, h2, h3, h4⟩ := h
  have ring (s : State) (r : EvRec) : (s.ringRec r).rd col el = s.rd col el := State.rd_congr (State.ringRec_od s r) _ _
  have log (s : State) (r : EvRec) : (s.logByRate r).rd col el = s.rd col el := by
    unfold State.logByRate
    by_cases ha : alwaysLogged r.code = true
    · rw [if_pos ha]; exact State.rd_logRec _ _ _ _ h1
    · rw [if_neg ha]
      split
      · exact State.rd_logRec _ _ _ _ h1
      · rfl
  have count (s : State) (r : EvRec) : (s.countRec r).rd col el = s.rd col el := by
    unfold State.countRec
    by_cases e2 : r.severity = 2
    · simp [e2, State.rd_wr, State.rd_bump_ne, h2, h4]
    · by_cases e3 : r.severity = 3
      · simp [e3, State.rd_wr, State.rd_bump_ne, h3, h4]
      · simp only [e2, e3, if_false]
        split
        · exact State.rd_wr_ne _ _ _ _ _ _ (.inl h4)
        · rfl
  unfold State.raiseAt
  rw [State.rd_queueRec, count, log, ring]
  rfl

/-- An event raised now changes no object but those. -/
theorem State.rd_raise (s : State) (code unit hosts args col el : Nat) (h : col ∉ eventCols) :
    (s.raise code unit hosts args).rd col el = s.rd col el :=
  State.rd_raiseAt _ _ _ _ _ _ _ _ _ h

end Sys2Proof.Machine
end

