-- ==== Sys2Proof/Laws/Frame.lean ====
section
/-! SUPPORT. Frames: what each shared operation leaves alone, in the form in which a chain of operations is taken apart from
its end. -/

namespace Sys2Proof.Machine

variable {p : Nat → Prop} {s t u : State}

theorem Unchanged.refl (p : Nat → Prop) (s : State) : Unchanged p s s := ⟨fun _ _ _ => rfl, rfl, rfl, rfl⟩

theorem Unchanged.trans (a : Unchanged p s t) (b : Unchanged p t u) : Unchanged p s u :=
  ⟨fun c e h => (b.objects c e h).trans (a.objects c e h), b.hbm.trans a.hbm, b.shm.trans a.shm, b.pending.trans a.pending⟩

theorem Unchanged.mono {q : Nat → Prop} (a : Unchanged p s t) (h : ∀ c, q c → p c) : Unchanged q s t :=
  ⟨fun c e k => a.objects c e (h c k), a.hbm, a.shm, a.pending⟩

/-- A change of the internal state alone. -/
theorem Unchanged.inner (a : Unchanged p s t) (ho : u.od = t.od) (hm : u.mem.hbm = t.mem.hbm) (hs : u.mem.shm = t.mem.shm)
    (hp : u.pending = t.pending) : Unchanged p s u :=
  a.trans ⟨fun _ _ _ => State.rd_congr ho _ _, hm, hs, hp⟩

theorem Unchanged.ite {c : Prop} [Decidable c] (a : c → Unchanged p s t) (b : ¬c → Unchanged p s u) :
    Unchanged p s (if c then t else u) := by
  split
  · next h => exact a h
  · next h => exact b h

theorem Unchanged.wr {c e v : Nat} (a : Unchanged p s t) (h : ¬p c) : Unchanged p s (t.wr c e v) :=
  a.trans ⟨fun _ _ k => State.rd_wr_ne _ _ _ _ _ _ (.inl (fun x => h (x ▸ k))), rfl, rfl, rfl⟩

theorem Unchanged.wrI {c e : Nat} {v : Int} (a : Unchanged p s t) (h : ¬p c) : Unchanged p s (t.wrI c e v) := a.wr h
theorem Unchanged.bump {c e v : Nat} (a : Unchanged p s t) (h : ¬p c) : Unchanged p s (t.bump c e v) := a.wr h
theorem Unchanged.drop {c e v : Nat} (a : Unchanged p s t) (h : ¬p c) : Unchanged p s (t.drop c e v) := a.wr h

theorem Unchanged.emit {e : Emission} (a : Unchanged p s t) : Unchanged p s (t.emit e) := a.inner rfl rfl rfl rfl
theorem Unchanged.draw {w : Nat} (a : Unchanged p s t) : Unchanged p s (t.draw w).2 := a.inner rfl rfl rfl rfl

/-- An event changes the counts of records alone. -/
theorem Unchanged.raise {c n h v : Nat} (a : Unchanged p s t) (k : ∀ c ∈ eventCols, ¬p c) : Unchanged p s (t.raise c n h v) :=
  a.trans ⟨fun col e x => State.rd_raise _ _ _ _ _ _ _ (fun m => k col m x), by simp, by simp, by simp⟩

theorem Unchanged.foldl {α : Type} {f : State → α → State} (a : Unchanged p s t) (h : ∀ b x, Unchanged p b (f b x))
    (l : List α) : Unchanged p s (l.foldl f t) := by
  induction l generalizing t with
  | nil => exact a
  | cons x l ih => exact ih (a.trans (h t x))

theorem Unchanged.clearEl {ix e : Nat} (a : Unchanged p s t) (h : ∀ c, p c → c / 256 ≠ ix) : Unchanged p s (t.clearEl ix e) :=
  a.trans ⟨fun c e' k => by rw [State.rd_clearEl, if_neg (fun x => h c k x.1)], by simp, by simp, by simp⟩

/-- The ring of records after an event, while HBM is in service. -/
theorem State.raise_raised (s : State) (code unit hosts args : Nat) (h : s.hbmUp = true) (hc : code ≠ Ev.HBM_FATAL) :
    Raised s (s.raise code unit hosts args) code unit args := by
  have key : ∀ (t : State) (r : EvRec), (t.ringRec r).ev = (if r.code == Ev.HBM_FATAL || !t.hbmUp then t.ev else t.ev.toRing r) := by
    intro t r; unfold State.ringRec; split <;> rfl
  have log (t : State) (r : EvRec) : (t.logRec r).ev.ring = t.ev.ring ∧ (t.logRec r).ev.seq = t.ev.seq := by
    unfold State.logRec; split <;> exact ⟨rfl, rfl⟩
  have rate (t : State) (r : EvRec) : (t.logByRate r).ev.ring = t.ev.ring ∧ (t.logByRate r).ev.seq = t.ev.seq := by
    unfold State.logByRate
    split
    · exact log t r
    · split
      · exact log _ r
      · exact ⟨rfl, rfl⟩
  have count (t : State) (r : EvRec) : (t.countRec r).ev = t.ev := by
    unfold State.countRec; dsimp only; split <;> split <;> (try split) <;> rfl
  refine ⟨⟨s.now80, code, unit, hosts, evSeverity code, (s.ev.seq + 1) % 2 ^ 32, args⟩, ?_, rfl, rfl, rfl, rfl, ?_⟩
  · unfold State.raise State.raiseAt
    show (State.countRec _ _).ev.ring = _
    rw [count, (rate _ _).1, key]
    have : (s.nextSeq).hbmUp = true := h
    have hc' : (code == Ev.HBM_FATAL) = false := by simpa using hc
    simp only [this, hc', Bool.not_true, Bool.or_self, Bool.false_eq_true, if_false]
    rfl
  · unfold State.raise State.raiseAt
    show (State.countRec _ _).ev.seq = _
    rw [count, (rate _ _).2, key]
    split <;> rfl

end Sys2Proof.Machine
end

