-- ==== Sys2Proof/Laws/Host.lean ====
section
/-! SUPPORT. What one write of a host can do: the spec lemmas of `live`, `tryWrite` and `hostWriteOp`, which claims about the
commands of the table cite. -/

namespace Sys2Proof.Machine

theorem live_running {f : State → State} {s : State} (h : s.running = true) : live f s = .next (f s) := by
  simp [live, h]

theorem live_asleep {f : State → State} {s : State} (h : s.running = false) : live f s = .next s := by
  simp [live, h]

/-- A write that passes every check but its chapter's own is decided by its chapter. -/
theorem State.tryWrite_accepts {s : State} {h col el v : Nat} (a : s.Accepts h col el v)
    (f : State → Except Status State) : s.tryWrite h col el v f = f s := by
  unfold State.tryWrite
  rw [a.passes]
  simp only [a.alive, a.unlocked]
  cases f s <;> rfl

@[simp] theorem hostDo_ok (h : Nat) (s t : State) : hostDo h s (.ok t) = t.emit (.status h 0) := rfl
@[simp] theorem hostDo_error (h : Nat) (s : State) (e : Status) : hostDo h s (.error e) = s.emit (.status h e.code) := rfl

/-- A write of an object that makes no journal record: the chapter's rule and its status. -/
theorem hostWrite_volatile {s : State} {h col el v : Nat} (a : s.Accepts h col el v) (hj : journals col = false)
    (f : State → Except Status State) : hostWrite h col el v f s = hostDo h s (f s) := by
  unfold hostWrite hostWriteOp
  have h8 : ¬ 8 ≤ h := Nat.not_le.mpr a.slot
  simp [h8, a.unheld, hj, State.tryWrite_accepts a]

/-- The same of a write with bytes beside its value. -/
theorem hostWriteOp_volatile {s : State} {h : Nat} {w : WriteOp} (a : s.Accepts h w.col w.el w.val)
    (hj : journals w.col = false) (f : State → Except Status State) : hostWriteOp h w f s = hostDo h s (f s) := by
  unfold hostWriteOp
  have h8 : ¬ 8 ≤ h := Nat.not_le.mpr a.slot
  simp [h8, a.unheld, hj, State.tryWrite_accepts a]

/-- A command of one volatile write: its next state. -/
theorem live_hostWrite_ok {s t : State} {h col el v : Nat} {f : State → Except Status State} (a : s.Accepts h col el v)
    (hj : journals col = false) (hf : f s = .ok t) : live (hostWrite h col el v f) s = .next (t.emit (.status h 0)) := by
  rw [live_running a.running, hostWrite_volatile a hj, hf, hostDo_ok]

theorem live_hostWrite_error {s : State} {e : Status} {h col el v : Nat} {f : State → Except Status State}
    (a : s.Accepts h col el v) (hj : journals col = false) (hf : f s = .error e) :
    live (hostWrite h col el v f) s = .next (s.emit (.status h e.code)) := by
  rw [live_running a.running, hostWrite_volatile a hj, hf, hostDo_error]

theorem live_hostWriteOp_ok {s t : State} {h : Nat} {w : WriteOp} {f : State → Except Status State}
    (a : s.Accepts h w.col w.el w.val) (hj : journals w.col = false) (hf : f s = .ok t) :
    live (hostWriteOp h w f) s = .next (t.emit (.status h 0)) := by
  rw [live_running a.running, hostWriteOp_volatile a hj, hf, hostDo_ok]

/-! A persistent object's write takes MRAM words first. -/

@[simp] theorem State.mramTake_od (s : State) : s.mramTake.1.od = s.od := rfl
@[simp] theorem State.mramTake_ctl (s : State) : s.mramTake.1.ctl = s.ctl := rfl
@[simp] theorem State.mramTake_phys (s : State) : s.mramTake.1.phys = s.phys := rfl
@[simp] theorem State.mramTake_clk (s : State) : s.mramTake.1.clk = s.clk := rfl
@[simp] theorem State.mramTake_out (s : State) : s.mramTake.1.out = s.out := rfl
@[simp] theorem State.rd_mramTake (s : State) (col el : Nat) : s.mramTake.1.rd col el = s.rd col el := rfl

/-- What an accepted write needs is the same once its words are counted. -/
theorem State.Accepts.mramTake {s : State} {h col el v : Nat} (a : s.Accepts h col el v) :
    s.mramTake.1.Accepts h col el v :=
  ⟨a.slot, a.running, a.passes, a.alive, a.unlocked, a.unheld⟩

/-- A write that makes a journal record, with room for it. -/
theorem live_hostWriteOp_journal {s t u : State} {h : Nat} {w : WriteOp} {f : State → Except Status State}
    (a : s.Accepts h w.col w.el w.val) (hj : journals w.col = true) (m : s.MramRoom) (hs : f s = .ok u)
    (hf : f s.mramTake.1 = .ok t) : live (hostWriteOp h w f) s = .next (t.emit (.status h 0)) := by
  rw [live_running a.running]
  unfold hostWriteOp
  have h8 : ¬ 8 ≤ h := Nat.not_le.mpr a.slot
  simp [h8, a.unheld, hj, State.tryWrite_accepts a, hs, m.room, m.unheld, State.tryWrite_accepts a.mramTake, hf]

theorem live_hostWrite_journal {s t u : State} {h col el v : Nat} {f : State → Except Status State}
    (a : s.Accepts h col el v) (hj : journals col = true) (m : s.MramRoom) (hs : f s = .ok u)
    (hf : f s.mramTake.1 = .ok t) : live (hostWrite h col el v f) s = .next (t.emit (.status h 0)) :=
  live_hostWriteOp_journal (w := { col := col, el := el, val := v }) a hj m hs hf

end Sys2Proof.Machine
end

