-- ==== Sys2Proof/Laws/Memory.lean ====
section
/-! SUPPORT. The laws of the addressed memory (R353, R373): what a byte reads after a store, and that every operation that
stores bytes keeps the canonical form, which the reset state has. -/

namespace Sys2Proof.Machine

/-- A byte below what a store wrote, or above it, reads as before. -/
theorem get_poke_outside (t : Tbl Byte) (a i : Nat) (bs : Bytes) (h : i < a ∨ a + bs.length ≤ i) :
    Tbl.get 0 (poke t a bs) i = Tbl.get 0 t i := by
  induction bs generalizing t a with
  | nil => rfl
  | cons b bs ih =>
    simp only [List.length_cons] at h
    rw [poke, ih _ (a + 1) (by omega), Tbl.get_set_ne 0 0 t a i b (by omega)]

/-- Byte k of what a store wrote reads so. -/
theorem get_poke_inside (t : Tbl Byte) (a k : Nat) (bs : Bytes) (h : k < bs.length) :
    Tbl.get 0 (poke t a bs) (a + k) = bs[k] := by
  induction bs generalizing t a k with
  | nil => exact absurd h (Nat.not_lt_zero _)
  | cons b bs ih =>
    cases k with
    | zero =>
      show Tbl.get 0 (poke (Tbl.set 0 t a b) (a + 1) bs) a = b
      rw [get_poke_outside _ _ _ _ (.inl (by omega)), Tbl.get_set_self]
    | succ k =>
      have e : a + (k + 1) = a + 1 + k := by omega
      rw [poke, e, ih _ (a + 1) k (by simpa using h)]; rfl

/-- A store in two pieces, one after the other, is the store of the whole. -/
theorem poke_append (t : Tbl Byte) (a : Nat) (bs cs : Bytes) : poke t a (bs ++ cs) = poke (poke t a bs) (a + bs.length) cs := by
  induction bs generalizing t a with
  | nil => rfl
  | cons b bs ih =>
    have e : a + (b :: bs).length = a + 1 + bs.length := by simp only [List.length_cons]; omega
    rw [List.cons_append, poke, ih, poke, e]

/-- A store keeps the canonical form. -/
theorem wf_poke (t : Tbl Byte) (a : Nat) (bs : Bytes) (h : Tbl.wf 0 t = true) : Tbl.wf 0 (poke t a bs) = true := by
  induction bs generalizing t a with
  | nil => exact h
  | cons b bs ih => exact ih _ _ (Tbl.wf_set 0 t a b h)

theorem Memory.wf_iff (m : MemX) : Memory.wf m = true ↔ Tbl.wf 0 m.hbm = true ∧ Tbl.wf 0 m.shm = true := by
  simp only [Memory.wf, Bool.and_eq_true]

/-- Bytes stored in HBM. -/
theorem wf_hbmPut (s : State) (a : Nat) (bs : Bytes) (h : Memory.wf s.mem = true) : Memory.wf (s.hbmPut a bs).mem = true :=
  (Memory.wf_iff _).mpr ⟨wf_poke _ _ _ ((Memory.wf_iff _).mp h).1, ((Memory.wf_iff _).mp h).2⟩

/-- Bytes stored in shared memory. -/
theorem wf_shmPut (s : State) (c a : Nat) (bs : Bytes) (h : Memory.wf s.mem = true) : Memory.wf (s.shmPut c a bs).mem = true :=
  (Memory.wf_iff _).mpr ⟨((Memory.wf_iff _).mp h).1, wf_poke _ _ _ ((Memory.wf_iff _).mp h).2⟩

/-- Clearing elements leaves memory alone. -/
theorem clearAll_mem (i : Nat) (l : List Nat) (s : State) :
    (l.foldl (fun (s : State) e => s.clearEl i e) s).mem = s.mem := by
  induction l generalizing s with
  | nil => rfl
  | cons e l ih => exact (ih _).trans (State.clearEl_mem _ _ _)

/-- The wipe. -/
theorem wf_wipeHbm (s : State) (ms : Nat) (h : Memory.wf s.mem = true) : Memory.wf (s.wipeHbm ms).mem = true := by
  have e : (s.wipeHbm ms).mem.shm = s.mem.shm := by
    unfold State.wipeHbm
    simp only [clearAll_mem]
  have b : (s.wipeHbm ms).mem.hbm = [] := by unfold State.wipeHbm; dsimp only
  exact (Memory.wf_iff _).mpr ⟨by rw [b]; rfl, by rw [e]; exact ((Memory.wf_iff _).mp h).2⟩

/-- The reset state's memory lists nothing. -/
theorem wf_reset : Memory.wf State.reset.mem = true := rfl

end Sys2Proof.Machine
end

