-- ==== Sys2Proof/Laws/Power.lean ====
section
/-! SUPPORT. What the end of self-refresh changes, and what an event adds to the queues of records. -/

namespace Sys2Proof.Machine

/-- The HBM part taking a state changes the objects and the parts alone. -/
theorem State.setPart_mem (s : State) (v : Nat) :
    s.setPart memPart v = { s with od := (s.setPart memPart v).od, pwr := (s.setPart memPart v).pwr } := by
  unfold State.setPart State.showPower
  simp [memPart, State.wr]

/-- An access in IDLE changes the objects, the memories' own state and the parts alone. -/
theorem State.idleAccess_rest (s : State) :
    s.idleAccess = { s with od := s.idleAccess.od, mem := s.idleAccess.mem, pwr := s.idleAccess.pwr } := by
  unfold State.idleAccess
  split
  · rfl
  · dsimp only
    unfold State.leaveSelfRefresh
    split
    · rfl
    · rw [State.setPart_mem]

/-- From s to t records have only joined the queue of slot h, behind those in it; its delivery count and what the block emitted
stand. (What an event does to the objects is State.rd_raise.) -/
structure Queued (h : Nat) (s t : State) : Prop where
  waiting : ∃ told, Tbl.get [] t.ev.waiting h = Tbl.get [] s.ev.waiting h ++ told
  hseq : t.ev.hseq = s.ev.hseq
  out : t.out = s.out

theorem Queued.refl (h : Nat) (s : State) : Queued h s s := ⟨⟨[], by simp⟩, rfl, rfl⟩

theorem Queued.trans {h : Nat} {s t u : State} (a : Queued h s t) (b : Queued h t u) : Queued h s u := by
  obtain ⟨x, hx⟩ := a.waiting
  obtain ⟨y, hy⟩ := b.waiting
  exact ⟨⟨x ++ y, by rw [hy, hx, List.append_assoc]⟩, b.hseq.trans a.hseq, b.out.trans a.out⟩

theorem Queued.queueRec (h : Nat) (s : State) (r : EvRec) : Queued h s (s.queueRec r) := by
  have key (ks : List Nat) (w : Tbl (List (EvRec × Nat))) :
      ∃ told, Tbl.get [] (ks.foldl (fun w k => if s.toldTo r k then Tbl.upd [] w k (fun q => q ++ [(r, s.phys)]) else w) w) h =
        Tbl.get [] w h ++ told := by
    induction ks generalizing w with
    | nil => exact ⟨[], by simp⟩
    | cons k ks ih =>
      obtain ⟨x, hx⟩ := ih (if s.toldTo r k then Tbl.upd [] w k (fun q => q ++ [(r, s.phys)]) else w)
      simp only [List.foldl_cons, hx]
      split
      · by_cases hk : h = k
        · subst hk; exact ⟨[(r, s.phys)] ++ x, by simp [Tbl.get_upd]⟩
        · exact ⟨x, by simp [Tbl.get_upd, hk]⟩
      · exact ⟨x, rfl⟩
  obtain ⟨x, hx⟩ := key (List.range 8) s.ev.waiting
  exact ⟨⟨x, hx⟩, rfl, rfl⟩

/-- An event adds its record to the queues of the slots that it is told to. -/
theorem Queued.raise (h : Nat) (s : State) (code unit hosts args : Nat) : Queued h s (s.raise code unit hosts args) := by
  have count (s : State) (r : EvRec) : Queued h s (s.countRec r) := by
    unfold State.countRec
    dsimp only
    split <;> split <;> (try split) <;> exact ⟨⟨[], by simp [State.bump, State.wr]⟩, rfl, rfl⟩
  have log (s : State) (r : EvRec) : Queued h s (s.logRec r) := by
    unfold State.logRec
    split
    · exact ⟨⟨[], by simp⟩, rfl, rfl⟩
    · exact ⟨⟨[], by simp [State.bump, State.wr]⟩, rfl, rfl⟩
  have rate (s : State) (r : EvRec) : Queued h s (s.logByRate r) := by
    unfold State.logByRate
    split
    · exact log s r
    · split
      · exact Queued.trans (t := { s with ev := { s.ev with logAt := (s.phys :: s.ev.logAt).take 10 } }) ⟨⟨[], by simp⟩, rfl, rfl⟩ (log _ r)
      · exact .refl _ _
  have ring (s : State) (r : EvRec) : Queued h s (s.ringRec r) := by
    unfold State.ringRec
    split
    · exact .refl _ _
    · exact ⟨⟨[], by simp [EvX.toRing]⟩, rfl, rfl⟩
  have next : Queued h s s.nextSeq := ⟨⟨[], by simp [State.nextSeq]⟩, rfl, rfl⟩
  exact (((next.trans (ring _ _)).trans (rate _ _)).trans (count _ _)).trans (.queueRec h _ _)

end Sys2Proof.Machine
end

