-- ==== Sys2Proof/Laws/Requests.lean ====
section
/-! SUPPORT. What an access to HBM does at its ports (R356, R357, R376 to R379): beside the pseudo-channels' own state and four
counts, it changes nothing. -/

namespace Sys2Proof.Machine

variable {s t u : State}

/-- The objects in which a request at a port shows. -/
def requestCols : List Nat := [APort.OUTSTANDING, APort.GRANTS, APort.PARKED, Pc.IN_ORDER]

/-- t differs from s in the pseudo-channels and in the counts of requests alone. -/
structure PortsOnly (s t : State) : Prop where
  rest : t = { s with od := t.od, mem := { s.mem with pcs := t.mem.pcs } }
  objects : ∀ c, c ∉ requestCols → ∀ e, t.rd c e = s.rd c e

theorem PortsOnly.refl (s : State) : PortsOnly s s := ⟨rfl, fun _ _ _ => rfl⟩

theorem PortsOnly.trans (a : PortsOnly s t) (b : PortsOnly t u) : PortsOnly s u :=
  ⟨by rw [b.rest, a.rest], fun c h e => (b.objects c h e).trans (a.objects c h e)⟩

theorem PortsOnly.pcUpd (a : PortsOnly s t) (i : Nat) (f : PcX → PcX) : PortsOnly s (t.pcUpd i f) :=
  a.trans ⟨rfl, fun _ _ _ => rfl⟩

theorem PortsOnly.bump (a : PortsOnly s t) {c e n : Nat} (h : c ∈ requestCols) : PortsOnly s (t.bump c e n) :=
  a.trans ⟨rfl, fun _ k _ => State.rd_bump_ne _ _ _ _ _ _ (.inl (fun x => k (x ▸ h)))⟩

theorem enqueue_portsOnly (s : State) (i : Nat) (r : CtlReq) : PortsOnly s (s.enqueue i r) := by
  unfold State.enqueue
  dsimp only
  split
  · exact (((PortsOnly.refl s).pcUpd _ _).bump (by simp [requestCols])).bump (by simp [requestCols])
  · exact ((PortsOnly.refl s).pcUpd _ _).bump (by simp [requestCols])

theorem grant_portsOnly (s : State) (i : Nat) (q : ParkX) : PortsOnly s (s.grant i q) :=
  (((PortsOnly.refl s).pcUpd i _).bump (by simp [requestCols])).trans (enqueue_portsOnly _ _ _)

/-- A request is granted, parked or held at its requester. -/
theorem request_portsOnly (s : State) (req : Nat) (write : Bool) (p : Place) (m : Option Nat) :
    PortsOnly s (s.request req write p m) := by
  unfold State.request
  dsimp only
  split
  · exact grant_portsOnly _ _ _
  · split
    · exact (PortsOnly.refl s).pcUpd _ _
    · exact ((PortsOnly.refl s).pcUpd _ _).bump (by simp [requestCols])

/-- The requests of an access, one per granule. -/
theorem touch_portsOnly (s : State) (req a n : Nat) (write : Bool) (m : Option Nat) : PortsOnly s (s.touch req a n write m) := by
  unfold State.touch
  induction granules a n generalizing s with
  | nil => exact .refl s
  | cons g l ih => exact (request_portsOnly s req write _ m).trans (ih _)

/-- An access leaves the bytes of HBM and shared memory, the poisoned words and the repairs waiting as they were. -/
theorem PortsOnly.mem (a : PortsOnly s t) :
    t.mem.hbm = s.mem.hbm ∧ t.mem.shm = s.mem.shm ∧ t.mem.poison = s.mem.poison ∧ t.mem.repair = s.mem.repair := by
  rw [a.rest]; exact ⟨rfl, rfl, rfl, rfl⟩

/-- It raises no event and emits nothing. -/
theorem PortsOnly.quiet (a : PortsOnly s t) : t.ev = s.ev ∧ t.out = s.out ∧ t.phys = s.phys ∧ t.pending = s.pending := by
  rw [a.rest]; exact ⟨rfl, rfl, rfl, rfl⟩

end Sys2Proof.Machine
end

