-- ==== Sys2Proof/Machine/Response.lean ====
section
/-! DEFINITION. The frequency response that Table 9.5 asks of a bridge's taps (R213), as real numbers: no step reads it. -/

namespace Sys2Proof.Machine

/-- The passband and stopband edges in Hz of the bridge between two domains (Table 9.5). -/
def bridgeBand (a b : Nat) : Nat × Nat := if min a b = 1 then (7000, 8000) else (3500, 4000)

/-- The zero-phase amplitude response of the bridge from domain a to b at a frequency in Hz, 1 at unity gain. Upwards the taps
also make up for the zeros between the input samples. -/
noncomputable def bridgeResponse (a b : Nat) (f : ℝ) : ℝ :=
  let d := (bridgeOf a b).1
  let tap (j : Nat) : ℝ := (toInt 24 (Config.bridgeTap a b (min j (2 * d - j))).toNat : ℝ) / 2 ^ 23
  (∑ j ∈ Finset.range (2 * d + 1), tap j * Real.cos (2 * Real.pi * f * ((j : ℝ) - d) / (bridgeOf a b).2.1)) *
    (if a < b then (domBlock a : ℝ) / domBlock b else 1)

/-- What R213 asks of the taps that an implementation fixes: at most 0.05 dB of ripple in the passband and at least 80 dB of
attenuation from the stopband edge up to half the higher rate. A premise for a statement that needs a bridge's response. -/
def BridgesMeetTable95 : Prop :=
  ∀ a b : Nat, a ≤ 2 → b ≤ 2 → a ≠ b →
    (∀ f : ℝ, 0 ≤ f → f ≤ (bridgeBand a b).1 →
      (10 : ℝ) ^ (-(0.05 : ℝ) / 20) ≤ bridgeResponse a b f ∧ bridgeResponse a b f ≤ (10 : ℝ) ^ ((0.05 : ℝ) / 20)) ∧
    (∀ f : ℝ, (bridgeBand a b).2 ≤ f → 2 * f ≤ (bridgeOf a b).2.1 → |bridgeResponse a b f| ≤ (10 : ℝ) ^ (-(80 : ℝ) / 20))

end Sys2Proof.Machine
end

