-- ==== Sys2Proof/Tests/Arith.lean ====
section
/-! SUPPORT. Arithmetic held against values from outside the model: key derivation (RFC 3711, B.3), the packings of Table 10.3,
and two values worked out by hand. -/

namespace Sys2Proof.Tests

set_option Elab.async false

open Sys2Proof.Machine

/-- Master key and salt of RFC 3711, B.3. -/
def rfcKey : Bytes := natBE 16 0xE1F97A0D3E018BE0D64FA32C06DE4139
def rfcSalt : Bytes := natBE 14 0x0EC675AD498AFEEBB6960B3AABE6

theorem test_kdf_key : srtpKdf rfcKey rfcSalt 0 16 = natBE 16 0xC61E7A93744F39EE10734AFE3FF7A087 := by decide +kernel

theorem test_kdf_salt : srtpKdf rfcKey rfcSalt 2 14 = natBE 14 0x30CBBC08863D8C85D49DB34A9AE1 := by decide +kernel

/-- 10^(-1/20) of 2^23 is 7,476,354.7. -/
theorem test_limit_db : dbLimit (-100) = 7476354 := by decide +kernel

/-- BT.709 red at 10 bits, by the limited-range equations. -/
theorem test_ycc_red : ycc 0 10 (4095, 0, 0) = (250, 409, 960) := by decide +kernel

/-- The rows of Table 10.3. -/
theorem test_pack : (pack 0 (toInt 24 0x812345), pack 1 (toInt 24 0x812345), pack 2 (toInt 24 0x812345)) =
  ([0x45, 0x23, 0x81], [0x00, 0x45, 0x23, 0x81], [0x45, 0x23, 0x81, 0xFF]) := by decide +kernel

end Sys2Proof.Tests
end

