-- ==== Sys2Proof/Tests/Base.lean ====
section
/-! SUPPORT. What the tests share: states built by writing objects onto the reset state, and decidable forms of the claims'
hypotheses. -/

namespace Sys2Proof.Tests

open Sys2Proof.Machine

/-- A state with objects (column, element, value) written. -/
def put (l : List (Nat × Nat × Nat)) (s : State) : State := l.foldl (fun s x => s.wr x.1 x.2.1 x.2.2) s

/-- The block in ACTIVE with its stacks out of self-refresh. -/
def awake : State := put [(Pwr.PSTATE, 0, 0)] { State.reset with mem := { State.reset.mem with selfRefresh := false } }

/-- A field of the outcome of a command. -/
def after (o : Out) (f : State → Bool) : Bool := match o with | .next t => f t | _ => false

/-- What Accepts asks, as one Bool. -/
def accepts (s : State) (h col el v : Nat) : Bool :=
  decide (h < 8) && s.running && (match s.checkWrite h col el v with | .ok _ => true | .error _ => false) && !s.lcBars col &&
    !s.lockedByTxn h col el && !s.lockedByHeld h col el

theorem accepts_of {s : State} {h col el v : Nat} (a : accepts s h col el v = true) : s.Accepts h col el v := by
  simp only [accepts, Bool.and_eq_true, decide_eq_true_eq, Bool.not_eq_true'] at a
  obtain ⟨⟨⟨⟨⟨a1, a2⟩, a3⟩, a4⟩, a5⟩, a6⟩ := a
  refine ⟨a1, a2, ?_, a4, a5, a6⟩
  split at a3
  · next u hu => exact hu
  · simp at a3

theorem of_accepts {s : State} {h col el v : Nat} (a : s.Accepts h col el v) : accepts s h col el v = true := by
  simp [accepts, a.slot, a.running, a.passes, a.alive, a.unlocked, a.unheld]

/-- An OPEN session of slot 0 on MG0, its SESSION_REKEY_WARN raised. -/
def session : SessX :=
  { port := 0
    addr := 5
    udp := 4000
    devUdp := 34000
    hnonce := 1
    dnonce := 2
    rxKey := List.replicate 32 1
    txKey := List.replicate 32 2
    tx := 1
    rx := some 0
    fails := 0
    atC := 0
    warnedTx := true
    warnedRx := true
    replies := [] }

/-- A result compared as data. -/
theorem ok_of {ε α : Type} [DecidableEq α] {e : Except ε α} {r : α}
    (h : (match e with | .ok x => decide (x = r) | .error _ => false) = true) : e = .ok r := by
  split at h
  · next x => rw [of_decide_eq_true h]
  · simp at h

theorem err_of {ε α : Type} [DecidableEq ε] {e : Except ε α} {r : ε}
    (h : (match e with | .error x => decide (x = r) | .ok _ => false) = true) : e = .error r := by
  split at h
  · next x => rw [of_decide_eq_true h]
  · simp at h

/-- MRAM has room where it has taken no record yet. -/
theorem room_of {s : State} (h : s.ctl.mramHold = false ∧ s.pwr.words = []) : s.MramRoom := by
  refine ⟨h.1, ?_⟩
  have hd : ∀ w, (s.draw w).2.pwr.words = [] := fun _ => h.2
  have hl : (s.draw 16).1 < 65536 := BitVec.isLt _
  simp only [State.mramTake, hd, List.filter_nil, List.map_nil, List.foldl_nil, decide_eq_false_iff_not]
  omega

/-- A state in which slot 0 has that session. -/
def withSession (s : State) : State := s.sessUpd 0 (fun x => { x with open_ := some session })

/-- A state in which ring r of slot 0 is enabled and empty. -/
def ringed (r : Nat) (s : State) : State := s.ringUpd 0 r (fun x => { x with base := 4096, enable := true, size := 65536 })

/-- A datagram to the link-local address of MG0. -/
def dgram (b : Bytes) : Datagram :=
  { mg := 0, src := 5, sport := 4000, dst := linkLocal (awake.rd Mg.MAC 0), dport := 34000, vlan := 0xFFFF, bytes := b }

/-- Slot 0 may open a session: MG0 enabled and allowed, and a session KEK loaded. -/
def mayHello : State := put [(Mg.ENABLE, 0, 1), (Slot.MG_ALLOWED, 0, 1), (SKek.SESSION_KEK, 0, 2), (Kek.STATE, 2, 1)] awake
def helloBytes : Bytes := xHead true 1 0 false 16 0 ++ List.replicate 8 0xA5 ++ List.replicate 8 0

/-- The CLOSE that the host of that session sends. -/
def closeHead : Bytes := xHead true 6 0 true 4 1
def closeBytes : Bytes :=
  let r := gcmSeal session.rxKey (xNonce 0 0 1) closeHead [1, 0, 0, 0]
  closeHead ++ r.1 ++ r.2

/-- No Rosette store entry is in use, so the SAFETY slot may write a byte of the store. -/
theorem unused_awake : ∀ e < 64, awake.entryUsed e = false := by decide +kernel
theorem mayWrite_awake : awake.mayWrite (1 : Fin 8) storeBase ([0x55] : Bytes).length = true := by
  have h : ∀ o, awake.entryUsed (Config.storeEntry o).toNat = false := fun o => unused_awake _ (BitVec.isLt _)
  have h1 : entriesAt storeBase 1 = [(Config.storeEntry (storeBase - storeBase + 0)).toNat] := rfl
  have h2 : (entriesAt storeBase 1).all (fun e => !awake.entryUsed e) = true := by
    rw [h1]; simp only [List.all_cons, List.all_nil, h, Bool.not_false, Bool.and_true]
  have h3 : ((1 : Fin 8).val == 1 && decide (storeBase + 1 ≤ awake.capBytes) && inside storeBase 1 storeRange) = true := by
    decide +kernel
  show (_ && (entriesAt storeBase 1).all _) = true
  rw [h2, Bool.and_true]
  exact h3

/-- An IPv4 address as OCTETS(16). -/
def v4 (n : Nat) : Nat := 0xFFFF * 2 ^ 80 + n * 2 ^ 96

/-- Keys of suite 1, and an SRTP packet under them on port 0: number 1,000 of SSRC 99, 150 bytes of payload. -/
def keys1 : KeySet :=
  let k : SrtpKeys := { enc := List.replicate 16 1, auth := List.replicate 20 2, salt := List.replicate 14 3 }
  { suite := 1, rtp := k, rtcp := k, srtcpEnc := true }
def rtp1 : RtpPkt :=
  { bytes := srtpSeal keys1 99 1000 [0x80, 0x60, 0x03, 0xE8, 0, 0, 0, 0, 0, 0, 0, 99] (List.replicate 150 0)
    dd := none, nal := { tid := 0, irap := false, tsa := false }, width := 0, height := 0, cn := false, voice := false }
def udp1 : UdpPayload := { b0 := 128, b1 := 96, rtp := some rtp1, rtcp := none }
def srtp1 : Frame :=
  { port := 0, length := 218, aborted := false, pause := false, fcsOk := true, storeParity := false,
    cacheFault := false, toLocal := false, etype := 0x0800, vids := [],
    l3 := .udp false (v4 5) (v4 6) 100 200 0 200 udp1, raw := [] }

/-- A context that holds those keys. -/
def keyed (c : Nat) (s : State) : State := s.ctxSet c { (s.ctxX c) with keys := some keys1 }

/-- Port 0 up, ACTIVE leg 7 on it with keys, and its audio source 30. -/
def listening : State :=
  keyed 14 <| keyed 15 <| put [(Lp.ENABLE, 0, 1), (Lp.LINK, 0, 1), (Leg.STATE, 7, 2), (Leg.VLAN, 7, 0xFFFF), (Leg.LOCAL_IP, 7, v4 6), (Leg.LOCAL_UDP, 7, 200),
    (Leg.REMOTE_IP, 7, v4 5), (Leg.REMOTE_UDP, 7, 100), (Ctx.STATE, 14, 1), (Ctx.SUITE, 14, 1), (Ctx.GEN, 14, 1),
    (Ctx.STATE, 15, 1), (Ctx.SUITE, 15, 1), (Ctx.GEN, 15, 1), (Src.STATE, 30, 1), (Src.LEG, 30, 7), (Src.SSRC, 30, 99)] awake

/-- The stream of SSRC 99 known, and its packet in flight. -/
def streamed : State := listening.ctxSet (rxCtx 7) { (listening.ctxX (rxCtx 7)) with streams := [{ ssrc := 99 }] }
def inx1 : InX :=
  { frame := srtp1, arrived := 0, leg := 7, src := 30, kind := 0, index := 1000, colour := 0, gen := 1,
    epoch := (listening.ctxX (rxCtx 7)).epoch, keys := some keys1, kept := [] }

/-- Leg 7's send context knows its MIX_SSRC 55. -/
def talking : State :=
  (put [(LegMix.MIX_SSRC, 7, 55)] listening).ctxSet (txCtx 7) { (listening.ctxX (txCtx 7)) with streams := [{ ssrc := 55 }] }

/-- An audio copy on leg 7. -/
def copy1 : CopyX := { leg := 7, cls := 0, ipLen := 200, charged := 200, ssrc := 55, pt := 96, seq := 5, body := .media 0 }

/-- A punted frame. -/
def punt1 : PuntX := { reason := 3, port := 0, vid := 0xFFFF, v6 := false, leg := 0xFFFFFFFF, time := 0, raw := [1, 2, 3] }

/-- An event record. -/
def rec1 : EvRec := { time := 0, code := Ev.HBM_TRAINED, unit := 0, hosts := 1, severity := 0, seq := 1, args := 64 }

/-- A write of EV_MIN_SEV of slot 0, as a pending deferred transaction, and as a request that waits. -/
def write1 : WriteOp := { col := Slot.EV_MIN_SEV, el := 0, val := 1 }
def txn1 : PTxn := { slot := 0, reqId := 7, commit := 3, output := 0, due := 0, writes := [write1] }
def req1 : ReqX := { slot := 0, route := .row, txn := true, ops := [writeOp write1] }
def opEv : OpX := { reads := false, ty := 2, len := 1, w := write1 }

/-- REQUEST frames on the REQ ring of slot 0: a keep-alive, and one write. -/
def reqBody (ops : Nat) : Bytes := natLE 4 9 ++ [0, 0, 0, 0] ++ List.replicate 10 0 ++ natLE 2 ops ++ [0, 0, 0, 0]
def opBytes : Bytes := [0x02, 0x02, 0x01, 0x00, 0x20, 0x11, 0, 0, 0, 0x0E, 0, 0, 1, 0, 0, 0]
def frame1 (b : Bytes) : Bytes := xHead false 3 0 false b.length 0 ++ b
def pcieState (b : Bytes) : State :=
  (ringed 1 (ringed 0 awake)).hostUpd 0 (fun x => { x with unread := padTo (roundUp 64 b.length) b })
def keepAlive : State := pcieState (frame1 (reqBody 0))
def oneWrite : State := pcieState (frame1 (reqBody 1 ++ opBytes))

/-- A one-step Sync. -/
def sync1 : PtpMsg :=
  { port := 0
    transport := .ether
    vlan := 0xFFFF
    srcAddr := 0
    kind := .sync
    domain := 0
    source := 0
    seqId := 1
    twoStep := false
    logInterval := 0
    correction := 0
    stamp := 0
    toUs := true
    utcOffset := 37
    utcValid := true
    leap61 := false
    leap59 := false
    priority1 := 0
    clockClass := 6
    accuracy := 0
    variance := 0
    priority2 := 0
    grandmaster := 0
    stepsRemoved := 0
    grantOf := .sync
    bytes := [] }

/-- Fret port 0 up with its peer; ACTIVE radio leg 7 on it, RADIO_UE 9, bearer 3. -/
def radioed : State :=
  put [(Fret.ENABLE, 0, 1), (Fret.PEER, 0, 1), (Leg.STATE, 7, 2), (Leg.KIND, 7, 1), (Leg.RADIO_UE, 7, 9), (FLeg.BEARER, 7, 3),
    (FLeg.FSTATE, 7, 1)] awake

/-- Messages of a Fret scheduler: a QUERY of one entry for slot 2, a LINK, a SLOT, and a BEARER operation. -/
def queryMsg : Bytes := fretHeader 1 28 5 ++ [0, 0, 0, 2, 0, 77, 1, 0] ++ [0, 0, 0, 9, 3, 0, 0, 0, 0, 0, 0x10, 0]
def linkMsg : Bytes := fretHeader 4 28 5 ++ [0, 0, 0, 2, 0, 1, 0, 0] ++ [0, 0, 0, 9, 3, 0, 0, 0, 0, 0, 0x10, 0]
def slotMsg (mu tai : Nat) : Bytes := fretHeader 6 24 5 ++ [0, 0, 0, 2] ++ natBE 1 mu ++ [0] ++ natBE 10 tai
def bearerMsg (op ue : Nat) : Bytes :=
  fretHeader 7 36 5 ++ [1] ++ List.replicate 7 0 ++ natBE 1 op ++ [0, 0, 0, 0, 0, 0, 9, 3, 0, 0, 0] ++ natBE 4 ue ++ [0, 0, 0, 0]

/-- A queued audio packet of the radio leg. -/
def item1 : RItem := { copy := { copy1 with seq := 0 }, size := 200, dl := 100 }

/-- A key blob for context 14 under KEK 3 of zeros: suite 1, master key and salt of zeros. The wrapping was made by hand from
RFC 5649. -/
def wrapped1 : Bytes :=
  [0x9F, 0xAC, 0xA9, 0x00, 0x27, 0x26, 0x54, 0xB6, 0x62, 0x6E, 0x60, 0x01, 0x2B, 0xA9, 0x54, 0xC2, 0x21, 0xAA, 0xF9,
   0x95, 0x7C, 0xE0, 0xB6, 0x64, 0xC6, 0x10, 0x7D, 0xA5, 0xD3, 0x5A, 0x2B, 0x24, 0x65, 0x10, 0x5F, 0xB2, 0x6D, 0xD4,
   0xA2, 0xF0, 0x56, 0xAE, 0x8E, 0xFF, 0x8A, 0xAB, 0x0E, 0xB4, 0xB4, 0xB1, 0x82, 0x4B, 0x48, 0x92, 0x78, 0x66, 0x3F,
   0xE5, 0x12, 0x65, 0xFD, 0x67, 0xA6, 0x40, 0xDF, 0x1C, 0x93, 0xB4, 0xDE, 0xCD, 0x2F, 0xF0]
def blob1 : Bytes := [1, 3, 0, 72, 0, 0, 0, 0] ++ wrapped1
def keySet1 : KeySet := deriveKeys 1 (List.replicate 16 0) (List.replicate 14 0) false
def installable : State := put [(Kek.STATE, 3, 1), (Kek.USERS, 3, 1), (Kek.LEN, 3, 16), (Leg.STATE, 7, 1)] awake

/-- A route graph of one gain node between an input and an output slot of port 0, both granted to PLATFORM. -/
def graphNode (ty dom p0 p1 : Nat) : Bytes := natBE 1 ty ++ natBE 1 dom ++ natBE 2 p0 ++ natBE 4 p1 ++ natBE 8 0
def graphBytes : Bytes :=
  [1, 0] ++ natBE 2 3 ++ natBE 2 2 ++ natBE 2 0 ++ natBE 8 0 ++ graphNode 2 2 0 0 ++ graphNode 5 2 0 0 ++ graphNode 10 2 0 0 ++
    [0, 0, 1, 0, 0, 0, 0, 0] ++ [1, 0, 2, 0, 0, 0, 0, 0]
def staged (b : Bytes) : State :=
  (put [(Graph.STATE, 5, 2), (SlotOwn.RX_OWNER, 0, 0), (SlotOwn.TX_OWNER, 0, 0)] awake).graphUpd 5 (fun x => { x with blob := b })

/-- A work item of any cluster whose code, at HBM address 64, is one `done` bundle; its descriptor with given dependences. -/
def desc1 (deps : List Nat) : Bytes :=
  [1, 0, 0xFF, BitVec.ofNat 8 deps.length] ++ natLE 4 7 ++ natLE 4 100 ++ natLE 2 6144 ++ natLE 2 6144 ++ natLE 2 6144 ++
    List.replicate 6 0 ++ natLE 4 1 ++ List.replicate 4 0 ++ (deps.map (natLE 4)).flatten ++
    List.replicate (160 - 4 * deps.length) 0
def work1 (phase core : Nat) : ItemX := { ssn := 0, desc := desc1 [], wait := [], phase := phase, core := core }
def working (phase core : Nat) : State :=
  let s := (put [(Sch.NEXT_SSN, 0, 1), (Sch.IN_FLIGHT, 0, 1)] awake).hbmPut 64 [0, 0, 0, 0, 0, 0, 0, 0xF8]
  { s with sch := { s.sch with items := [work1 phase core], given := 1,
                               cores := [(3, { resident := 1, im := [(0, 0xF800000000000000)], regs := { pc := 6144 } })] } }

/-- A video packet with its tag in the packet store; decode session 5 of source 30, on core 2, with a picture in decode. -/
def vtag1 : TagX :=
  { s := 0, t := 0, fn := 1, sof := true, eof := true, refs := [], cumulative := false, previous := false, irap := true, tsa := false,
    switchFor := [0], first := false, sp := false, ia := false }
def vpkt1 : PktX :=
  { src := 30, ssrc := 99, seq := 1, ts := 900, pt := 96, marker := true, csrcs := 0, payLen := 100, exts := [], level := none,
    tag := some vtag1, colour := 0, atNs := 0, cn := false }
def info1 : PicInfo :=
  { rap := true, params := true, headersOk := true, odd := false, profile := 0, level := 40, chroma := 1, refs := [], stores := [0],
    clears := [], recovery := none, order := 0, width := 640, height := 360, luma := 230400, depth := 8, units := [3600], wave := false }
def result1 : PicResult :=
  { conceal := [], primaries := 1, transfer := 1, colours := 1, fullRange := false, mdcv := [], cll := [] }
def pic1 : PicX := { id := 1, desc := List.replicate 64 0 }
def cur1 : CurX :=
  { pic := { ts := 0, layer := 0, pkts := [], info := info1, lower := [], lost := 0, sp := false }, at_ := 0, cores := [2], missing := false,
    taint := false }
def videoed : State :=
  let s := (put [(Dec.STATE, 5, 2), (Dec.CORES, 5, 4), (Dec.SOURCE, 5, 30), (Src.STATE, 30, 1), (Src.MEDIA, 30, 1), (Src.CODEC, 30, 16)]
    awake).decUpd 5 (fun x => { x with buf := [0], cur := some cur1, latest := some pic1, count := 1 })
  { s with clk := secU, fwd := { s.fwd with store := [(0, vpkt1)], nextPkt := 1 } }

/-- An encode session 6 that may open: of decode session 5, for the device-produced source 31; and one that runs. -/
def encodable : State :=
  put [(Enc.OUT_SOURCE, 6, 31), (Src.STATE, 31, 1), (Src.MEDIA, 31, 1), (Src.CODEC, 31, 16), (Src.LEG, 31, 0xFFFFFFFF),
    (Enc.INPUT, 6, 1), (Enc.INPUT_ID, 6, 5), (Dec.STATE, 5, 2), (Enc.WIDTH, 6, 128), (Enc.HEIGHT, 6, 128), (Enc.RATE_N, 6, 30),
    (Enc.RATE_D, 6, 1), (Enc.SPATIAL, 6, 1), (Enc.TEMPORAL, 6, 1), (Enc.RATE_S0, 6, 500), (Enc.SPLICE, 6, 0xFF)] awake
def encoding : State :=
  let s := put [(Enc.STATE, 6, 1), (Enc.CORES, 6, 4)] encodable
  { s with clk := secU, tim := { s.tim with enc := [(6, TickX.start (encodable.encGrid 6) 0)] } }
def lpic1 : LPic :=
  { s := 0, budget := 10000, repay := 0, qp0 := 32, tref := 0, sref := false, start := false, sp := false }
def epic1 : EPic :=
  { n := 1, at_ := 0, t := 0, key := true, splice := false, repeat_ := false, flat := false, qpMin := 10, qpMax := 40, cores := [2],
    layers := [lpic1], alone := true }

/-- Output 4 runs on compositor 2, its first tick due. -/
def composing : State :=
  let s := put [(Outp.STATE, 4, 1), (Outp.HOST, 4, 2), (Outp.SLOTS, 4, 1), (Cmp.OUTPUTS, 2, 16), (Outp.WIDTH, 4, 640), (Outp.HEIGHT, 4, 360),
    (Outp.RATE_N, 4, 30), (Outp.RATE_D, 4, 1)] awake
  { s with clk := secU, tim := { s.tim with frame := [(4, TickX.start (s.outGrid 4) 0)] } }

/-- An override stream of one record: 4 bytes at time 0, a RAP. -/
def ovBytes : Bytes := natBE 4 9000 ++ natBE 4 0 ++ natBE 4 0 ++ natBE 2 4 ++ [3, 0] ++ [1, 2, 3, 4]

/-- DMA descriptors: 300 bytes copied from HBM to host memory, 300 bytes of HBM filled, and no bytes filled. -/
def descOf (op len src dst par : Nat) : Bytes :=
  [1, BitVec.ofNat 8 op, 0, 0] ++ natLE 4 len ++ natLE 8 src ++ natLE 8 dst ++ natLE 8 0 ++ natLE 8 0 ++ natLE 4 par ++ List.replicate 20 0
def copyDesc : Bytes := descOf 0 300 (2 ^ 61 + 65536) (2 ^ 61 + 131072) 0
def fillDesc : Bytes := descOf 7 300 0 (4096 * mib + 200) 0x04030201
def emptyDesc : Bytes := descOf 7 0 0 4096 0

/-- The event ring lies above the first bytes of HBM. -/
theorem meets_low : meets (dAddr 8192).addr 64 eventRange = false := by
  have h : (dAddr 8192).addr = 8192 := by decide +kernel
  have h' : ¬ eventRange.1 < 8192 + 64 := by
    show ¬ (768 * 1048576 + _ < 8256)
    omega
  rw [h, meets, decide_eq_false h', Bool.and_false]

end Sys2Proof.Tests
end

