-- ==== Sys2Proof/Tests/Gcm.lean ====
section
/-! SUPPORT. One frame sealed and opened again under AES-256-GCM, and one key blob unwrapped: decryption undoes encryption on them. -/

namespace Sys2Proof.Tests

set_option Elab.async false

open Sys2Proof Sys2Proof.Machine

theorem test_close_opens : openFrame session.rxKey ⟨6, 0, true, 4, 1⟩ closeBytes = some [1, 0, 0, 0] := by decide +kernel

/-- What the key blob of `blob1` holds. -/
def plain1 : Bytes := [1, 1, 0, 16, 0, 0, 0, 14, 14] ++ List.replicate 55 0

theorem test_blob_unwraps : unwrap64 (installable.kekBytes 3) (slice blob1 8 72) = some plain1 := by decide +kernel

theorem test_blob_keys : blobKeys 14 plain1 = some keySet1 := by
  have h : ∀ f : Bytes → Bytes → KeySet, (f (slice plain1 16 16) (slice plain1 48 14)) = f (List.replicate 16 0) (List.replicate 14 0) := by
    intro f
    have a : slice plain1 16 16 = List.replicate 16 0 := by decide
    have b : slice plain1 48 14 = List.replicate 14 0 := by decide
    rw [a, b]
  exact congrArg some (h fun k s => deriveKeys 1 k s false)

theorem install_ok {s : State} {h c : Nat} {b : Bytes} {k : KeySet}
    (hb : (byteAt b 0 != 1 || 15 < byteAt b 1 || beAt b 2 2 != 72 || !allZero (slice b 4 4)) = false) (hl : b.length = 80)
    (hs : s.rd Leg.STATE (c / 2) = 1) (hk : s.blobUnwrap h c b = some k) : s.installCheck h c b none = .ok k := by
  simp [State.installCheck, lowest, hb, hl, hs, hk]

theorem test_blob_installs : installable.installCheck 0 14 blob1 none = .ok keySet1 := by
  refine install_ok (by decide +kernel) (by decide) (by decide +kernel) ?_
  have hu : installable.kekUsable 0 3 = true := by decide +kernel
  have hc : byteAt blob1 1 = 3 := by decide
  unfold State.blobUnwrap
  simp only [hu, if_true, hc, test_blob_unwraps, Option.bind_some, test_blob_keys]

end Sys2Proof.Tests
end

