-- ==== Sys2Proof/Tests/MeetsA.lean ====
section
/-! SUPPORT. Witnesses, part A: for each statement with hypotheses, a state and operands that meet all of them. -/

namespace Sys2Proof.Tests

set_option linter.unusedVariables false
set_option Elab.async false

open Sys2Proof Sys2Proof.Machine

theorem test_meets_hello : ∃ (s : State) (d : Datagram) (x : XHdr),
    (s.running = true) ∧
    (s.mgTakes d = true) ∧
    (d.dport = s.rd Xar.UDP_PORT 0) ∧
    (xHeader true d.bytes = some x) ∧
    (x.kind = 1) ∧
    (x.prot = false) ∧
    (x.len = 16) ∧
    (x.counter = 0) ∧
    (allZero (slice d.bytes 24 8) = true) ∧
    (bitOf (s.rd Slot.MG_ALLOWED x.slot) d.mg.val = true) ∧
    ((s.rd Slot.PEER x.slot = 0 ∨ s.rd Slot.PEER x.slot = d.src)) ∧
    (s.rd SKek.SESSION_KEK x.slot ≠ 0xFF) ∧
    (s.rd Kek.STATE (s.rd SKek.SESSION_KEK x.slot) = 1) :=
  ⟨(mayHello : State), ({ dgram helloBytes with dport := mayHello.rd Xar.UDP_PORT 0 } : Datagram), (⟨1, 0, false, 16, 0⟩ : XHdr),
   (by decide +kernel), (by decide +kernel), (by decide +kernel), (by decide +kernel), (by decide +kernel), (by decide +kernel), (by decide +kernel), (by decide +kernel), (by decide +kernel), (by decide +kernel), (by decide +kernel), (by decide +kernel), (by decide +kernel)⟩

theorem test_meets_hostCloseFrame : ∃ (s : State) (d : Datagram) (x : XHdr) (q : SessX) (b : Bytes),
    (s.running = true) ∧
    (s.mgTakes d = true) ∧
    (xHeader true d.bytes = some x) ∧
    (x.kind = 6) ∧
    (x.prot = true) ∧
    (x.len ≤ 16384) ∧
    ((s.hostX x.slot).open_ = some q) ∧
    (q.fits d = true) ∧
    (openFrame q.rxKey x d.bytes = some b) ∧
    (q.rx.getD 0 < x.counter) ∧
    (x.counter < indexLast false) ∧
    (b.length = 4 ∧ byteAt b 0 = 1 ∧ allZero (b.drop 1) = true) :=
  ⟨(put [(Mg.ENABLE, 0, 1)] (withSession awake) : State), (dgram closeBytes : Datagram), (⟨6, 0, true, 4, 1⟩ : XHdr), (session : SessX), ([1, 0, 0, 0] : Bytes),
   (by decide +kernel), (by decide +kernel), (by decide +kernel), (by decide +kernel), (by decide +kernel), (by decide +kernel), (by decide +kernel), (by decide +kernel), test_close_opens, (by decide +kernel), (by decide +kernel), (by decide +kernel)⟩

theorem test_meets_sessionTimeout : ∃ (s : State) (h : Fin 8) (q : SessX),
    (s.running = true) ∧
    ((s.hostX h).open_ = some q) ∧
    (s.rd Xar.SESSION_TIMEOUT 0 * cycMs ≤ s.since q.atC) :=
  ⟨({ withSession awake with phys := 100000 * cycMs } : State), (0 : Fin 8), (session : SessX),
   (by decide +kernel), (by decide +kernel), (by decide +kernel)⟩

theorem test_meets_pendingSessionExpiry : ∃ (s : State) (h : Fin 8) (q : SessX),
    (s.running = true) ∧
    ((s.hostX h).pend = some q) ∧
    (2 * cycS ≤ s.since q.atC) :=
  ⟨({ (awake.sessUpd 0 (fun x => { x with pend := some session })) with phys := 2 * cycS } : State), (0 : Fin 8), (session : SessX),
   (by decide +kernel), (by decide +kernel), (by decide +kernel)⟩

theorem test_meets_sessionCloseObject : ∃ (s : State) (h : Nat) (slot : Nat),
    (s.Accepts h Slot.CLOSE slot 1) ∧
    (s.ctl.after = []) :=
  ⟨(withSession awake : State), (0 : Nat), (0 : Nat),
   (accepts_of (by decide +kernel)), (by decide +kernel)⟩

theorem test_meets_pcieDoorbell : ∃ (s : State) (h : Nat) (tail : Nat) (bytes : Bytes),
    (s.running = true) ∧
    (h < 8) ∧
    ((s.ring h 0).enable = true) ∧
    (tail < (s.ring h 0).size) :=
  ⟨(ringed 0 awake : State), (0 : Nat), (128 : Nat), ([1] : Bytes),
   (by decide +kernel), (by decide +kernel), (by decide +kernel), (by decide +kernel)⟩

theorem test_meets_ringHeadWrite : ∃ (s : State) (h : Nat) (ring : Nat) (head : Nat),
    (s.running = true) ∧
    (h < 8) ∧
    (1 ≤ ring ∧ ring ≤ 3) ∧
    (head < (s.ring h ring).size) :=
  ⟨(ringed 1 awake : State), (0 : Nat), (1 : Nat), (64 : Nat),
   (by decide +kernel), (by decide +kernel), (by decide +kernel), (by decide +kernel)⟩

theorem test_meets_ringCtrlWrite : ∃ (s : State) (h : Nat) (ring : Nat) (base : Nat) (size : Nat) (vector : Nat) (shadow : Nat),
    (s.running = true) ∧
    (h < 8) ∧
    (ring < 4) ∧
    ((s.ring h ring).enable = false) ∧
    (base % 64 = 0 ∧ base < 2 ^ 64 ∧ shadow < 2 ^ 64 ∧ vector ≤ 3) ∧
    (size ∈ (List.range 9).map (fun i => 65536 * 2 ^ i)) :=
  ⟨(awake : State), (0 : Nat), (3 : Nat), (128 : Nat), (131072 : Nat), (3 : Nat), (8 : Nat),
   (by decide +kernel), (by decide +kernel), (by decide +kernel), (by decide +kernel), (by decide +kernel), (by decide +kernel)⟩

theorem test_meets_ringCtrlWriteOff : ∃ (s : State) (h : Nat) (ring : Nat) (base : Nat) (size : Nat) (vector : Nat) (shadow : Nat),
    (s.running = true) ∧
    (h < 8) ∧
    (ring < 4) :=
  ⟨(ringed 1 awake : State), (0 : Nat), (1 : Nat), (128 : Nat), (131072 : Nat), (3 : Nat), (8 : Nat),
   (by decide +kernel), (by decide +kernel), (by decide +kernel)⟩

theorem test_meets_pciePerstN : ∃ (s : State),
    s.running = true :=
  ⟨(awake : State),
   (by decide +kernel)⟩

theorem test_meets_evRecRead : ∃ (s : State) (h : Fin 8) (r : EvRec),
    (s.running = true) ∧
    (s.ev.ring.reverse.find? (fun r => decide ((s.hostX h).evSel ≤ r.seq) && (h.val == 0 || bitOf r.hosts h)) = some r) :=
  ⟨(awake : State), (0 : Fin 8), ({ time := 0, code := Ev.HBM_TRAINED, unit := 0, hosts := 1, severity := 0, seq := 1, args := 64 } : EvRec),
   (by decide +kernel), (by decide +kernel)⟩

theorem test_meets_evRecReadNone : ∃ (s : State) (h : Fin 8),
    (s.running = true) ∧
    (s.ev.ring.all (fun r => decide (r.seq < (s.hostX h).evSel) || (h.val != 0 && !bitOf r.hosts h)) = true) :=
  ⟨({ awake with ev := { awake.ev with ring := [] } } : State), (1 : Fin 8),
   (by decide +kernel), (by decide +kernel)⟩

theorem test_meets_eventDelivery : ∃ (s : State) (h : Fin 8) (l : List (EvRec × Nat)) (q : SessX),
    (s.running = true) ∧
    (Tbl.get [] s.ev.waiting h = l ∧ l ≠ []) ∧
    (s.rd Slot.EV_ROUTE h ≠ 0) ∧
    ((s.hostX h).open_ = some q) ∧
    (((Tbl.get [] s.ev.udpAt h).filter (fun c => decide (s.since c < cycS))).length < 1000) :=
  ⟨(put [(Slot.EV_ROUTE, 0, 1)] (withSession awake) : State), (0 : Fin 8), (Tbl.get [] State.reset.ev.waiting 0 : List (EvRec × Nat)), (session : SessX),
   (by decide +kernel), (by decide +kernel), (by decide +kernel), (by decide +kernel), (by decide +kernel)⟩

theorem test_meets_eventDeliveryLost : ∃ (s : State) (h : Fin 8) (l : List (EvRec × Nat)),
    (s.running = true) ∧
    (Tbl.get [] s.ev.waiting h = l ∧ l ≠ []) ∧
    (s.rd Slot.EV_ROUTE h = 1) ∧
    ((s.hostX h).open_ = none) :=
  ⟨(put [(Slot.EV_ROUTE, 0, 1)] awake : State), (0 : Fin 8), (Tbl.get [] State.reset.ev.waiting 0 : List (EvRec × Nat)),
   (by decide +kernel), (by decide +kernel), (by decide +kernel), (by decide +kernel)⟩

theorem test_meets_eventDeliveryPcie : ∃ (s : State) (h : Fin 8) (r : EvRec) (c : Nat),
    (s.running = true) ∧
    (Tbl.get [] s.ev.waiting h = [(r, c)]) ∧
    (s.rd Slot.EV_ROUTE h = 0) ∧
    ((s.ring h 2).enable = true) ∧
    ((s.ring h 2).tail + 32 ≤ (s.ring h 2).size ∧ 32 ≤ (s.ring h 2).room) :=
  ⟨((ringed 2 { awake with ev := { awake.ev with waiting := [(0, [(rec1, 0)])] } }) : State), (0 : Fin 8), (rec1 : EvRec), (0 : Nat),
   (by decide +kernel), (by decide +kernel), (by decide +kernel), (by decide +kernel), (by decide +kernel)⟩

theorem test_meets_bulkWindowRead : ∃ (s : State) (h : Fin 8) (a : Nat) (n : Nat) (errs : List ReadErr),
    (s.running = true) ∧
    (s.mayRead h a n = true) :=
  ⟨(awake : State), (1 : Fin 8), (storeBase : Nat), (64 : Nat), ([] : List ReadErr),
   (by decide +kernel), (by decide +kernel)⟩

theorem test_meets_bulkWindowWrite : ∃ (s : State) (h : Fin 8) (a : Nat) (b : Bytes),
    (s.running = true) ∧
    (s.mayWrite h a b.length = true) :=
  ⟨(awake : State), (1 : Fin 8), (storeBase : Nat), ([0x55] : Bytes),
   (by decide +kernel), mayWrite_awake⟩

theorem test_meets_requestKeepAlive : ∃ (s : State) (h : Nat) (aux : Aux) (f : XHdr) (r : ReqX),
    (s.running = true) ∧
    (h < 8 ∧ s.ctl.after = []) ∧
    ((s.ring h 0).enable = true ∧ (s.ring h 1).enable = true) ∧
    ((s.hostX h).held = []) ∧
    (xHeader false (s.hostX h).unread = some f) ∧
    (f.kind = 3 ∧ f.slot = h ∧ f.prot = false ∧ f.counter = 0 ∧ 24 ≤ f.len ∧ f.len ≤ 16384) ∧
    (parseBody false (slice (s.hostX h).unread 16 f.len) = .ok r ∧ r.ops = []) ∧
    ((s.ring h 1).tail + 64 ≤ (s.ring h 1).size ∧ 64 ≤ (s.ring h 1).room) :=
  ⟨(keepAlive : State), (0 : Nat), ({} : Aux), (⟨3, 0, false, 24, 0⟩ : XHdr), ({ slot := 0, route := .row, reqId := 9, ops := [] } : ReqX),
   (by decide +kernel), (by decide +kernel), (by decide +kernel), (by decide +kernel), (by decide +kernel), (by decide +kernel), ⟨(ok_of (by decide +kernel)), (by decide +kernel)⟩, (by decide +kernel)⟩

theorem test_meets_requestWrite : ∃ (s : State) (h : Nat) (aux : Aux) (f : XHdr) (r : ReqX) (o : OpX),
    (s.running = true) ∧
    (h < 8 ∧ s.ctl.after = [] ∧ s.ctl.held = []) ∧
    ((s.ring h 0).enable = true ∧ (s.ring h 1).enable = true) ∧
    ((s.hostX h).held = []) ∧
    (xHeader false (s.hostX h).unread = some f) ∧
    (f.kind = 3 ∧ f.slot = h ∧ f.prot = false ∧ f.counter = 0 ∧ 24 ≤ f.len ∧ f.len ≤ 16384) ∧
    (parseBody false (slice (s.hostX h).unread 16 f.len) = .ok r ∧ r.ops = [o] ∧ r.txn = false) ∧
    (o.reads = false ∧ o.pre = 0 ∧ o.ty = 2 ∧ o.len = 1 ∧ o.w.col = Slot.EV_MIN_SEV) ∧
    (s.Accepts h o.w.col o.w.el o.w.val) ∧
    ((s.ring h 1).tail + 64 ≤ (s.ring h 1).size ∧ 64 ≤ (s.ring h 1).room) :=
  ⟨(oneWrite : State), (0 : Nat), ({} : Aux), (⟨3, 0, false, 40, 0⟩ : XHdr), ({ slot := 0, route := .row, reqId := 9, ops := [opEv] } : ReqX), (opEv : OpX),
   (by decide +kernel), (by decide +kernel), (by decide +kernel), (by decide +kernel), (by decide +kernel), (by decide +kernel), ⟨(ok_of (by decide +kernel)), (by decide +kernel), (by decide +kernel)⟩, (by decide +kernel), (accepts_of (by decide +kernel)), (by decide +kernel)⟩

theorem test_meets_objectWrite : ∃ (s : State) (h : Nat) (w : ObjWrite) (aux : Aux),
    (w.index * 256 + w.sub ∈ [Slot.EV_ROUTE, Slot.EV_MIN_SEV, Life.LOG_SEL, Mix.SIL_MS]) ∧
    (s.Accepts h (w.index * 256 + w.sub) w.element w.value) ∧
    (journals (w.index * 256 + w.sub) = false) ∧
    ((w.index * 256 + w.sub = Mix.SIL_MS → s.rd Conf.STATE w.element ≠ 0)) ∧
    (s.ctl.after = []) :=
  ⟨(awake : State), (0 : Nat), ({ index := 0x1120, element := 0, sub := 0x0D, value := 2 } : ObjWrite), ({} : Aux),
   (by decide +kernel), (accepts_of (by decide +kernel)), (by decide +kernel), (by decide +kernel), (by decide +kernel)⟩

theorem test_meets_abort : ∃ (s : State) (h : Nat) (slot : Nat) (reqId : Nat) (x : PTxn),
    (s.Accepts h Slot.ABORT slot reqId) ∧
    (s.ctl.after = []) ∧
    (s.ctl.deferred.find? (fun t => t.slot == slot && t.reqId == reqId) = some x) ∧
    (x.reserved = []) :=
  ⟨({ awake with ctl := { awake.ctl with deferred := [txn1] } } : State), (0 : Nat), (0 : Nat), (7 : Nat), (txn1 : PTxn),
   (accepts_of (by decide +kernel)), (by decide +kernel), (by decide +kernel), (by decide +kernel)⟩

theorem test_meets_deferredTxnApply : ∃ (s : State) (aux : Aux) (x : PTxn) (w : WriteOp),
    (s.running = true) ∧
    (s.ctl.deferred = [x] ∧ s.ctl.mramHold = false ∧ s.ctl.after = [] ∧ s.ctl.credit = [] ∧ s.ctl.trial = false) ∧
    (x.commit = 3 ∧ x.due ≤ s.clk ∧ x.writes = [w] ∧ x.reserved = []) ∧
    (w.col = Slot.EV_MIN_SEV) ∧
    (s.checkWrite x.slot w.col w.el w.val = .ok ()) ∧
    (s.lcBars w.col = false) :=
  ⟨({ awake with ctl := { awake.ctl with deferred := [txn1] } } : State), ({} : Aux), (txn1 : PTxn), (write1 : WriteOp),
   (by decide +kernel), (by decide +kernel), (by decide +kernel), (by decide +kernel), (ok_of (by decide +kernel)), (by decide +kernel)⟩

theorem test_meets_lockWaitTimeout : ∃ (s : State) (aux : Aux) (k : Nat) (r : ReqX) (o : OpX),
    (s.running = true) ∧
    (s.ctl.waiting = [k] ∧ s.ctl.after = []) ∧
    (s.reqX k = some r ∧ r.txn = true ∧ r.route = .row ∧ r.ops = [o] ∧ r.after = []) ∧
    (cycMs ≤ s.since r.at_) :=
  ⟨({ awake with phys := 2000000, ctl := { awake.ctl with waiting := [3], reqs := [(3, some req1)] } } : State), ({} : Aux), (3 : Nat), (req1 : ReqX), (writeOp write1 : OpX),
   (by decide +kernel), (by decide +kernel), (by decide +kernel), (by decide +kernel)⟩

end Sys2Proof.Tests
end

