-- ==== Sys2Proof/Tests/MeetsB.lean ====
section
/-! SUPPORT. Witnesses, part B: for each statement with hypotheses, a state and operands that meet all of them. -/

namespace Sys2Proof.Tests

set_option linter.unusedVariables false
set_option Elab.async false

open Sys2Proof Sys2Proof.Machine

theorem test_meets_pstateReqActive : ∃ (s : State) (h : Nat),
    (s.Accepts h Pwr.PSTATE_REQ 0 0) ∧
    (s.rd Pwr.PSTATE 0 = 1) ∧
    (s.hbmUp = true) :=
  ⟨(State.reset : State), (0 : Nat),
   (accepts_of (by decide +kernel)), (by decide +kernel), (by decide +kernel)⟩

theorem test_meets_pstateReqIdle : ∃ (s : State) (h : Nat),
    (s.Accepts h Pwr.PSTATE_REQ 0 1) ∧
    (s.rd Pwr.PSTATE 0 = 0) ∧
    (s.idleBarred = false) ∧
    ((∀ k ∈ memPart :: fastParts, s.channelsOn k = [] ∧ s.itemsOn k = false)) ∧
    (s.part memPart ≠ 3) :=
  ⟨(awake : State), (0 : Nat),
   (accepts_of (by decide +kernel)), (by decide +kernel), (by decide +kernel), (by decide +kernel), (by decide +kernel)⟩

theorem test_meets_pstateReqStandby : ∃ (s : State) (h : Nat),
    (s.Accepts h Pwr.PSTATE_REQ 0 2) ∧
    (s.ctl.after = []) ∧
    (s.standbyBarred = false) ∧
    (s.wakePassed = false) ∧
    ((∀ k ∈ memPart :: fastParts, s.channelsOn k = [] ∧ s.itemsOn k = false)) ∧
    (s.part memPart ≠ 3) :=
  ⟨(awake : State), (0 : Nat),
   (accepts_of (by decide +kernel)), (by decide +kernel), (by decide +kernel), (by decide +kernel), (by decide +kernel), (by decide +kernel)⟩

theorem test_meets_idleHbmAccess : ∃ (s : State),
    (s.running = true) ∧
    (s.rd Pwr.PSTATE 0 = 1) ∧
    (s.hbmUp = true) :=
  ⟨(State.reset : State),
   (by decide +kernel), (by decide +kernel), (by decide +kernel)⟩

theorem test_meets_selfRefreshReturn : ∃ (s : State),
    (s.running = true) ∧
    (s.rd Pwr.PSTATE 0 = 1) ∧
    (s.mem.selfRefresh = false) ∧
    (cycMs ≤ s.since s.mem.hbmAt) :=
  ⟨({ State.reset with phys := 2000000, mem := {} } : State),
   (by decide +kernel), (by decide +kernel), (by decide +kernel), (by decide +kernel)⟩

theorem test_meets_wakeAtExpiry : ∃ (s : State) (b : Boot),
    (s.standby = true) ∧
    (bitOf (s.rd Pwr.WAKE_SRC 0) 0 = true ∧ s.rd Pwr.WAKE_AT 0 ≠ 0) ∧
    (ofTime80 (s.rd Pwr.WAKE_AT 0) * 32768 / secU ≤ s.rtcNow) ∧
    (s.BootsQuietly b) :=
  ⟨(put [(Pwr.PSTATE, 0, 2), (Pwr.WAKE_SRC, 0, 7), (Pwr.WAKE_AT, 0, 1)] State.reset : State), ({} : Boot),
   (by decide +kernel), (by decide +kernel), (by decide +kernel), ⟨by decide +kernel, by decide +kernel, by decide +kernel, by decide +kernel, by decide +kernel, by decide +kernel⟩⟩

theorem test_meets_tin0Wake : ∃ (s : State) (ns : Nat) (b : Boot),
    (s.standby = true) ∧
    (bitOf (s.rd Pwr.WAKE_SRC 0) 1 = true) ∧
    (1000 ≤ ns) ∧
    (s.BootsQuietly b) :=
  ⟨(put [(Pwr.PSTATE, 0, 2), (Pwr.WAKE_SRC, 0, 7), (Pwr.WAKE_AT, 0, 1)] State.reset : State), (1000 : Nat), ({} : Boot),
   (by decide +kernel), (by decide +kernel), (by decide +kernel), ⟨by decide +kernel, by decide +kernel, by decide +kernel, by decide +kernel, by decide +kernel, by decide +kernel⟩⟩

theorem test_meets_mg0WakeFrame : ∃ (s : State) (dst : Nat) (payload : Bytes) (b : Boot),
    (s.standby = true) ∧
    (bitOf (s.rd Pwr.WAKE_SRC 0) 2 = true) ∧
    ((dst = s.rd Mg.MAC 0 ∨ dst = 2 ^ 48 - 1)) ∧
    (wakePattern (natLE 6 (s.rd Mg.MAC 0)) payload = true) ∧
    (s.BootsQuietly b) :=
  ⟨(put [(Pwr.PSTATE, 0, 2), (Pwr.WAKE_SRC, 0, 7), (Pwr.WAKE_AT, 0, 1)] State.reset : State), (2 ^ 48 - 1 : Nat), (List.replicate 3 0 ++ List.replicate 6 0xFF ++ List.replicate 96 0 : Bytes), ({} : Boot),
   (by decide +kernel), (by decide +kernel), (by decide +kernel), (by decide +kernel), ⟨by decide +kernel, by decide +kernel, by decide +kernel, by decide +kernel, by decide +kernel, by decide +kernel⟩⟩

theorem test_meets_pinEngageWakes : ∃ (s : State) (b : Boot),
    (s.standby = true) ∧
    (s.BootsQuietly b) :=
  ⟨(put [(Pwr.PSTATE, 0, 2), (Pwr.WAKE_SRC, 0, 7), (Pwr.WAKE_AT, 0, 1)] State.reset : State), ({} : Boot),
   (by decide +kernel), ⟨by decide +kernel, by decide +kernel, by decide +kernel, by decide +kernel, by decide +kernel, by decide +kernel⟩⟩

theorem test_meets_domainWake : ∃ (s : State) (k : Nat),
    (s.running = true) ∧
    (s.part k = 1) :=
  ⟨(awake.setPart 0 1 : State), (0 : Nat),
   (by decide +kernel), (by decide +kernel)⟩

theorem test_meets_domainPowerDown : ∃ (s : State) (k : Nat),
    (s.running = true) ∧
    (s.part k = 2) ∧
    (s.mayPowerDown k = true) :=
  ⟨(awake.setPart 0 2 : State), (0 : Nat),
   (by decide +kernel), (by decide +kernel), (by decide +kernel)⟩

theorem test_meets_domainDrained : ∃ (s : State) (k : Nat),
    (s.running = true) ∧
    (s.part k = 3) ∧
    (s.partBusy k = false) ∧
    (s.pwr.toIdle = false) :=
  ⟨(awake.setPart 0 3 : State), (0 : Nat),
   (by decide +kernel), (by decide +kernel), (by decide +kernel), (by decide +kernel)⟩

theorem test_meets_clusterClockGate : ∃ (s : State) (c : Fin 8),
    (s.running = true) ∧
    (s.part (cluPart c) = 2) ∧
    (s.partBusy (cluPart c) = false) ∧
    (10 * cycMs ≤ s.idleFor c) :=
  ⟨({ awake.setPart 17 2 with phys := 100000000 } : State), (1 : Fin 8),
   (by decide +kernel), (by decide +kernel), (by decide +kernel), (by decide +kernel)⟩

theorem test_meets_clusterPowerGate : ∃ (s : State) (c : Fin 8),
    (s.running = true) ∧
    (s.part (cluPart c) = 4) ∧
    (100 * cycMs ≤ s.idleFor c) :=
  ⟨({ awake.setPart 17 4 with phys := 1000000000 } : State), (1 : Fin 8),
   (by decide +kernel), (by decide +kernel), (by decide +kernel)⟩

theorem test_meets_supplyWarn : ∃ (s : State) (k : Fin 6) (mv : Nat),
    (s.running = true) ∧
    (mv < (supplyLevels k).1) ∧
    (Tbl.get (0, 0) s.pwr.dips k = (0, 0)) :=
  ⟨(awake : State), (1 : Fin 6), (740 : Nat),
   (by decide +kernel), (by decide +kernel), (by decide +kernel)⟩

theorem test_meets_supplyWarnDeeper : ∃ (s : State) (k : Fin 6) (mv : Nat) (m : Nat) (c : Nat),
    (s.running = true) ∧
    (mv < (supplyLevels k).1) ∧
    (Tbl.get (0, 0) s.pwr.dips k = (c + 1, m)) :=
  ⟨({ awake with phys := 9000000, pwr := { awake.pwr with dips := [(1, (1, 700))] }, ctl := { awake.ctl with mramHold := true } } : State), (1 : Fin 6), (690 : Nat), (700 : Nat), (0 : Nat),
   (by decide +kernel), (by decide +kernel), (by decide +kernel)⟩

theorem test_meets_supplyRecovered : ∃ (s : State) (k : Fin 6) (mv : Nat) (m : Nat) (c : Nat) (aux : Aux),
    (s.running = true) ∧
    (s.pwr.dips = [(k.val, (c + 1, m))]) ∧
    (s.ctl.held = [] ∧ s.ev.logHeld = [] ∧ s.ctl.waiting = [] ∧ s.ctl.after = []) :=
  ⟨({ awake with phys := 9000000, pwr := { awake.pwr with dips := [(1, (1, 700))] }, ctl := { awake.ctl with mramHold := true } } : State), (1 : Fin 6), (710 : Nat), (700 : Nat), (0 : Nat), ({} : Aux),
   (by decide +kernel), (by decide +kernel), (by decide +kernel)⟩

theorem test_meets_supplyRecoveredHeld : ∃ (s : State) (k : Fin 6) (mv : Nat) (m : Nat) (c : Nat) (w : WriteOp) (aux : Aux),
    (s.running = true) ∧
    (s.pwr.dips = [(k.val, (c + 1, m))]) ∧
    (s.ctl.held = [{ slot := 0x100, ops := [writeOp w] }] ∧ s.ev.logHeld = [] ∧ s.ctl.waiting = [] ∧ s.ctl.after = []) ∧
    (w.col = Life.POWER_ON_H ∧ w.el = 0) :=
  ⟨({ awake with phys := 9000000, pwr := { awake.pwr with dips := [(1, (1, 700))] }, ctl := { awake.ctl with mramHold := true, held := [{ slot := 0x100, ops := [writeOp { col := Life.POWER_ON_H, el := 0, val := 7 }] }] } } : State), (1 : Fin 6), (710 : Nat), (700 : Nat), (0 : Nat), ({ col := Life.POWER_ON_H, el := 0, val := 7 } : WriteOp), ({} : Aux),
   (by decide +kernel), (by decide +kernel), (by decide +kernel), (by decide +kernel)⟩

theorem test_meets_supplyRecoveredOther : ∃ (s : State) (k : Fin 6) (mv : Nat) (m : Nat) (c : Nat) (e : Nat × Nat × Nat) (aux : Aux),
    (s.running = true) ∧
    (Tbl.get (0, 0) s.pwr.dips k = (c + 1, m)) ∧
    (Tbl.set (0, 0) s.pwr.dips k (0, 0) = [e]) ∧
    (s.ctl.mramHold = true ∧ s.ctl.after = []) :=
  ⟨({ awake with phys := 9000000, pwr := { awake.pwr with dips := [(0, (5, 690)), (1, (1, 700))] }, ctl := { awake.ctl with mramHold := true } } : State), (1 : Fin 6), (710 : Nat), (700 : Nat), (0 : Nat), ((0, (5, 690)) : Nat × Nat × Nat), ({} : Aux),
   (by decide +kernel), (by decide +kernel), (by decide +kernel), (by decide +kernel)⟩

theorem test_meets_supplyReset : ∃ (s : State) (k : Fin 6) (mv : Nat) (dur : Nat) (b : Boot),
    (s.monitored k = true) ∧
    (mv ≤ (supplyLevels k).2.1) ∧
    (s.BootsQuietly b) :=
  ⟨(awake : State), (1 : Fin 6), (700 : Nat), (50 : Nat), ({} : Boot),
   (by decide +kernel), (by decide +kernel), ⟨by decide +kernel, by decide +kernel, by decide +kernel, by decide +kernel, by decide +kernel, by decide +kernel⟩⟩

theorem test_meets_powerOn : ∃ (s : State) (b : Boot),
    s.BootsQuietly b :=
  ⟨(awake : State), ({} : Boot),
   ⟨by decide +kernel, by decide +kernel, by decide +kernel, by decide +kernel, by decide +kernel, by decide +kernel⟩⟩

theorem test_meets_porstNReset : ∃ (s : State) (low : Nat) (b : Boot),
    (10000 ≤ low) ∧
    (s.BootsQuietly b) :=
  ⟨(awake : State), (10000 : Nat), ({} : Boot),
   (by decide +kernel), ⟨by decide +kernel, by decide +kernel, by decide +kernel, by decide +kernel, by decide +kernel, by decide +kernel⟩⟩

theorem test_meets_watchdog : ∃ (s : State) (b : Boot),
    (s.running = true) ∧
    (s.BootsQuietly b) :=
  ⟨(awake : State), ({} : Boot),
   (by decide +kernel), ⟨by decide +kernel, by decide +kernel, by decide +kernel, by decide +kernel, by decide +kernel, by decide +kernel⟩⟩

theorem test_meets_reset : ∃ (s : State) (h : Nat) (b : Boot),
    (s.Accepts h Pwr.RESET 0 1) ∧
    (s.ctl.after = []) ∧
    (s.BootsQuietly b) :=
  ⟨(awake : State), (0 : Nat), ({} : Boot),
   (accepts_of (by decide +kernel)), (by decide +kernel), ⟨by decide +kernel, by decide +kernel, by decide +kernel, by decide +kernel, by decide +kernel, by decide +kernel⟩⟩

theorem test_meets_bootRetry : ∃ (s : State) (b : Boot),
    (s.ctl = { bootHalt := true }) ∧
    (10 * cycS ≤ s.since s.pwr.retryAt) ∧
    (s.BootsQuietly b) ∧
    (s.column Leg.STATE = [] ∧ s.column Sub.STATE = []) :=
  ⟨({ awake with phys := 16000000000, ctl := { bootHalt := true } } : State), ({} : Boot),
   (by decide +kernel), (by decide +kernel), ⟨by decide +kernel, by decide +kernel, by decide +kernel, by decide +kernel, by decide +kernel, by decide +kernel⟩, (by decide +kernel)⟩

theorem test_meets_restore : ∃ (s : State) (h : Nat) (b : Boot),
    (s.Accepts h Cal.RESTORE 0 1) ∧
    (s.MramRoom) ∧
    (s.ctl.after = []) ∧
    (s.BootsQuietly b) :=
  ⟨(awake : State), (0 : Nat), ({} : Boot),
   (accepts_of (by decide +kernel)), (room_of (by decide +kernel)), (by decide +kernel), ⟨by decide +kernel, by decide +kernel, by decide +kernel, by decide +kernel, by decide +kernel, by decide +kernel⟩⟩

theorem test_meets_lifeCounterSample : ∃ (s : State) (tj : Int) (ppm : Int) (mv : Nat) (wear : Nat),
    (s.running = true) ∧
    (60 * cycS ≤ s.since s.pwr.sampleAt) ∧
    (-128 ≤ tj ∧ tj ≤ 127) :=
  ⟨({ awake with phys := 60 * cycS } : State), (30 : Int), (1 : Int), (750 : Nat), (0 : Nat),
   (by decide +kernel), (by decide +kernel), (by decide +kernel)⟩

theorem test_meets_lifeCounterWrite : ∃ (s : State),
    (3600 * cycS ≤ s.since s.pwr.lifeAt) ∧
    (s.ctl.mramHold = false ∧ s.ctl.held = []) ∧
    (s.rd Life.POWER_ON_H 0 < 2 ^ 32 ∧ s.rd Life.HBM_HOT_H 0 < 2 ^ 32) :=
  ⟨({ awake with phys := 3600 * cycS, pwr := { awake.pwr with minutes := 130, hotMin := 60 } } : State),
   (by decide +kernel), (by decide +kernel), (by decide +kernel)⟩

theorem test_meets_thermWarn : ∃ (s : State) (sensor : Nat) (tj : Int),
    (s.running = true) ∧
    (s.pwr.warned = false) ∧
    (s.thermWarnAt ≤ tj ∧ -128 ≤ tj ∧ tj ≤ 127) :=
  ⟨(awake : State), (3 : Nat), (110 : Int),
   (by decide +kernel), (by decide +kernel), (by decide +kernel)⟩

theorem test_meets_thermLimit : ∃ (s : State) (sensor : Nat) (tj : Int),
    (s.running = true) ∧
    (s.pwr.limited = false) ∧
    (s.thermLimitAt ≤ tj ∧ -128 ≤ tj ∧ tj ≤ 127) :=
  ⟨(awake : State), (3 : Nat), (110 : Int),
   (by decide +kernel), (by decide +kernel), (by decide +kernel)⟩

theorem test_meets_factoryProgramming : ∃ (s : State) (w : ObjWrite),
    (s.running = true) ∧
    (s.rd Ident.LC_STATE 0 = 0) ∧
    (w.index * 256 + w.sub = Ident.SERIAL) ∧
    (w.element = 0 ∧ w.value < 2 ^ 64) :=
  ⟨(awake : State), ({ index := Ident.SERIAL / 256, element := 0, sub := Ident.SERIAL % 256, value := 77 } : ObjWrite),
   (by decide +kernel), (by decide +kernel), (by decide +kernel), (by decide +kernel)⟩

theorem test_meets_lcCmdProvision : ∃ (s : State) (h : Nat) (b : Boot),
    (s.Accepts h Ident.LC_CMD 0 2) ∧
    (s.MramRoom) ∧
    (s.rd Ident.LC_STATE 0 = 1) ∧
    (s.ctl.after = [] ∧ s.ctl.held = [] ∧ s.ctl.trial = false) ∧
    (s.BootsQuietly b) :=
  ⟨(put [(Ident.LC_STATE, 0, 1)] awake : State), (0 : Nat), ({} : Boot),
   (accepts_of (by decide +kernel)), (room_of (by decide +kernel)), (by decide +kernel), (by decide +kernel), ⟨by decide +kernel, by decide +kernel, by decide +kernel, by decide +kernel, by decide +kernel, by decide +kernel⟩⟩

theorem test_meets_lcCmdDeploy : ∃ (s : State) (h : Nat) (b : Boot),
    (s.Accepts h Ident.LC_CMD 0 3) ∧
    (s.MramRoom) ∧
    (s.rd Ident.LC_STATE 0 = 2) ∧
    (s.ctl.after = [] ∧ s.ctl.held = [] ∧ s.ctl.trial = false) ∧
    (s.BootsQuietly b) :=
  ⟨(put [(Ident.LC_STATE, 0, 2)] awake : State), (0 : Nat), ({} : Boot),
   (accepts_of (by decide +kernel)), (room_of (by decide +kernel)), (by decide +kernel), (by decide +kernel), ⟨by decide +kernel, by decide +kernel, by decide +kernel, by decide +kernel, by decide +kernel, by decide +kernel⟩⟩

theorem test_meets_lcCmdReturn : ∃ (s : State) (h : Nat) (b : Boot),
    (s.Accepts h Ident.LC_CMD 0 4) ∧
    (s.MramRoom) ∧
    (s.rd Ident.LC_STATE 0 = 3) ∧
    (s.ctl.after = [] ∧ s.ctl.held = [] ∧ s.ctl.trial = false) ∧
    (s.BootsQuietly b) :=
  ⟨(put [(Ident.LC_STATE, 0, 3)] awake : State), (0 : Nat), ({} : Boot),
   (accepts_of (by decide +kernel)), (room_of (by decide +kernel)), (by decide +kernel), (by decide +kernel), ⟨by decide +kernel, by decide +kernel, by decide +kernel, by decide +kernel, by decide +kernel, by decide +kernel⟩⟩

theorem test_meets_lcCmdScrap : ∃ (s : State) (h : Nat) (b : Boot),
    (s.Accepts h Ident.LC_CMD 0 5) ∧
    (s.MramRoom) ∧
    (1 ≤ s.rd Ident.LC_STATE 0 ∧ s.rd Ident.LC_STATE 0 ≤ 4) ∧
    (s.ctl.after = [] ∧ s.ctl.held = [] ∧ s.ctl.trial = false) ∧
    (s.BootsQuietly b) :=
  ⟨(put [(Ident.LC_STATE, 0, 3)] awake : State), (0 : Nat), ({} : Boot),
   (accepts_of (by decide +kernel)), (room_of (by decide +kernel)), (by decide +kernel), (by decide +kernel), ⟨by decide +kernel, by decide +kernel, by decide +kernel, by decide +kernel, by decide +kernel, by decide +kernel⟩⟩

theorem test_meets_tamelserService : ∃ (s : State) (b : Boot),
    (s.running = true) ∧
    (s.rd Ident.LC_STATE 0 = 4) ∧
    (s.ctl.after = [] ∧ s.ctl.mramHold = false) ∧
    (s.BootsQuietly b) :=
  ⟨(put [(Ident.LC_STATE, 0, 4)] awake : State), ({} : Boot),
   (by decide +kernel), (by decide +kernel), (by decide +kernel), ⟨by decide +kernel, by decide +kernel, by decide +kernel, by decide +kernel, by decide +kernel, by decide +kernel⟩⟩

end Sys2Proof.Tests
end

