-- ==== Sys2Proof/Tests/MeetsC.lean ====
section
/-! SUPPORT. Witnesses, part C: for each statement with hypotheses, a state and operands that meet all of them. -/

namespace Sys2Proof.Tests

set_option linter.unusedVariables false
set_option Elab.async false

open Sys2Proof Sys2Proof.Machine

theorem test_meets_setTime : ∃ (s : State) (h : Nat) (v : Nat),
    (s.Accepts h Clk.SET_TIME 0 v) ∧
    (s.rd Clk.REF_SEL 0 = 3) :=
  ⟨(put [(Clk.REF_SEL, 0, 3)] awake : State), (0 : Nat), (5 * 2 ^ 32 + 7 : Nat),
   (accepts_of (by decide +kernel)), (by decide +kernel)⟩

theorem test_meets_refSelWrite : ∃ (s : State) (h : Nat) (v : Nat),
    (s.Accepts h Clk.REF_SEL 0 v) ∧
    (s.MramRoom) :=
  ⟨(awake : State), (0 : Nat), (1 : Nat),
   (accepts_of (by decide +kernel)), (room_of (by decide +kernel))⟩

theorem test_meets_rtcReload : ∃ (s : State),
    (s.running = true) ∧
    (s.clk / secU ≠ s.tim.rtcSec) :=
  ⟨({ awake with clk := secU } : State),
   (by decide +kernel), (by decide +kernel)⟩

theorem test_meets_ptpMessageRx : ∃ (s : State) (m : PtpMsg),
    (s.running = true) ∧
    (m.kind = .sync) ∧
    (s.ptpFits m = true ∧ s.ptpPort m = true) ∧
    (s.tim.parent = some m.port.val ∧ s.rd Ptp.PARENT m.port = m.source) :=
  ⟨({ put [(Lp.ENABLE, 0, 1), (Ptp.ENABLE, 0, 1), (Ptp.VLAN, 0, 0xFFFF), (Ptp.DOMAIN, 0, 0)] awake with tim := { awake.tim with parent := some 0 } } : State), (sync1 : PtpMsg),
   (by decide +kernel), (by decide +kernel), (by decide +kernel), (by decide +kernel)⟩

theorem test_meets_ptpMessageRxErr : ∃ (s : State) (m : PtpMsg),
    (s.running = true) ∧
    (m.kind ≠ .management ∧ m.kind ≠ .esmc) ∧
    (s.ptpPort m = true) ∧
    ((18 ≤ m.port.val ∨ s.on Ptp.ENABLE m.port = true)) ∧
    ((s.ptpFits m = false ∨ s.ptpKindOk m = false)) :=
  ⟨(put [(Lp.ENABLE, 0, 1), (Ptp.ENABLE, 0, 1), (Ptp.VLAN, 0, 0xFFFF), (Ptp.DOMAIN, 0, 9)] awake : State), (sync1 : PtpMsg),
   (by decide +kernel), (by decide +kernel), (by decide +kernel), (by decide +kernel), (by decide +kernel)⟩

theorem test_meets_delayReqSend : ∃ (s : State) (p : Fin 20),
    (s.running = true) ∧
    (s.tim.parent = some p.val ∧ s.on Ptp.ENABLE p = true) ∧
    ((s.ptpX p).nextReq ≤ s.phys) :=
  ⟨({ put [(Ptp.ENABLE, 0, 1), (Ptp.VLAN, 0, 0xFFFF)] awake with tim := { awake.tim with parent := some 0 } } : State), (0 : Fin 20),
   (by decide +kernel), (by decide +kernel), (by decide +kernel)⟩

theorem test_meets_referenceLost : ∃ (s : State) (f : Nat),
    (s.running = true) ∧
    (s.rd Clk.REF_SEL 0 = 2) ∧
    (s.rd Clk.STATE 0 = 2) ∧
    (s.ppsSilent = true) :=
  ⟨(put [(Clk.REF_SEL, 0, 2), (Clk.STATE, 0, 2)] awake : State), (0 : Nat),
   (by decide +kernel), (by decide +kernel), (by decide +kernel), (by decide +kernel)⟩

theorem test_meets_ppsInEdge : ∃ (s : State) (falling : Bool) (f : Nat),
    (s.running = true) ∧
    (falling = (s.rd Ref.PPS_EDGE 0 == 1)) :=
  ⟨(awake : State), (false : Bool), (1 : Nat),
   (by decide +kernel), (by decide +kernel)⟩

theorem test_meets_ppsInEdgeMeasures : ∃ (s : State) (falling : Bool) (f : Nat),
    (s.running = true) ∧
    (falling = (s.rd Ref.PPS_EDGE 0 == 1)) ∧
    (s.rd Clk.REF_SEL 0 = 2) ∧
    (s.rd Clk.STATE 0 = 0) ∧
    (s.tim.ppsTod = none ∧ s.ppsPeriodOk = true) :=
  ⟨(put [(Clk.REF_SEL, 0, 2)] { awake with clk := 40 * secU + 1000 } : State), (false : Bool), (1 : Nat),
   (by decide +kernel), (by decide +kernel), (by decide +kernel), (by decide +kernel), (by decide +kernel)⟩

theorem test_meets_ppsTod : ∃ (s : State) (h : Nat) (v : Nat),
    s.Accepts h Ref.PPS_TOD 0 v :=
  ⟨(awake : State), (0 : Nat), (100 : Nat),
   (accepts_of (by decide +kernel))⟩

theorem test_meets_arm : ∃ (s : State) (h : Nat) (n : Nat) (e : Nat),
    (s.Accepts h Tout.ARM n 1) ∧
    (s.toutRangeOk n = true) ∧
    (s.on Clk.TIME_VALID 0 = true) ∧
    ((s.rd Tout.MODE n = 1 ∨ s.rd Tout.MODE n = 2)) ∧
    (s.firstEdge n = some e) :=
  ⟨(put [(Clk.TIME_VALID, 0, 1), (Tout.MODE, 2, 2), (Tout.PERIOD, 2, secU), (Tout.WIDTH, 2, 1000)] awake : State), (0 : Nat), (2 : Nat), (secU : Nat),
   (accepts_of (by decide +kernel)), (by decide +kernel), (by decide +kernel), (by decide +kernel), (by decide +kernel)⟩

theorem test_meets_armLate : ∃ (s : State) (h : Nat) (n : Nat),
    (s.Accepts h Tout.ARM n 1) ∧
    (s.toutRangeOk n = true) ∧
    (s.on Clk.TIME_VALID 0 = true) ∧
    (s.rd Tout.MODE n = 1 ∧ bitOf (s.rd Tout.FLAGS n) 0 = false) ∧
    (ofTime80 (s.rd Tout.START n) ≤ s.toutPresent) :=
  ⟨(put [(Clk.TIME_VALID, 0, 1), (Tout.MODE, 2, 1), (Tout.PERIOD, 2, secU), (Tout.WIDTH, 2, 1000), (Tout.FLAGS, 2, 0)] awake : State), (0 : Nat), (2 : Nat),
   (accepts_of (by decide +kernel)), (by decide +kernel), (by decide +kernel), (by decide +kernel), (by decide +kernel)⟩

theorem test_meets_disarm : ∃ (s : State) (h : Nat) (n : Nat),
    (s.Accepts h Tout.ARM n 2) ∧
    ((s.rd Tout.MODE n = 1 ∨ s.rd Tout.MODE n = 2)) :=
  ⟨(put [(Tout.MODE, 2, 1)] awake : State), (0 : Nat), (2 : Nat),
   (accepts_of (by decide +kernel)), (by decide +kernel)⟩

theorem test_meets_toutEdge : ∃ (s : State) (n : Fin 8),
    (s.running = true) ∧
    ((s.toutX n).armed = true ∧ (s.toutX n).next ≤ s.clk) :=
  ⟨(awake.toutSet 3 { armed := true, period := 7 } : State), (3 : Fin 8),
   (by decide +kernel), (by decide +kernel)⟩

theorem test_meets_tinEdge : ∃ (s : State) (n : Fin 4) (falling : Bool) (ns : Nat),
    (s.running = true) ∧
    (s.on Tin.ENABLE n = true ∧ s.rd Tin.DEGLITCH n ≤ ns) ∧
    ((s.rd Tin.EDGE n = 2 ∨ (s.rd Tin.EDGE n == 1) = falling)) :=
  ⟨(put [(Tin.ENABLE, 0, 1)] awake : State), (0 : Fin 4), (false : Bool), (100000 : Nat),
   (by decide +kernel), (by decide +kernel), (by decide +kernel)⟩

theorem test_meets_tinRead : ∃ (s : State) (h : Nat) (n : Nat),
    (s.running = true) ∧
    (s.checkRead h Tin.READ n = .ok ()) :=
  ⟨(awake : State), (0 : Nat), (1 : Nat),
   (by decide +kernel), (ok_of (by decide +kernel))⟩

end Sys2Proof.Tests
end

