-- ==== Sys2Proof/Tests/MeetsD.lean ====
section
/-! SUPPORT. Witnesses, part D: for each statement with hypotheses, a state and operands that meet all of them. -/

namespace Sys2Proof.Tests

set_option linter.unusedVariables false
set_option Elab.async false

open Sys2Proof Sys2Proof.Machine

theorem test_meets_legOpen : ∃ (s : State) (h : Nat) (l : Nat),
    (s.Accepts h Leg.CMD l 1) ∧
    (s.rd Leg.STATE l = 0) ∧
    (s.hbmUp = true) ∧
    (2 ^ 18 ≤ s.poolFree) :=
  ⟨(awake : State), (0 : Nat), (7 : Nat),
   (accepts_of (by decide +kernel)), (by decide +kernel), (by decide +kernel), (by decide +kernel)⟩

theorem test_meets_legActivate : ∃ (s : State) (h : Nat) (l : Nat),
    (s.Accepts h Leg.CMD l 2) ∧
    (s.rd Leg.STATE l = 1) ∧
    (s.rd Leg.KEYS l = 3) ∧
    (s.tupleTaken l = false) ∧
    (s.oneVersion l = true) ∧
    (s.radio l = false) :=
  ⟨(put [(Leg.STATE, 7, 1), (Leg.KEYS, 7, 3), (Line.START_KBPS, 7, 900)] awake : State), (0 : Nat), (7 : Nat),
   (accepts_of (by decide +kernel)), (by decide +kernel), (by decide +kernel), (by decide +kernel), (by decide +kernel), (by decide +kernel)⟩

theorem test_meets_legActivateRadio : ∃ (s : State) (h : Nat) (l : Nat),
    (s.Accepts h Leg.CMD l 2) ∧
    (s.rd Leg.STATE l = 1) ∧
    (s.rd Leg.KEYS l = 3) ∧
    (s.tupleTaken l = false) ∧
    (s.oneVersion l = true) ∧
    (s.radio l = true) ∧
    (s.bindingTaken l (s.rd Leg.PORT l) (s.rd Leg.RADIO_UE l) (s.rd FLeg.BEARER l) = false) :=
  ⟨(put [(Leg.STATE, 7, 1), (Leg.KEYS, 7, 3), (Leg.KIND, 7, 1), (Leg.PORT, 7, 16)] awake : State), (0 : Nat), (7 : Nat),
   (accepts_of (by decide +kernel)), (by decide +kernel), (by decide +kernel), (by decide +kernel), (by decide +kernel), (by decide +kernel), (by decide +kernel)⟩

theorem test_meets_legClose : ∃ (s : State) (h : Nat) (l : Nat),
    (s.Accepts h Leg.CMD l 3) ∧
    ((s.rd Leg.STATE l = 1 ∨ s.rd Leg.STATE l = 2)) :=
  ⟨(put [(Leg.STATE, 7, 2)] awake : State), (0 : Nat), (7 : Nat),
   (accepts_of (by decide +kernel)), (by decide +kernel)⟩

theorem test_meets_legTeardownComplete : ∃ (s : State) (l : Nat),
    (s.running = true) ∧
    (s.rd Leg.STATE l = 3) ∧
    (s.dataLeft l = false) :=
  ⟨(put [(Leg.STATE, 7, 3)] awake : State), (7 : Nat),
   (by decide +kernel), (by decide +kernel), (by decide +kernel)⟩

theorem test_meets_confOpen : ∃ (s : State) (h : Nat) (c : Nat) (n : Nat) (o : Nat),
    (s.Accepts h Conf.CMD c 1) ∧
    (s.rd Conf.STATE c = 0) ∧
    (s.members c = []) ∧
    (s.ctl.credit = [] ∧ s.ctl.trial = false) ∧
    (n = s.rd Conf.CAND_MAX c * 2 + s.rd Conf.TOPK c * 20) ∧
    (o = s.ownerOf .conf c) ∧
    (s.rd Cap.DSP_USED 0 + n ≤ s.cap .dsp) ∧
    (2 ≤ o → s.rd Part.DSP_USED o + n ≤ s.rd Part.DSP_QUOTA o) :=
  ⟨(awake : State), (0 : Nat), (9 : Nat), (awake.rd Conf.CAND_MAX 9 * 2 + awake.rd Conf.TOPK 9 * 20 : Nat), (awake.ownerOf .conf 9 : Nat),
   (accepts_of (by decide +kernel)), (by decide +kernel), (by decide +kernel), (by decide +kernel), (by decide +kernel), (by decide +kernel), (by decide +kernel), (by decide +kernel)⟩

theorem test_meets_confClose : ∃ (s : State) (h : Nat) (c : Nat) (o : Nat),
    (s.Accepts h Conf.CMD c 2) ∧
    (s.rd Conf.STATE c = 1) ∧
    (s.members c = []) ∧
    (s.ctl.trial = false) ∧
    (o = s.ownerOf .conf c) :=
  ⟨(put [(Conf.STATE, 9, 1)] awake : State), (0 : Nat), (9 : Nat), (awake.ownerOf .conf 9 : Nat),
   (accepts_of (by decide +kernel)), (by decide +kernel), (by decide +kernel), (by decide +kernel), (by decide +kernel)⟩

theorem test_meets_sourceDefine : ∃ (s : State) (h : Nat) (src : Nat) (l : Nat),
    (s.Accepts h Src.CMD src 1) ∧
    (s.rd Src.STATE src = 0) ∧
    (s.rd Src.LEG src = l ∧ l ≠ 0xFFFFFFFF) ∧
    (s.rd Leg.STATE l = 1 ∨ s.rd Leg.STATE l = 2) ∧
    (s.rd Leg.CONF l = 0xFFFF) ∧
    ((s.crossing h .src src .leg l).1 = false) ∧
    (codecFits (s.rd Src.MEDIA src) (s.rd Src.CODEC src) = true) ∧
    (s.srcSsrcTaken src (s.rd Src.SSRC src) = false) ∧
    ((s.sourcesOf l).length < 4) ∧
    (s.hbmUp = true) :=
  ⟨(put [(Leg.STATE, 7, 1), (Src.LEG, 30, 7), (Src.SSRC, 30, 99)] awake : State), (0 : Nat), (30 : Nat), (7 : Nat),
   (accepts_of (by decide +kernel)), (by decide +kernel), (by decide +kernel), (by decide +kernel), (by decide +kernel), (by decide +kernel), (by decide +kernel), (by decide +kernel), (by decide +kernel), (by decide +kernel)⟩

theorem test_meets_sourceDelete : ∃ (s : State) (h : Nat) (src : Nat),
    (s.Accepts h Src.CMD src 2) ∧
    (s.rd Src.STATE src = 1) :=
  ⟨(put [(Src.STATE, 30, 1), (Src.LEG, 30, 7), (Sub.STATE, 4, 1), (Sub.SOURCE, 4, 30), (MosPos.SOURCE, 65, 30)] awake : State), (0 : Nat), (30 : Nat),
   (accepts_of (by decide +kernel)), (by decide +kernel)⟩

theorem test_meets_subCreate : ∃ (s : State) (h : Nat) (k : Nat) (l : Nat) (src : Nat),
    (s.Accepts h Sub.CMD k 1) ∧
    (s.rd Sub.STATE k = 0) ∧
    (l = s.rd Sub.LEG k ∧ src = s.rd Sub.SOURCE k) ∧
    ((s.crossing h .sub k .leg l).1 = false ∧ (s.crossing h .sub k .src src).1 = false) ∧
    (s.rd Leg.STATE l = 1 ∨ s.rd Leg.STATE l = 2) ∧
    (s.rd Src.STATE src = 1) ∧
    ((s.subsOfLeg l).any (fun j => s.rd Sub.SOURCE j == src) = false) ∧
    (s.hbmUp = true) ∧
    (s.on Sub.SSRC_AUTO k = false) ∧
    (s.ssrcTaken l k (s.rd Sub.OUT_SSRC k) = false) ∧
    (((s.wr Sub.STATE k 1).sendStreams l).length ≤ streamMax (txCtx l)) :=
  ⟨(put [(Leg.STATE, 7, 1), (Src.STATE, 30, 1), (Src.MEDIA, 30, 1), (Src.LEG, 30, 8), (Sub.LEG, 4, 7), (Sub.SOURCE, 4, 30), (Sub.SSRC_AUTO, 4, 0), (Sub.OUT_SSRC, 4, 77)] awake : State), (0 : Nat), (4 : Nat), (7 : Nat), (30 : Nat),
   (accepts_of (by decide +kernel)), (by decide +kernel), (by decide +kernel), (by decide +kernel), (by decide +kernel), (by decide +kernel), (by decide +kernel), (by decide +kernel), (by decide +kernel), (by decide +kernel), (by decide +kernel)⟩

theorem test_meets_subDelete : ∃ (s : State) (h : Nat) (k : Nat),
    (s.Accepts h Sub.CMD k 2) ∧
    (s.rd Sub.STATE k = 1) :=
  ⟨(put [(Sub.STATE, 4, 1)] awake : State), (0 : Nat), (4 : Nat),
   (accepts_of (by decide +kernel)), (by decide +kernel)⟩

end Sys2Proof.Tests
end

