-- ==== Sys2Proof/Tests/MeetsE.lean ====
section
/-! SUPPORT. Witnesses, part E: for each statement with hypotheses, a state and operands that meet all of them. -/

namespace Sys2Proof.Tests

set_option linter.unusedVariables false
set_option Elab.async false

open Sys2Proof Sys2Proof.Machine

theorem test_meets_linkUp : ∃ (s : State) (p : Fin 20) (lanes : Nat) (corr : Nat) (uncorr : Nat),
    (s.running = true) ∧
    (p.val < 16) ∧
    (s.on Lp.ENABLE p = true ∧ s.provided p = true) ∧
    (s.on Lp.LINK p = false) :=
  ⟨(put [(Lp.ENABLE, 0, 1)] awake : State), (0 : Fin 20), (15 : Nat), (3 : Nat), (1 : Nat),
   (by decide +kernel), (by decide +kernel), (by decide +kernel), (by decide +kernel)⟩

theorem test_meets_linkUpManagement : ∃ (s : State) (p : Fin 20) (lanes : Nat) (corr : Nat) (uncorr : Nat),
    (s.running = true) ∧
    (18 ≤ p.val) ∧
    (s.on Mg.LINK (p - 18) = false) :=
  ⟨(awake : State), (19 : Fin 20), (15 : Nat), (3 : Nat), (1 : Nat),
   (by decide +kernel), (by decide +kernel), (by decide +kernel)⟩

theorem test_meets_linkDown : ∃ (s : State) (p : Fin 20) (lanes : Nat) (corr : Nat) (uncorr : Nat) (receiving : Bool),
    (s.running = true) ∧
    (p.val < 16) ∧
    (s.on Lp.LINK p = true) :=
  ⟨(put [(Lp.ENABLE, 0, 1), (Lp.LINK, 0, 1)] (awake.partner 0 true) : State), (0 : Fin 20), (15 : Nat), (3 : Nat), (1 : Nat), (true : Bool),
   (by decide +kernel), (by decide +kernel), (by decide +kernel)⟩

theorem test_meets_portDisable : ∃ (s : State) (h : Nat) (p : Nat),
    (s.Accepts h Lp.ENABLE p 0) ∧
    (s.MramRoom) :=
  ⟨(put [(Lp.ENABLE, 0, 1), (Lp.LINK, 0, 1)] awake : State), (0 : Nat), (0 : Nat),
   (accepts_of (by decide +kernel)), (room_of (by decide +kernel))⟩

theorem test_meets_ingressFrame : ∃ (s : State) (f : Frame) (l : Nat) (src : Nat) (a : Nat) (b : Nat) (sp : Nat) (dp : Nat) (dscp : Nat) (n : Nat) (v6 : Bool) (u : UdpPayload) (r : RtpPkt),
    (s.running = true) ∧
    (f.port.val < 16) ∧
    (s.on Lp.ENABLE f.port = true ∧ s.on Lp.LINK f.port = true) ∧
    (f.aborted = false ∧ f.pause = false ∧ f.upset = [] ∧ f.cacheFault = false ∧ f.damaged = [] ∧ s.cip.damaged = []) ∧
    (64 ≤ f.length ∧ f.length ≤ s.rd Lp.MAX_FRAME f.port) ∧
    (s.rd Lp.FIFO_LEVEL f.port + s.rd Lp.MAX_FRAME f.port ≤ 524288) ∧
    ((s.flight f.port).length < 2048) ∧
    (f.vids.length ≤ 1 ∧ f.l3 = .udp v6 a b sp dp dscp n u) ∧
    (s.legFor f.port (f.vids.headD 0xFFFF) v6 a b sp dp = some l) ∧
    (128 ≤ u.b0 ∧ u.b0 ≤ 191 ∧ (u.b1 < 192 ∨ 223 < u.b1)) ∧
    (u.rtp = some r) ∧
    (r.ok (n - if v6 then 48 else 28) = true ∧ r.hdrLen ≤ 2048) ∧
    ((if v6 then 48 else 28) + r.hdrLen + srtpTag (s.rd Ctx.SUITE (rxCtx l)) ≤ n) ∧
    (s.srcBySsrc l r.ssrc = some src) ∧
    (s.on Meter.ENABLE src = false) ∧
    (s.ctxKeyed (rxCtx l) = true) ∧
    ((s.ctxX (rxCtx l)).stream? r.ssrc = none ∧ s.streamFull (rxCtx l) r.ssrc = false) :=
  ⟨(listening : State), (srtp1 : Frame), (7 : Nat), (30 : Nat), (v4 5 : Nat), (v4 6 : Nat), (100 : Nat), (200 : Nat), (0 : Nat), (200 : Nat), (false : Bool), (udp1 : UdpPayload), (rtp1 : RtpPkt),
   (by decide +kernel), (by decide +kernel), (by decide +kernel), (by decide +kernel), (by decide +kernel), (by decide +kernel), (by decide +kernel), (by decide +kernel), (by decide +kernel), (by decide +kernel), (by decide +kernel), ⟨(by decide +kernel), (by decide +kernel)⟩, (by decide +kernel), (by decide +kernel), (by decide +kernel), (by decide +kernel), (by decide +kernel)⟩

theorem test_meets_ingressFramePunt : ∃ (s : State) (f : Frame) (k : Nat) (a : Nat) (b : Nat) (sp : Nat) (dp : Nat) (dscp : Nat) (n : Nat) (v6 : Bool) (u : UdpPayload),
    (s.running = true) ∧
    (f.port.val < 16) ∧
    (s.on Lp.ENABLE f.port = true ∧ s.on Lp.LINK f.port = true) ∧
    (f.aborted = false ∧ f.pause = false ∧ f.upset = [] ∧ f.descParity = false ∧ f.fcsOk = true) ∧
    (64 ≤ f.length ∧ f.length ≤ s.rd Lp.MAX_FRAME f.port) ∧
    (s.rd Lp.FIFO_LEVEL f.port + s.rd Lp.MAX_FRAME f.port ≤ 524288) ∧
    ((s.flight f.port).length < 2048) ∧
    (f.vids.length ≤ 1 ∧ f.l3 = .udp v6 a b sp dp dscp n u) ∧
    (s.legFor f.port (f.vids.headD 0xFFFF) v6 a b sp dp = none) ∧
    (k = s.puntHost 3 none (some dp)) ∧
    (s.puntRoute k = true ∧ 10 ^ 9 ≤ s.puntTokens k ∧ (s.puntQ k).queue.length < 4096) :=
  ⟨(withSession (put [(Leg.STATE, 7, 1), (Punt.ROUTE, 0, 1)] listening) : State), (srtp1 : Frame), (0 : Nat), (v4 5 : Nat), (v4 6 : Nat), (100 : Nat), (200 : Nat), (0 : Nat), (200 : Nat), (false : Bool), (udp1 : UdpPayload),
   (by decide +kernel), (by decide +kernel), (by decide +kernel), (by decide +kernel), (by decide +kernel), (by decide +kernel), (by decide +kernel), (by decide +kernel), (by decide +kernel), (by decide +kernel), (by decide +kernel)⟩

theorem test_meets_packetCommit : ∃ (s : State) (p : Fin 18) (x : InX) (rest : List InX) (v6 : Bool) (a : Nat) (b : Nat) (sp : Nat) (dp : Nat) (dscp : Nat) (n : Nat) (u : UdpPayload) (r : RtpPkt) (z : StreamX) (k : KeySet),
    (s.running = true) ∧
    (p.val < 16) ∧
    (s.flight p = x :: rest ∧ x.frame.port.val = p.val) ∧
    (x.frame.fcsOk = true ∧ frameUe x.frame = false ∧ x.frame.storeParity = false) ∧
    (x.kind = 0 ∧ x.kept = [] ∧ x.frame.l3 = .udp v6 a b sp dp dscp n u ∧ u.rtp = some r) ∧
    ((s.ctxX (rxCtx x.leg)).epoch = x.epoch) ∧
    (x.keys = some k ∧ (x.opened k).isSome = true) ∧
    ((s.ctxX (rxCtx x.leg)).stream? r.ssrc = some z) ∧
    (z.exhausted (s.ctxGen (rxCtx x.leg)) false = false ∧ x.index < 2 ^ 47 ∧ z.top = none) ∧
    (s.rd Src.STATE x.src = 1 ∧ s.rd Src.LEG x.src = x.leg ∧ s.rd Src.MEDIA x.src = 0) :=
  ⟨({ streamed with ing := { streamed.ing with flight := [(0, [inx1])] } } : State), (0 : Fin 18), (inx1 : InX), ([] : List InX), (false : Bool), (v4 5 : Nat), (v4 6 : Nat), (100 : Nat), (200 : Nat), (0 : Nat), (200 : Nat), (udp1 : UdpPayload), (rtp1 : RtpPkt), ({ ssrc := 99 } : StreamX), (keys1 : KeySet),
   (by decide +kernel), (by decide +kernel), (by decide +kernel), (by decide +kernel), (by decide +kernel), (by decide +kernel), (by decide +kernel), (by decide +kernel), (by decide +kernel), (by decide +kernel)⟩

theorem test_meets_packetCommitAuthFail : ∃ (s : State) (p : Fin 18) (x : InX) (rest : List InX) (v6 : Bool) (a : Nat) (b : Nat) (sp : Nat) (dp : Nat) (dscp : Nat) (n : Nat) (u : UdpPayload) (r : RtpPkt),
    (s.running = true) ∧
    (p.val < 16) ∧
    (s.flight p = x :: rest ∧ x.frame.port.val = p.val) ∧
    (x.frame.fcsOk = true ∧ frameUe x.frame = false ∧ x.frame.storeParity = false) ∧
    (x.kind = 0 ∧ x.frame.l3 = .udp v6 a b sp dp dscp n u ∧ u.rtp = some r) ∧
    ((s.ctxX (rxCtx x.leg)).epoch = x.epoch) ∧
    (x.keys.bind x.opened = none ∧ (s.ctxX (rxCtx x.leg)).prev.bind (fun p => x.opened p.1) = none) :=
  ⟨({ listening with ing := { listening.ing with flight := [(0, [{ inx1 with index := 66536 }])] } } : State), (0 : Fin 18), ({ inx1 with index := 66536 } : InX), ([] : List InX), (false : Bool), (v4 5 : Nat), (v4 6 : Nat), (100 : Nat), (200 : Nat), (0 : Nat), (200 : Nat), (udp1 : UdpPayload), (rtp1 : RtpPkt),
   (by decide +kernel), (by decide +kernel), (by decide +kernel), (by decide +kernel), (by decide +kernel), (by decide +kernel), (by decide +kernel)⟩

theorem test_meets_ingressAborted : ∃ (s : State) (f : Frame),
    (s.running = true) ∧
    (f.port.val < 16 ∧ s.on Lp.ENABLE f.port = true ∧ s.on Lp.LINK f.port = true) ∧
    (s.rd Lp.FIFO_LEVEL f.port + s.rd Lp.MAX_FRAME f.port ≤ 524288) ∧
    ((s.flight f.port).length < 2048) ∧
    (f.aborted = true) :=
  ⟨(listening : State), ({ srtp1 with aborted := true, length := 0 } : Frame),
   (by decide +kernel), (by decide +kernel), (by decide +kernel), (by decide +kernel), (by decide +kernel)⟩

theorem test_meets_puntDeliver : ∃ (s : State) (h : Fin 8) (x : PuntX) (rest : List PuntX) (q : SessX),
    (s.running = true) ∧
    ((s.puntQ h).queue = x :: rest) ∧
    (s.rd Punt.ROUTE h ≠ 0 ∧ (s.hostX h).open_ = some q) :=
  ⟨((withSession (put [(Punt.ROUTE, 0, 1)] awake)).puntUpd 0 (fun q => { q with queue := [punt1] }) : State), (0 : Fin 8), (punt1 : PuntX), ([] : List PuntX), (session : SessX),
   (by decide +kernel), (by decide +kernel), (by decide +kernel)⟩

theorem test_meets_puntDeliverNoRoute : ∃ (s : State) (h : Fin 8) (x : PuntX) (rest : List PuntX),
    (s.running = true) ∧
    ((s.puntQ h).queue = x :: rest) ∧
    (s.rd Punt.ROUTE h ≠ 0 ∧ (s.hostX h).open_ = none) :=
  ⟨((put [(Punt.ROUTE, 0, 1)] awake).puntUpd 0 (fun q => { q with queue := [punt1] }) : State), (0 : Fin 8), (punt1 : PuntX), ([] : List PuntX),
   (by decide +kernel), (by decide +kernel), (by decide +kernel)⟩

theorem test_meets_meterRefill : ∃ (s : State) (h : Nat) (src : Nat),
    (s.Accepts h Meter.CMD src 1) ∧
    (s.rd Src.STATE src = 1) :=
  ⟨(put [(Src.STATE, 30, 1)] awake : State), (0 : Nat), (30 : Nat),
   (accepts_of (by decide +kernel)), (by decide +kernel)⟩

end Sys2Proof.Tests
end

