-- ==== Sys2Proof/Tests/MeetsF.lean ====
section
/-! SUPPORT. Witnesses, part F: for each statement with hypotheses, a state and operands that meet all of them. -/

namespace Sys2Proof.Tests

set_option linter.unusedVariables false
set_option Elab.async false

open Sys2Proof Sys2Proof.Machine

theorem test_meets_rtcpReportSend : ∃ (s : State) (l : Nat) (z : StreamX),
    (s.running = true) ∧
    (s.rd Leg.STATE l = 2) ∧
    (s.rtcpIndex l ≠ (s.legX l).rtcpAt) ∧
    (s.sourcesOf l = [] ∧ s.subsOfLeg l = [] ∧ (s.legX l).mixSent = false) ∧
    (s.RtcpGoes l [.rr (s.rd LegMix.MIX_SSRC l) [], .sdes (s.rd LegMix.MIX_SSRC l) (s.cname l)] z) :=
  ⟨(put [(Src.STATE, 30, 0)] { talking with clk := 3 * secU } : State), (7 : Nat), ({ ssrc := 55 } : StreamX),
   (by decide +kernel), (by decide +kernel), (by decide +kernel), (by decide +kernel), ⟨by decide +kernel, by decide +kernel, by decide +kernel, ⟨by decide +kernel, by decide +kernel, by decide +kernel⟩, by decide +kernel, by decide +kernel, by decide +kernel⟩⟩

theorem test_meets_upNackSend : ∃ (s : State) (src : Nat) (l : Nat) (z : StreamX) (due : List (Nat × Nat × Bool)),
    (s.running = true) ∧
    (s.rd Src.STATE src = 1 ∧ s.rd Src.LEG src = l ∧ l ≠ 0xFFFFFFFF) ∧
    (s.rd Leg.STATE l = 2 ∧ s.on LegFb.UP_NACK l = true) ∧
    (due = (s.srcX src).missing.filter (fun m => decide (m.2.1 ≤ s.phys) && !m.2.2) ∧ due ≠ []) ∧
    (s.RtcpGoes l [.rr (s.rd LegMix.MIX_SSRC l) [], .sdes (s.rd LegMix.MIX_SSRC l) (s.cname l),
       .nack (s.rd LegMix.MIX_SSRC l) (s.rd Src.SSRC src) (due.map (fun m => m.1 % 65536))] z) :=
  ⟨(talking.srcUpd 30 (fun x => { x with missing := [(70005, 0, false), (70004, 0, true)] }) : State), (30 : Nat), (7 : Nat), ({ ssrc := 55 } : StreamX), ([(70005, 0, false)] : List (Nat × Nat × Bool)),
   (by decide +kernel), (by decide +kernel), (by decide +kernel), (by decide +kernel), ⟨by decide +kernel, by decide +kernel, by decide +kernel, ⟨by decide +kernel, by decide +kernel, by decide +kernel⟩, by decide +kernel, by decide +kernel, by decide +kernel⟩⟩

theorem test_meets_refreshRequestSend : ∃ (s : State) (src : Nat) (l : Nat) (z : StreamX),
    (s.running = true) ∧
    (s.rd Src.STATE src = 1 ∧ s.rd Src.LEG src = l ∧ l ≠ 0xFFFFFFFF ∧ s.rd Leg.STATE l = 2) ∧
    ((s.srcX src).refreshPend = true ∧ (s.srcX src).refreshFir = false ∧ (s.srcX src).refreshAt = none) ∧
    (s.RtcpGoes l [.rr (s.rd LegMix.MIX_SSRC l) [], .sdes (s.rd LegMix.MIX_SSRC l) (s.cname l),
       .pli (s.rd LegMix.MIX_SSRC l) (s.rd Src.SSRC src)] z) :=
  ⟨(talking.srcUpd 30 (fun x => { x with refreshPend := true }) : State), (30 : Nat), (7 : Nat), ({ ssrc := 55 } : StreamX),
   (by decide +kernel), (by decide +kernel), (by decide +kernel), ⟨by decide +kernel, by decide +kernel, by decide +kernel, ⟨by decide +kernel, by decide +kernel, by decide +kernel⟩, by decide +kernel, by decide +kernel, by decide +kernel⟩⟩

theorem test_meets_refreshRequestSendEnc : ∃ (s : State) (src : Nat) (c : Nat),
    (s.running = true) ∧
    (s.rd Src.STATE src = 1 ∧ s.rd Src.LEG src = 0xFFFFFFFF) ∧
    ((s.srcX src).refreshPend = true ∧ (s.srcX src).refreshAt = some c ∧ s.rd SrcFwd.PLI_MIN src * cycMs ≤ s.since c) :=
  ⟨({ (put [(Src.STATE, 30, 1), (Src.LEG, 30, 0xFFFFFFFF)] awake).srcUpd 30 (fun x => { x with refreshPend := true, refreshAt := some 0 }) with phys := 10 * cycS } : State), (30 : Nat), (0 : Nat),
   (by decide +kernel), (by decide +kernel), (by decide +kernel)⟩

theorem test_meets_egressPick : ∃ (s : State) (p : Fin 16) (k : Nat) (l : Nat) (x : CopyX) (rest : List CopyX),
    (s.running = true) ∧
    (s.on Lp.ENABLE p = true) ∧
    (k < 4 ∧ (∀ j < k, s.pickLeg p j = none) ∧ s.pickLeg p k = some l) ∧
    ((s.legEg l).q k = x :: rest ∧ s.rd Shp.GROUP l = 0xFFFF) :=
  ⟨((put [(Egr.QLEVEL, 0, 200), (Shp.QBYTES, 7, 200)] talking).legEgSet 7 { q0 := [copy1], sh := ShX.full 0 10000 32768 } : State), (0 : Fin 16), (0 : Nat), (7 : Nat), (copy1 : CopyX), ([] : List CopyX),
   (by decide +kernel), (by decide +kernel), (by decide +kernel), (by decide +kernel)⟩

theorem test_meets_fretDataSend : ∃ (s : State) (f : Fin 2) (d : DataX) (rest : List DataX) (z : StreamX),
    (s.running = true) ∧
    ((s.fPort f).data = d :: rest) ∧
    (d.copy.isRtcp = false) ∧
    (s.CtxServes (txCtx d.leg)) ∧
    ((s.ctxX (txCtx d.leg)).stream? d.copy.ssrc = some z) :=
  ⟨(talking.fPortUpd 0 (fun x => { x with data := [⟨0, 1, 0, 0, 3, 0, 0, 0, 7, copy1⟩] }) : State), (0 : Fin 2), (⟨0, 1, 0, 0, 3, 0, 0, 0, 7, copy1⟩ : DataX), ([] : List DataX), ({ ssrc := 55 } : StreamX),
   (by decide +kernel), (by decide +kernel), (by decide +kernel), ⟨by decide +kernel, by decide +kernel, by decide +kernel⟩, (by decide +kernel)⟩

theorem test_meets_legActivateShaper : ∃ (s : State) (h : Nat) (l : Nat),
    (s.Accepts h Leg.CMD l 2) ∧
    (s.rd Leg.STATE l = 1) ∧
    (s.rd Leg.KEYS l = 3) ∧
    (s.tupleTaken l = false ∧ s.oneVersion l = true ∧ s.radio l = false) :=
  ⟨(put [(Leg.STATE, 7, 1), (Leg.KEYS, 7, 3)] { awake with clk := secU } : State), (0 : Nat), (7 : Nat),
   (accepts_of (by decide +kernel)), (by decide +kernel), (by decide +kernel), (by decide +kernel)⟩

theorem test_meets_legGroupOpen : ∃ (s : State) (h : Nat) (g : Nat),
    (s.Accepts h LegGrp.CMD g 1) ∧
    (s.rd LegGrp.STATE g = 0) :=
  ⟨(awake : State), (0 : Nat), (9 : Nat),
   (accepts_of (by decide +kernel)), (by decide +kernel)⟩

theorem test_meets_legGroupClose : ∃ (s : State) (h : Nat) (g : Nat),
    (s.Accepts h LegGrp.CMD g 2) ∧
    (s.groupSeen h g = true) ∧
    (s.rd LegGrp.STATE g = 1 ∧ s.rd LegGrp.LEGS g = 0) :=
  ⟨(put [(LegGrp.STATE, 9, 1)] awake : State), (0 : Nat), (9 : Nat),
   (accepts_of (by decide +kernel)), (by decide +kernel), (by decide +kernel)⟩

theorem test_meets_groupWrite : ∃ (s : State) (h : Nat) (l : Nat) (g : Nat),
    (s.Accepts h Shp.GROUP l g) ∧
    (g < 4096 ∧ s.groupSeen h g = true) ∧
    (s.rd Leg.STATE l = 1 ∨ s.rd Leg.STATE l = 2) ∧
    (s.rd LegGrp.STATE g = 1 ∧ s.rd LegGrp.PORT g = s.rd Leg.PORT l) ∧
    (s.rd Shp.GROUP l = 0xFFFF) :=
  ⟨(put [(Leg.STATE, 7, 1), (LegGrp.STATE, 9, 1)] awake : State), (0 : Nat), (7 : Nat), (9 : Nat),
   (accepts_of (by decide +kernel)), (by decide +kernel), (by decide +kernel), (by decide +kernel), (by decide +kernel)⟩

theorem test_meets_groupWriteLeave : ∃ (s : State) (h : Nat) (l : Nat) (g : Nat),
    (s.Accepts h Shp.GROUP l 0xFFFF) ∧
    (s.rd Leg.STATE l = 1 ∨ s.rd Leg.STATE l = 2) ∧
    (s.rd Shp.GROUP l = g ∧ g ≠ 0xFFFF) :=
  ⟨(put [(Leg.STATE, 7, 1), (LegGrp.STATE, 9, 1), (Shp.GROUP, 7, 9), (LegGrp.LEGS, 9, 1)] awake : State), (0 : Nat), (7 : Nat), (9 : Nat),
   (accepts_of (by decide +kernel)), (by decide +kernel), (by decide +kernel)⟩

theorem test_meets_spliceGroupOpen : ∃ (s : State) (h : Nat) (g : Nat),
    (s.Accepts h Splice.CMD g 1) ∧
    (rateOk (s.rd Splice.RATE_N g) (s.rd Splice.RATE_D g) = true ∧ s.rd Splice.PHASE g < s.rd Splice.PERIOD g) ∧
    (s.rd Splice.STATE g = 0 ∧ s.hbmUp = true) :=
  ⟨(awake : State), (0 : Nat), (5 : Nat),
   (accepts_of (by decide +kernel)), (by decide +kernel), (by decide +kernel)⟩

theorem test_meets_spliceGroupClose : ∃ (s : State) (h : Nat) (g : Nat),
    (s.Accepts h Splice.CMD g 2) ∧
    (s.rd Splice.STATE g = 1 ∧ s.rd Splice.MEMBERS g = 0) :=
  ⟨(put [(Splice.STATE, 5, 1)] awake : State), (0 : Nat), (5 : Nat),
   (accepts_of (by decide +kernel)), (by decide +kernel)⟩

theorem test_meets_mosaicOpen : ∃ (s : State) (h : Nat) (m : Nat) (g : Nat) (src : Nat) (w : Nat) (v : Nat),
    (s.Accepts h Mos.CMD m 1) ∧
    (s.rd Mos.STATE m = 0 ∧ s.hbmUp = true) ∧
    (g = s.rd Mos.GROUP m ∧ g < 255 ∧ s.splOwned h Splice.STATE Splice.OWNER g = true ∧ s.rd Splice.STATE g = 1) ∧
    (src = s.rd Mos.OUT_SOURCE m ∧ src < 262144 ∧ s.reaches .src h src = true) ∧
    (s.rd Src.STATE src = 1 ∧ s.rd Src.MEDIA src = 1 ∧ s.rd Src.LEG src = 0xFFFFFFFF) ∧
    ((s.elemsWith Enc.OUT_SOURCE src).any (fun e => s.rd Enc.STATE e != 0) = false ∧ s.mosaicOf src = none) ∧
    ((s.mosPos m).all (fun x => x == posEmpty || s.mayTile g x) = true) ∧
    (w = s.rd Mos.COLS m * s.rd Splice.TILE_W g ∧ w ≤ 7680 ∧ v = s.rd Mos.ROWS m * s.rd Splice.TILE_H g ∧ v ≤ 4320) :=
  ⟨(put [(Splice.STATE, 5, 1), (Mos.GROUP, 3, 5), (Mos.OUT_SOURCE, 3, 30), (Src.STATE, 30, 1), (Src.MEDIA, 30, 1), (Src.LEG, 30, 0xFFFFFFFF)] awake : State), (0 : Nat), (3 : Nat), (5 : Nat), (30 : Nat), (awake.rd Mos.COLS 3 * awake.rd Splice.TILE_W 5 : Nat), (awake.rd Mos.ROWS 3 * awake.rd Splice.TILE_H 5 : Nat),
   (accepts_of (by decide +kernel)), (by decide +kernel), (by decide +kernel), (by decide +kernel), (by decide +kernel), (by decide +kernel), (by decide +kernel), (by decide +kernel)⟩

theorem test_meets_mosaicClose : ∃ (s : State) (h : Nat) (m : Nat),
    (s.Accepts h Mos.CMD m 2) ∧
    (s.rd Mos.STATE m = 1 ∧ s.subsOfSource (s.rd Mos.OUT_SOURCE m) = []) :=
  ⟨(put [(Mos.STATE, 3, 1), (MosPos.SOURCE, 195, 4)] awake : State), (0 : Nat), (3 : Nat),
   (accepts_of (by decide +kernel)), (by decide +kernel)⟩

theorem test_meets_mosaicPictureEmit : ∃ (s : State) (m : Fin 8192) (c : Nat) (g : Nat) (out : Nat) (i : Nat),
    (s.running = true) ∧
    (s.rd Mos.STATE m = 1) ∧
    ((s.mosX m).since = some c ∧ 8 * cycMs ≤ s.since c) ∧
    (g = s.rd Mos.GROUP m ∧ out = s.rd Mos.OUT_SOURCE m ∧ s.rd Src.STATE out = 1) ∧
    (i = temporalId (s.groupTemporal g) (s.mosX m).tick) ∧
    (s.mosaicUp = true) :=
  ⟨({ ((put [(Mos.STATE, 3, 1), (Mos.GROUP, 3, 5), (Mos.OUT_SOURCE, 3, 30), (Src.STATE, 30, 1), (Splice.STATE, 5, 1)] (((awake.setPart netPart 2).setPart schedPart 2).setPart (vePart 0) 2)).mosUpd 3 (fun x => { x with tick := 8, since := some 0 })) with phys := 9 * cycMs } : State), (3 : Fin 8192), (0 : Nat), (5 : Nat), (30 : Nat), (0 : Nat),
   (by decide +kernel), (by decide +kernel), (by decide +kernel), (by decide +kernel), (by decide +kernel), (by decide +kernel)⟩

end Sys2Proof.Tests
end

