-- ==== Sys2Proof/Tests/MeetsG.lean ====
section
/-! SUPPORT. Witnesses, part G: for each statement with hypotheses, a state and operands that meet all of them. -/

namespace Sys2Proof.Tests

set_option linter.unusedVariables false
set_option Elab.async false

open Sys2Proof Sys2Proof.Machine

theorem test_meets_query : ∃ (s : State) (f : Fin 2) (m : Bytes) (n : Nat) (slot : Nat) (qid : Nat) (ue : Nat) (b : Nat),
    (s.running = true) ∧
    (s.on Fret.ENABLE f = true ∧ s.rd Fret.PEER f = 1) ∧
    (fretCheck m = none ∧ byteAt m 1 = 1 ∧ byteAt m 14 = 1 ∧ (queryEntry m 0).bad = false) ∧
    (slot = beAt m 8 4 ∧ qid = beAt m 12 2 ∧ ue = beAt m 16 4 ∧ b = byteAt m 20) ∧
    ((s.fPort f).answers.find? (fun a => a.1 == qid && a.2.1 == slot) = none) ∧
    (s.slotValid f slot = true ∧ (s.ns : Int) < s.slotStart f slot s.ns ∧
       s.slotStart f slot s.ns ≤ (s.ns : Int) + (s.rd Fret.MAX_LEAD f * 1000 : Nat)) ∧
    (s.binding f ue b = none) :=
  ⟨({ put [(Leg.RADIO_UE, 7, 8)] radioed with clk := 900 * usU } : State), (0 : Fin 2), (queryMsg : Bytes), (100 : Nat), (2 : Nat), (77 : Nat), (9 : Nat), (3 : Nat),
   (by decide +kernel), (by decide +kernel), (by decide +kernel), (by decide +kernel), (by decide +kernel), (by decide +kernel), (by decide +kernel)⟩

theorem test_meets_queryStale : ∃ (s : State) (f : Fin 2) (m : Bytes) (n : Nat) (slot : Nat) (qid : Nat) (ue : Nat) (b : Nat),
    (s.running = true) ∧
    (s.on Fret.ENABLE f = true ∧ s.rd Fret.PEER f = 1) ∧
    (fretCheck m = none ∧ byteAt m 1 = 1 ∧ byteAt m 14 = 1) ∧
    (slot = beAt m 8 4 ∧ qid = beAt m 12 2 ∧ ue = beAt m 16 4 ∧ b = byteAt m 20) ∧
    ((s.fPort f).answers.find? (fun a => a.1 == qid && a.2.1 == slot) = none) ∧
    (s.slotValid f slot = true ∧ s.slotStart f slot s.ns ≤ (s.ns : Int)) :=
  ⟨({ radioed with clk := 3000 * usU } : State), (0 : Fin 2), (queryMsg : Bytes), (100 : Nat), (2 : Nat), (77 : Nat), (9 : Nat), (3 : Nat),
   (by decide +kernel), (by decide +kernel), (by decide +kernel), (by decide +kernel), (by decide +kernel), (by decide +kernel)⟩

theorem test_meets_queryCommit : ∃ (s : State) (f : Fin 2) (m : Bytes) (n : Nat) (slot : Nat) (qid : Nat) (ue : Nat) (b : Nat) (l : Nat) (i : RItem),
    (s.running = true) ∧
    (s.on Fret.ENABLE f = true ∧ s.rd Fret.PEER f = 1) ∧
    (fretCheck m = none ∧ byteAt m 1 = 1 ∧ byteAt m 14 = 1 ∧ (queryEntry m 0).bad = false) ∧
    (slot = beAt m 8 4 ∧ qid = beAt m 12 2 ∧ ue = beAt m 16 4 ∧ b = byteAt m 20) ∧
    ((s.fPort f).answers.find? (fun a => a.1 == qid && a.2.1 == slot) = none) ∧
    (s.slotValid f slot = true ∧ (s.ns : Int) < s.slotStart f slot s.ns ∧
       s.slotStart f slot s.ns ≤ (s.ns : Int) + (s.rd Fret.MAX_LEAD f * 1000 : Nat)) ∧
    (s.binding f ue b = some l ∧ s.rd FLeg.FSTATE l = 1) ∧
    (s.fLeg l = { audio := [i], win := (1, 0, 0) } ∧ i.copy.leg = l) ∧
    (s.undo? l = none) ∧
    (expired i.dl (dlUnits (s.slotStart f slot s.ns).toNat) = false ∧ i.size + s.rd Fret.PKT_OVH f ≤ (queryEntry m 0).budget) :=
  ⟨({ (put [(FLeg.QBYTES, 7, 200)] radioed).fLegUpd 7 (fun x => { x with audio := [item1], win := (1, 0, 0) }) with clk := 900 * usU } : State), (0 : Fin 2), (queryMsg : Bytes), (100 : Nat), (2 : Nat), (77 : Nat), (9 : Nat), (3 : Nat), (7 : Nat), (item1 : RItem),
   (by decide +kernel), (by decide +kernel), (by decide +kernel), (by decide +kernel), (by decide +kernel), (by decide +kernel), (by decide +kernel), (by decide +kernel), (by decide +kernel), (by decide +kernel)⟩

theorem test_meets_link : ∃ (s : State) (f : Fin 2) (m : Bytes) (l : Nat),
    (s.running = true) ∧
    (s.on Fret.ENABLE f = true ∧ s.rd Fret.PEER f = 1) ∧
    (fretCheck m = none ∧ byteAt m 1 = 4 ∧ beAt m 12 2 = 1) ∧
    (s.binding f (beAt m 16 4) (byteAt m 20) = some l) :=
  ⟨(radioed : State), (0 : Fin 2), (linkMsg : Bytes), (7 : Nat),
   (by decide +kernel), (by decide +kernel), (by decide +kernel), (by decide +kernel)⟩

theorem test_meets_linkUnknown : ∃ (s : State) (f : Fin 2) (m : Bytes),
    (s.running = true) ∧
    (s.on Fret.ENABLE f = true ∧ s.rd Fret.PEER f = 1) ∧
    (fretCheck m = none ∧ byteAt m 1 = 4 ∧ beAt m 12 2 = 1) ∧
    (s.binding f (beAt m 16 4) (byteAt m 20) = none) :=
  ⟨(put [(Leg.RADIO_UE, 7, 8)] radioed : State), (0 : Fin 2), (linkMsg : Bytes),
   (by decide +kernel), (by decide +kernel), (by decide +kernel), (by decide +kernel)⟩

theorem test_meets_linkWindowEnd : ∃ (s : State) (l : Nat) (f : Nat) (c : Nat) (r : Nat),
    (s.running = true) ∧
    (s.elemsWith Leg.STATE 2 = [l] ∧ s.radio l = true ∧ f = s.rd Leg.PORT l) ∧
    (s.ns / 100000000 ≠ s.fret.window) ∧
    ((s.fLeg l).linkAt = some c ∧ s.since c < s.rd Fret.LINK_TIMEOUT f * cycMs ∧ (s.fLeg l).outage = false) ∧
    ((s.fLeg l).rates ≠ [] ∧ r = sumOf (s.fLeg l).rates / (s.fLeg l).rates.length) :=
  ⟨({ radioed.fLegUpd 7 (fun x => { x with rates := [4000, 6000], linkAt := some 0 }) with clk := 100000 * usU } : State), (7 : Nat), (0 : Nat), (0 : Nat), (5000 : Nat),
   (by decide +kernel), (by decide +kernel), (by decide +kernel), (by decide +kernel), (by decide +kernel)⟩

theorem test_meets_linkWindowEndWired : ∃ (s : State) (l : Nat),
    (s.running = true) ∧
    (s.elemsWith Leg.STATE 2 = [l] ∧ s.radio l = false) ∧
    (s.ns / 100000000 ≠ s.fret.window) ∧
    (s.rd Line.FB_MODE l = 0) :=
  ⟨({ put [(Leg.STATE, 7, 2), (Line.FB_MODE, 7, 0)] awake with clk := 100000 * usU } : State), (7 : Nat),
   (by decide +kernel), (by decide +kernel), (by decide +kernel), (by decide +kernel)⟩

theorem test_meets_slot : ∃ (s : State) (f : Fin 2) (m : Bytes),
    (s.running = true) ∧
    (s.on Fret.ENABLE f = true ∧ s.rd Fret.PEER f = 1) ∧
    (fretCheck m = none ∧ byteAt m 1 = 6) ∧
    (s.slotValid f (beAt m 8 4) = true ∧ byteAt m 12 = s.rd FSlot.MU f) ∧
    ((((ofTime80 (beAt m 14 10) / nsU : Nat) : Int) - s.slotStart f (beAt m 8 4) s.ns).natAbs ≤ s.rd Fret.SLOT_TOL f) :=
  ⟨({ radioed with clk := 1000 * usU } : State), (0 : Fin 2), (slotMsg (radioed.rd FSlot.MU 0) (radioed.slotStart 0 2 1000000).toNat : Bytes),
   (by decide +kernel), (by decide +kernel), (by decide +kernel), (by decide +kernel), (by decide +kernel)⟩

theorem test_meets_slotMismatch : ∃ (s : State) (f : Fin 2) (m : Bytes) (d : Int),
    (s.running = true ∧ s.hbmUp = true) ∧
    (s.on Fret.ENABLE f = true ∧ s.rd Fret.PEER f = 1) ∧
    (fretCheck m = none ∧ byteAt m 1 = 6) ∧
    (d = ((ofTime80 (beAt m 14 10) / nsU : Nat) : Int) - s.slotStart f (beAt m 8 4) s.ns ∧ s.rd Fret.SLOT_TOL f < d.natAbs) ∧
    ((s.fPort f).mismatchAt = none) :=
  ⟨({ radioed with clk := 1000 * usU } : State), (0 : Fin 2), (slotMsg 0 0 : Bytes), (0 - radioed.slotStart 0 2 1000000 : Int),
   (by decide +kernel), (by decide +kernel), (by decide +kernel), (by decide +kernel), (by decide +kernel)⟩

theorem test_meets_peerTimeout : ∃ (s : State) (f : Fin 2),
    (s.running = true ∧ s.hbmUp = true) ∧
    (s.rd Fret.PEER f = 1 ∧ s.rd Fret.PEER_TIMEOUT f * cycMs ≤ s.since (s.fPort f).heardAt) :=
  ⟨({ radioed with phys := cycS } : State), (0 : Fin 2),
   (by decide +kernel), (by decide +kernel)⟩

theorem test_meets_hintRefreshExpiry : ∃ (s : State) (f : Fin 2) (e : Nat × Nat × Nat),
    (s.running = true) ∧
    (s.hintOn f = true ∧ (s.fPort f).hintSent = true ∧ s.rd Fret.HINT_REFRESH f * cycMs ≤ s.since (s.fPort f).hintAt) ∧
    (s.talkerSet f = [e]) :=
  ⟨({ ((put [(Fret.HINT_ENABLE, 0, 1), (Conf.STATE, 5, 1), (Src.STATE, 30, 1), (Src.LEG, 30, 7)] radioed).confUpd 5 (fun x => { x with talkers := [30] })).fPortUpd 0 (fun x => { x with hintSent := true }) with phys := 10 * cycS } : State), (0 : Fin 2), ((7, 0, 30) : Nat × Nat × Nat),
   (by decide +kernel), (by decide +kernel), (by decide +kernel)⟩

theorem test_meets_bearerSuspend : ∃ (s : State) (f : Fin 2) (m : Bytes) (l : Nat),
    (s.running = true) ∧
    (s.on Fret.ENABLE f = true ∧ s.rd Fret.PEER f = 1) ∧
    (fretCheck m = none ∧ byteAt m 1 = 7 ∧ byteAt m 8 = 1 ∧ byteAt m 16 = 1) ∧
    (beAt m 18 2 = 0 ∧ beAt m 26 2 = 0 ∧ beAt m 33 3 = 0) ∧
    (s.binding f (beAt m 20 4) (byteAt m 24) = some l ∧ s.rd FLeg.FSTATE l = 1) :=
  ⟨(radioed : State), (0 : Fin 2), (bearerMsg 1 0 : Bytes), (7 : Nat),
   (by decide +kernel), (by decide +kernel), (by decide +kernel), (by decide +kernel), (by decide +kernel)⟩

theorem test_meets_bearerResume : ∃ (s : State) (f : Fin 2) (m : Bytes) (l : Nat),
    (s.running = true) ∧
    (s.on Fret.ENABLE f = true ∧ s.rd Fret.PEER f = 1) ∧
    (fretCheck m = none ∧ byteAt m 1 = 7 ∧ byteAt m 8 = 1 ∧ byteAt m 16 = 2) ∧
    (beAt m 18 2 = 0 ∧ beAt m 26 2 = 0 ∧ beAt m 33 3 = 0) ∧
    (s.binding f (beAt m 20 4) (byteAt m 24) = some l ∧ s.rd FLeg.FSTATE l = 2) :=
  ⟨(put [(FLeg.FSTATE, 7, 2)] radioed : State), (0 : Fin 2), (bearerMsg 2 0 : Bytes), (7 : Nat),
   (by decide +kernel), (by decide +kernel), (by decide +kernel), (by decide +kernel), (by decide +kernel)⟩

theorem test_meets_bearerRemap : ∃ (s : State) (f : Fin 2) (m : Bytes) (l : Nat) (ue : Nat) (b : Nat),
    (s.running = true ∧ s.hbmUp = true) ∧
    (s.on Fret.ENABLE f = true ∧ s.rd Fret.PEER f = 1) ∧
    (fretCheck m = none ∧ byteAt m 1 = 7 ∧ byteAt m 8 = 1 ∧ byteAt m 16 = 3) ∧
    (beAt m 18 2 = 0 ∧ beAt m 26 2 = 0 ∧ beAt m 33 3 = 0) ∧
    (s.binding f (beAt m 20 4) (byteAt m 24) = some l) ∧
    (byteAt m 25 = f ∧ ue = beAt m 28 4 ∧ b = byteAt m 32 ∧ b ≤ 31) ∧
    (s.binding f ue b = none) :=
  ⟨(radioed : State), (0 : Fin 2), (bearerMsg 3 12 : Bytes), (7 : Nat), (12 : Nat), (0 : Nat),
   (by decide +kernel), (by decide +kernel), (by decide +kernel), (by decide +kernel), (by decide +kernel), (by decide +kernel), (by decide +kernel)⟩

theorem test_meets_bearerRelease : ∃ (s : State) (f : Fin 2) (m : Bytes) (l : Nat),
    (s.running = true ∧ s.hbmUp = true) ∧
    (s.on Fret.ENABLE f = true ∧ s.rd Fret.PEER f = 1) ∧
    (fretCheck m = none ∧ byteAt m 1 = 7 ∧ byteAt m 8 = 1 ∧ byteAt m 16 = 4) ∧
    (beAt m 18 2 = 0 ∧ beAt m 26 2 = 0 ∧ beAt m 33 3 = 0) ∧
    (s.binding f (beAt m 20 4) (byteAt m 24) = some l ∧ s.rd FLeg.FSTATE l ≠ 3) :=
  ⟨(radioed : State), (0 : Fin 2), (bearerMsg 4 0 : Bytes), (7 : Nat),
   (by decide +kernel), (by decide +kernel), (by decide +kernel), (by decide +kernel), (by decide +kernel)⟩

theorem test_meets_radioUeWrite : ∃ (s : State) (h : Nat) (l : Nat) (ue : Nat),
    (s.Accepts h Leg.RADIO_UE l ue) ∧
    (s.hbmUp = true ∧ s.rd Leg.STATE l = 2 ∧ s.radio l = true) ∧
    (s.binding (s.rd Leg.PORT l) ue (s.rd FLeg.BEARER l) = none) ∧
    (s.rd Leg.RADIO_UE l ≠ ue) :=
  ⟨(radioed : State), (0 : Nat), (7 : Nat), (12 : Nat),
   (accepts_of (by decide +kernel)), (by decide +kernel), (by decide +kernel), (by decide +kernel)⟩

theorem test_meets_radioUeWriteOpen : ∃ (s : State) (h : Nat) (l : Nat) (ue : Nat),
    (s.Accepts h Leg.RADIO_UE l ue) ∧
    (s.rd Leg.STATE l = 1) :=
  ⟨(put [(Leg.STATE, 7, 1)] awake : State), (0 : Nat), (7 : Nat), (12 : Nat),
   (accepts_of (by decide +kernel)), (by decide +kernel)⟩

theorem test_meets_summaryRefill : ∃ (s : State) (l : Nat),
    (s.running = true) ∧
    ((s.fLeg l).video = []) :=
  ⟨(radioed.fLegUpd 7 (fun x => { x with audio := [item1], stale := true }) : State), (7 : Nat),
   (by decide +kernel), (by decide +kernel)⟩

theorem test_meets_queueDeadlineAbandon : ∃ (s : State) (l : Nat) (v : VItem),
    (s.running = true) ∧
    ((s.fLeg l).video = [v] ∧ v.complete = false ∧ expired v.dl (dlUnits s.ns) = true) :=
  ⟨({ (put [(FLeg.QBYTES, 7, 500)] radioed).fLegUpd 7 (fun x => { x with video := [⟨40, 30, 0, 0, 1, 0, true, [], false, [], 500, false, 100⟩] }) with clk := 100 * 1000 * usU } : State), (7 : Nat), (⟨40, 30, 0, 0, 1, 0, true, [], false, [], 500, false, 100⟩ : VItem),
   (by decide +kernel), (by decide +kernel)⟩

theorem test_meets_fretEnable : ∃ (s : State) (h : Nat) (f : Nat),
    (s.Accepts h Fret.ENABLE f 1) ∧
    (s.on Clk.TIME_VALID 0 = true ∧ s.hbmUp = true ∧ s.on Fret.ENABLE f = false) :=
  ⟨(put [(Clk.TIME_VALID, 0, 1)] awake : State), (0 : Nat), (0 : Nat),
   (accepts_of (by decide +kernel)), (by decide +kernel)⟩

theorem test_meets_fretDisable : ∃ (s : State) (h : Nat) (f : Nat),
    s.Accepts h Fret.ENABLE f 0 :=
  ⟨(radioed : State), (0 : Nat), (0 : Nat),
   (accepts_of (by decide +kernel))⟩

end Sys2Proof.Tests
end

