-- ==== Sys2Proof/Tests/MeetsH.lean ====
section
/-! SUPPORT. Witnesses, part H: for each statement with hypotheses, a state and operands that meet all of them. -/

namespace Sys2Proof.Tests

set_option linter.unusedVariables false
set_option Elab.async false

open Sys2Proof Sys2Proof.Machine

theorem test_meets_install : ∃ (s : State) (h : Nat) (c : Nat) (b : Bytes) (k : KeySet),
    (s.Accepts h Ctx.INSTALL c 0) ∧
    (s.installCheck h c b none = .ok k) :=
  ⟨(installable : State), (0 : Nat), (14 : Nat), (blob1 : Bytes), (keySet1 : KeySet),
   (accepts_of (by decide +kernel)), test_blob_installs⟩

theorem test_meets_erase : ∃ (s : State) (h : Nat) (c : Nat),
    (s.Accepts h Ctx.ERASE c 1) ∧
    (s.rd Ctx.STATE c ≠ 0) :=
  ⟨(listening : State), (0 : Nat), (14 : Nat),
   (accepts_of (by decide +kernel)), (by decide +kernel)⟩

theorem test_meets_prevHoldExpiry : ∃ (s : State) (c : Nat) (e : Nat) (k : KeySet),
    (s.running = true) ∧
    ((s.ctxX c).prev = some (k, e) ∧ e ≤ s.phys) :=
  ⟨({ listening.ctxSet 14 { keys := some keySet1, prev := some (keySet1, 5) } with phys := 6 } : State), (14 : Nat), (5 : Nat), (keySet1 : KeySet),
   (by decide +kernel), (by decide +kernel)⟩

theorem test_meets_kekKeyWrite : ∃ (s : State) (h : Nat) (k : Nat) (v : Nat),
    (s.Accepts h Kek.KEY k v) ∧
    (s.MramRoom) ∧
    (s.rd Kek.LEN k = 16 → v < 2 ^ 128) :=
  ⟨(put [(Ident.LC_STATE, 0, 3)] awake : State), (0 : Nat), (3 : Nat), (77 : Nat),
   (accepts_of (by decide +kernel)), (room_of (by decide +kernel)), (by decide +kernel)⟩

theorem test_meets_kekClear : ∃ (s : State) (h : Nat) (k : Nat),
    s.Accepts h Kek.CLEAR k 1 :=
  ⟨(put [(Ident.LC_STATE, 0, 3), (Kek.STATE, 3, 1)] awake : State), (0 : Nat), (3 : Nat),
   (accepts_of (by decide +kernel))⟩

theorem test_meets_zeroise : ∃ (s : State) (h : Nat),
    (s.Accepts h Alarm.ZEROISE 0 1) ∧
    (s.ctl.after = [] ∧ s.ctl.held.any HeldX.installs = false) :=
  ⟨(listening : State), (0 : Nat),
   (accepts_of (by decide +kernel)), (by decide +kernel)⟩

theorem test_meets_secAlarm : ∃ (s : State) (c : Nat),
    s.rd Ident.LC_STATE 0 = 3 ∧ 0 < c ∧ c < 64 :=
  ⟨(put [(Ident.LC_STATE, 0, 3)] listening : State), (2 : Nat),
   (by decide +kernel)⟩

theorem test_meets_audioBlockTick : ∃ (s : State) (c : Nat) (q : Nat) (k : Nat) (din : List (Nat × List PinBit)) (aes : List (Nat × List AesFrame)) (late : List (Nat × Nat)),
    (s.running = true) ∧
    (s.tim.block.due blockGrid s.ns = true ∧ k = s.tim.block.next) ∧
    (s.elemsWith Conf.STATE 1 = [c] ∧ s.members c = [] ∧ s.on Mix.SILENT c = false) ∧
    (s.sch.items = [] ∧ s.sch.held = [] ∧ s.mixLegs = [] ∧ s.aud.graphs = [] ∧ s.tim.block.skipped = 0) ∧
    (q < 16 ∧ s.rd Sap.STATE q = 3) :=
  ⟨({ put [(Conf.STATE, 5, 1), (Sap.STATE, 3, 3)] awake with clk := 5 * cycS * usU } : State), (5 : Nat), (3 : Nat), (awake.tim.block.next : Nat), ([] : List (Nat × List PinBit)), ([] : List (Nat × List AesFrame)), ([] : List (Nat × Nat)),
   (by decide +kernel), (by decide +kernel), (by decide +kernel), (by decide +kernel), (by decide +kernel)⟩

theorem test_meets_silentEntry : ∃ (s : State) (c : Nat),
    (s.running = true) ∧
    (s.rd Conf.STATE c = 1 ∧ s.on Mix.SILENT c = false ∧ s.rd Mix.SIL_MS c ≤ (s.confX c).quiet) :=
  ⟨((put [(Conf.STATE, 5, 1)] awake).confUpd 5 (fun x => { x with quiet := 100000 }) : State), (5 : Nat),
   (by decide +kernel), (by decide +kernel)⟩

theorem test_meets_graphBlob : ∃ (s : State) (h : Nat) (g : Nat) (b : Bytes),
    (s.Accepts h Graph.BLOB g 0) ∧
    (b.length ≤ 8192 ∧ s.rd Graph.STATE g = 0 ∧ s.on Graph.RUNNING g = false ∧ 2 ^ 20 ≤ s.poolFree) :=
  ⟨(awake : State), (0 : Nat), (5 : Nat), ([1, 2] : Bytes),
   (accepts_of (by decide +kernel)), (by decide +kernel)⟩

theorem test_meets_graphBlobMore : ∃ (s : State) (h : Nat) (g : Nat) (b : Bytes),
    (s.Accepts h Graph.BLOB g 0) ∧
    (b.length ≤ 8192 ∧ s.rd Graph.STATE g = 1) :=
  ⟨(put [(Graph.STATE, 5, 1)] awake : State), (0 : Nat), (5 : Nat), ([1, 2] : Bytes),
   (accepts_of (by decide +kernel)), (by decide +kernel)⟩

theorem test_meets_compile : ∃ (s : State) (h : Nat) (g : Nat),
    (s.Accepts h Graph.CMD g 1) ∧
    (s.rd Graph.STATE g = 1 ∧ (s.elemsWith Graph.STATE 2).length < 4) :=
  ⟨(put [(Graph.STATE, 5, 1)] awake : State), (0 : Nat), (5 : Nat),
   (accepts_of (by decide +kernel)), (by decide +kernel)⟩

theorem test_meets_compileDone : ∃ (s : State) (g : Fin 1024) (p : Prog),
    (s.running = true) ∧
    (s.rd Graph.STATE g = 2) ∧
    ((s.kerady g (s.rd Graph.OWNER g)).1 = .ok p) :=
  ⟨(staged graphBytes : State), (5 : Fin 1024), (⟨false, (readBlob graphBytes).nodes, (readBlob graphBytes).edges, [0, 1, 2], false, [], 7, [(0, 2, 48, 48, 2), (1, 2, 48, 48, 2)]⟩ : Prog),
   (by decide +kernel), (by decide +kernel), (ok_of (by decide +kernel))⟩

theorem test_meets_compileDoneFailed : ∃ (s : State) (g : Fin 1024) (st : Status) (d : Nat) (n : Nat),
    (s.running = true) ∧
    (s.rd Graph.STATE g = 2) ∧
    ((s.kerady g (s.rd Graph.OWNER g)).1 = .error (st, d, n)) :=
  ⟨(staged [1] : State), (5 : Fin 1024), (.eLength : Status), (1 : Nat), (0 : Nat),
   (by decide +kernel), (by decide +kernel), (err_of (by decide +kernel))⟩

theorem test_meets_run : ∃ (s : State) (h : Nat) (g : Nat) (p : Prog),
    (s.Accepts h Graph.CMD g 2) ∧
    (s.rd Graph.STATE g = 3 ∧ (s.graphX g).compiled = some p) :=
  ⟨((put [(Graph.STATE, 5, 3)] awake).graphUpd 5 (fun x => { x with compiled := some ⟨false, [], [], [], false, [], 9, []⟩ }) : State), (0 : Nat), (5 : Nat), (⟨false, [], [], [], false, [], 9, []⟩ : Prog),
   (accepts_of (by decide +kernel)), (by decide +kernel)⟩

theorem test_meets_stop : ∃ (s : State) (h : Nat) (g : Nat),
    (s.Accepts h Graph.CMD g 3) ∧
    (s.on Graph.RUNNING g = true) :=
  ⟨(put [(Graph.RUNNING, 5, 1)] awake : State), (0 : Nat), (5 : Nat),
   (accepts_of (by decide +kernel)), (by decide +kernel)⟩

theorem test_meets_graphDelete : ∃ (s : State) (h : Nat) (g : Nat),
    (s.Accepts h Graph.CMD g 4) ∧
    (s.graphOwned g = true) :=
  ⟨(put [(Graph.STATE, 5, 1), (Graph.CYCLES, 5, 3)] awake : State), (0 : Nat), (5 : Nat),
   (accepts_of (by decide +kernel)), (by decide +kernel)⟩

end Sys2Proof.Tests
end

