-- ==== Sys2Proof/Tests/MeetsI.lean ====
section
/-! SUPPORT. Witnesses, part I: for each statement with hypotheses, a state and operands that meet all of them. -/

namespace Sys2Proof.Tests

set_option linter.unusedVariables false
set_option Elab.async false

open Sys2Proof Sys2Proof.Machine

theorem test_meets_portEnable : ∃ (s : State) (h : Nat) (p : Fin 32),
    (s.Accepts h (enableCol p) (portEl p) 1) ∧
    (s.portState p = 0 ∧ s.slave p = false ∧ s.portRate p = 1) ∧
    (s.on Clk.TIME_VALID 0 = true ∧ s.hbmUp = true) :=
  ⟨(put [(Clk.TIME_VALID, 0, 1), (Sap.TX_MASK, 3, 3)] awake : State), (0 : Nat), (3 : Fin 32),
   (accepts_of (by decide +kernel)), (by decide +kernel), (by decide +kernel)⟩

theorem test_meets_portEnableSlave : ∃ (s : State) (h : Nat) (p : Fin 32),
    (s.Accepts h (enableCol p) (portEl p) 1) ∧
    (s.portState p = 0 ∧ s.slave p = true ∧ s.hbmUp = true) :=
  ⟨(awake : State), (0 : Nat), (17 : Fin 32),
   (accepts_of (by decide +kernel)), (by decide +kernel)⟩

theorem test_meets_portDisableAudio : ∃ (s : State) (h : Nat) (p : Fin 32) (n : Nat),
    (s.Accepts h (enableCol p) (portEl p) 0) ∧
    (s.portState p = 3 ∧ s.slave p = false ∧ s.framesRun p = true) :=
  ⟨(put [(Sap.STATE, 3, 3), (Sap.ENABLE, 3, 1)] awake : State), (0 : Nat), (3 : Fin 32), (0 : Nat),
   (accepts_of (by decide +kernel)), (by decide +kernel)⟩

theorem test_meets_prerollEnd : ∃ (s : State) (p : Fin 32) (n : Nat),
    (s.running = true) ∧
    (s.portState p = 2 ∧ s.framesRun p = true ∧ (s.portX p).preAt + s.preroll p ≤ s.frameOf p n) ∧
    (p.val < 16) :=
  ⟨({ put [(Sap.STATE, 3, 2), (Sap.ENABLE, 3, 1)] awake with clk := secU } : State), (3 : Fin 32), (0 : Nat),
   (by decide +kernel), (by decide +kernel), (by decide +kernel)⟩

theorem test_meets_postrollEnd : ∃ (s : State) (p : Fin 32) (n : Nat),
    (s.running = true) ∧
    (s.portState p = 4 ∧ s.framesRun p = true ∧ (s.portX p).postAt + s.postroll p ≤ s.frameOf p n) :=
  ⟨({ put [(Sap.STATE, 3, 4)] awake with clk := secU } : State), (3 : Fin 32), (0 : Nat),
   (by decide +kernel), (by decide +kernel)⟩

theorem test_meets_maskApply : ∃ (s : State) (p : Fin 32) (n : Nat),
    (s.running = true) ∧
    (p.val < 16 ∧ (s.portX p).maskPend = true ∧ s.portState p ≠ 0 ∧ s.portState p ≠ 5) ∧
    (s.framesRun p = true ∧ (s.portX p).maskAt ≤ s.frameOf p n) :=
  ⟨({ (put [(Sap.STATE, 3, 3), (Sap.RX_MASK, 3, 3)] awake).portUpd 3 (fun x => { x with maskPend := true, maskAt := 7 }) with clk := secU } : State), (3 : Fin 32), (0 : Nat),
   (by decide +kernel), (by decide +kernel), (by decide +kernel)⟩

theorem test_meets_audAsrcLocked : ∃ (s : State) (p : Fin 32) (ratio : Nat),
    (s.running = true ∧ s.hbmUp = true) ∧
    (p.val < 16 ∧ s.slave p = true ∧ s.portState p = 1 ∧ (s.portX p).fromOff = true) ∧
    ((s.portX p).asrc = 1 ∧ (s.portX p).steady = true ∧ ratio = (s.portX p).ests.headD 0 ∧ ratioOk ratio = true) :=
  ⟨((put [(Sap.STATE, 3, 1), (Sap.ROLE, 3, 1), (Asrc.STATE, 3, 1)] awake).portUpd 3 (fun x => { x with asrc := 1, ests := List.replicate 10 (2 ^ 24) }) : State), (3 : Fin 32), (2 ^ 24 : Nat),
   (by decide +kernel), (by decide +kernel), (by decide +kernel)⟩

theorem test_meets_audClockLost : ∃ (s : State) (p : Fin 32),
    (s.running = true ∧ s.hbmUp = true) ∧
    (s.slave p = true ∧ s.portState p = 3) :=
  ⟨(put [(Sap.STATE, 3, 3), (Sap.ROLE, 3, 1)] awake : State), (3 : Fin 32),
   (by decide +kernel), (by decide +kernel)⟩

theorem test_meets_audClockRestored : ∃ (s : State) (p : Fin 32) (n : Nat),
    (s.running = true) ∧
    (s.portState p = 5) :=
  ⟨(put [(Sap.STATE, 3, 5), (Sap.ROLE, 3, 1)] awake : State), (3 : Fin 32), (12 : Nat),
   (by decide +kernel), (by decide +kernel)⟩

theorem test_meets_audFsErr : ∃ (s : State) (p : Fin 32) (off : Int),
    (s.running = true ∧ s.hbmUp = true) ∧
    (p.val < 16 ∧ s.slave p = true ∧ s.portState p = 3 ∧ 1 < off.natAbs) ∧
    ((s.portX p).fsAt = none) :=
  ⟨(put [(Sap.STATE, 3, 3), (Sap.ROLE, 3, 1)] awake : State), (3 : Fin 32), (-2 : Int),
   (by decide +kernel), (by decide +kernel), (by decide +kernel)⟩

theorem test_meets_audFsErrSmall : ∃ (s : State) (p : Fin 32) (off : Int),
    off.natAbs ≤ 1 :=
  ⟨(awake : State), (3 : Fin 32), (-1 : Int),
   (by decide +kernel)⟩

theorem test_meets_audAsrcRelock : ∃ (s : State) (p : Fin 32) (ratio : Nat),
    (s.running = true ∧ s.hbmUp = true) ∧
    (s.slave p = true ∧ s.portState p = 3 ∧ (s.portX p).asrc = 2 ∧ ratio = (s.portX p).ratio8 ∧ ratioOk ratio = true) ∧
    ((s.portX p).rates.length = 8 ∧ (s.portX p).rates.all (s.portX p).moved = true) ∧
    (((ratio : Int) - (s.portX p).ratio).natAbs * 100 ≤ 2 * (s.portX p).ratio) :=
  ⟨((put [(Sap.STATE, 3, 3), (Sap.ROLE, 3, 1), (Asrc.STATE, 3, 2), (Asrc.RATIO, 3, 16777216)] awake).portUpd 3 (fun x => { x with asrc := 2, ratio := 2 ^ 24, starts := (List.range 9).map (fun i => 2 * 10 ^ 10 - 1360000000 * i) }) : State), (3 : Fin 32), (1000000000 * 65536 * 2 ^ 24 / (48000 * 1360000000) : Nat),
   (by decide +kernel), (by decide +kernel), (by decide +kernel), (by decide +kernel)⟩

theorem test_meets_audAsrcRelockMute : ∃ (s : State) (p : Fin 32) (ratio : Nat),
    (s.running = true ∧ s.hbmUp = true) ∧
    (s.slave p = true ∧ s.portState p = 3 ∧ (s.portX p).asrc = 2 ∧ ratio = (s.portX p).ratio8 ∧ ratioOk ratio = true) ∧
    ((s.portX p).rates.length = 8 ∧ (s.portX p).rates.all (s.portX p).moved = true) ∧
    (2 * (s.portX p).ratio < ((ratio : Int) - (s.portX p).ratio).natAbs * 100) :=
  ⟨((put [(Sap.STATE, 3, 3), (Sap.ROLE, 3, 1), (Asrc.STATE, 3, 2), (Asrc.RATIO, 3, 16777216)] awake).portUpd 3 (fun x => { x with asrc := 2, ratio := 2 ^ 24, starts := (List.range 9).map (fun i => 2 * 10 ^ 10 - 1000000000 * i) }) : State), (3 : Fin 32), (1000000000 * 65536 * 2 ^ 24 / (48000 * 1000000000) : Nat),
   (by decide +kernel), (by decide +kernel), (by decide +kernel), (by decide +kernel)⟩

theorem test_meets_audRateRange : ∃ (s : State) (p : Fin 32) (ratio : Nat),
    (s.running = true ∧ s.hbmUp = true) ∧
    (s.slave p = true ∧ s.portState p = 3 ∧ ratio = (s.portX p).rates.headD (2 ^ 24) ∧ ratioOk ratio = false) ∧
    ((s.portX p).rangeHeld = false) :=
  ⟨((put [(Sap.STATE, 3, 3), (Sap.ROLE, 3, 1), (Asrc.STATE, 3, 2)] awake).portUpd 3 (fun x => { x with asrc := 2, ratio := 2 ^ 24, starts := [9000000000, 0] }) : State), (3 : Fin 32), (1000000000 * 65536 * 2 ^ 24 / (48000 * 9000000000) : Nat),
   (by decide +kernel), (by decide +kernel), (by decide +kernel)⟩

theorem test_meets_aesBlockRx : ∃ (s : State) (a : Fin 8) (csA : Nat) (csB : Nat) (uA : Nat) (uB : Nat) (rest : List (Option (Nat × Nat × Nat × Nat))),
    (s.running = true) ∧
    (s.portState (16 + a) ≠ 0 ∧ (s.portX (16 + a)).blocks = some (csA, csB, uA, uB) :: rest) ∧
    (csOk csA = true ∧ csOk csB = true) :=
  ⟨((put [(Aesi.STATE, 1, 3)] awake).portUpd 17 (fun x => { x with blocks := [some (4, 6, 1, 2)] }) : State), (1 : Fin 8), (4 : Nat), (6 : Nat), (1 : Nat), (2 : Nat), ([] : List (Option (Nat × Nat × Nat × Nat))),
   (by decide +kernel), (by decide +kernel), (by decide +kernel)⟩

theorem test_meets_aesBlockRxCrc : ∃ (s : State) (a : Fin 8) (csA : Nat) (csB : Nat) (uA : Nat) (uB : Nat) (rest : List (Option (Nat × Nat × Nat × Nat))),
    (s.running = true) ∧
    (s.portState (16 + a) ≠ 0 ∧ (s.portX (16 + a)).blocks = some (csA, csB, uA, uB) :: rest) ∧
    (csOk csA = false ∨ csOk csB = false) :=
  ⟨((put [(Aesi.STATE, 1, 3)] awake).portUpd 17 (fun x => { x with blocks := [some (5, 7, 1, 2)] }) : State), (1 : Fin 8), (5 : Nat), (7 : Nat), (1 : Nat), (2 : Nat), ([] : List (Option (Nat × Nat × Nat × Nat))),
   (by decide +kernel), (by decide +kernel), (by decide +kernel)⟩

theorem test_meets_aesBlockRxBroken : ∃ (s : State) (a : Fin 8) (rest : List (Option (Nat × Nat × Nat × Nat))),
    (s.running = true) ∧
    (s.portState (16 + a) ≠ 0 ∧ (s.portX (16 + a)).blocks = none :: rest) :=
  ⟨((put [(Aesi.STATE, 1, 3)] awake).portUpd 17 (fun x => { x with blocks := [none] }) : State), (1 : Fin 8), ([] : List (Option (Nat × Nat × Nat × Nat))),
   (by decide +kernel), (by decide +kernel)⟩

end Sys2Proof.Tests
end

