-- ==== Sys2Proof/Tests/MeetsJ.lean ====
section
/-! SUPPORT. Witnesses, part J: for each statement with hypotheses, a state and operands that meet all of them. -/

namespace Sys2Proof.Tests

set_option linter.unusedVariables false
set_option Elab.async false

open Sys2Proof Sys2Proof.Machine

theorem test_meets_submit : ∃ (s : State) (d : Bytes) (g : Nat) (nd : Nat) (eg : Nat) (pk : List Nat),
    (s.running = true) ∧
    (s.sch.held = [] ∧ s.rd Sch.IN_FLIGHT 0 < 131072) ∧
    (s.rejects d = none) ∧
    (s.item? (s.rd Sch.NEXT_SSN 0) = none) ∧
    ((depsOf d).all (fun h => missingOk d || !(s.handleMet h).2) = true) :=
  ⟨(working 2 3 : State), (desc1 [0, 0] : Bytes), (0 : Nat), (0 : Nat), (0 : Nat), ([] : List Nat),
   (by decide +kernel), (by decide +kernel), (by decide +kernel), (by decide +kernel), (by decide +kernel)⟩

theorem test_meets_submitReject : ∃ (s : State) (d : Bytes) (k : Nat) (g : Nat) (nd : Nat) (eg : Nat) (pk : List Nat),
    (s.running = true ∧ s.hbmUp = true) ∧
    (s.sch.held = [] ∧ s.rd Sch.IN_FLIGHT 0 < 131072) ∧
    (s.rejects d = some k) :=
  ⟨(awake : State), ([] : Bytes), (1 : Nat), (0 : Nat), (0 : Nat), (0 : Nat), ([] : List Nat),
   (by decide +kernel), (by decide +kernel), (by decide +kernel)⟩

theorem test_meets_dispatchCycle : ∃ (s : State) (i : ItemX) (n : Nat),
    (s.running = true) ∧
    (s.sch.items = [i] ∧ s.sch.held = [] ∧ i.phase = 1) ∧
    (s.chooseCore i [] = some n ∧ n < 128) ∧
    ((List.range 10).all (fun w => (winOf i.desc w).2 == 0) = true) ∧
    (isCustom i.desc = false ∧ (s.coreX n).resident = codeImgOf i.desc ∧ i.missing < 64) :=
  ⟨(working 1 0xFF : State), (work1 1 0xFF : ItemX), (3 : Nat),
   (by decide +kernel), (by decide +kernel), (by decide +kernel), (by decide +kernel), (by decide +kernel)⟩

theorem test_meets_workItemCommit : ∃ (s : State) (n : Fin 128) (i : ItemX) (st : Nat) (r : CoreR),
    (s.running = true) ∧
    (s.onCore n = some i ∧ s.sch.items = [i] ∧ s.sch.held = [] ∧ i.overBy = none) ∧
    (s.runItem i st = .done r) :=
  ⟨(working 2 3 : State), (3 : Fin 128), (work1 2 3 : ItemX), (0 : Nat), ((match (working 2 3).runItem (work1 2 3) 0 with | .done r => r | _ => {}) : CoreR),
   (by decide +kernel), (by decide +kernel), (by decide +kernel)⟩

theorem test_meets_workItemFault : ∃ (s : State) (n : Fin 128) (i : ItemX) (st : Nat) (word : Nat) (k : Nat),
    (s.running = true) ∧
    (s.onCore n = some i ∧ s.item? i.ssn = some i ∧ s.sch.held = []) ∧
    ((s.coreX n).iAt = []) ∧
    (k < 128 ∧ k ≠ i.core ∧ bitOf (affinityOf i.desc) (k / 16) = true ∧ s.rd Core.STATE k = 0 ∧ i.excluded.contains k = false) :=
  ⟨(working 2 3 : State), (3 : Fin 128), (work1 2 3 : ItemX), (0 : Nat), (0 : Nat), (4 : Nat),
   (by decide +kernel), (by decide +kernel), (by decide +kernel), (by decide +kernel)⟩

theorem test_meets_slotTick : ∃ (s : State) (f : Fin 2),
    (s.running = true) ∧
    ((Tbl.get {} s.tim.slot f).due (s.fretGrid f) s.ns = true ∧ s.sch.items = [] ∧ s.sch.held = []) :=
  ⟨({ awake with tim := { awake.tim with slot := [(0, TickX.start (awake.fretGrid 0) 0)] }, clk := 2 * secU } : State), (0 : Fin 2),
   (by decide +kernel), (by decide +kernel)⟩

end Sys2Proof.Tests
end

