-- ==== Sys2Proof/Tests/MeetsK.lean ====
section
/-! SUPPORT. Witnesses, part K: for each statement with hypotheses, a state and operands that meet all of them. -/

namespace Sys2Proof.Tests

set_option linter.unusedVariables false
set_option Elab.async false

open Sys2Proof Sys2Proof.Machine

theorem test_meets_retireDsp : ∃ (s : State) (h : Nat) (n : Nat),
    (s.Accepts h Core.CMD n 1) ∧
    (s.hbmUp = true ∧ s.rd Core.STATE n = 0 ∧ s.coresIn ≠ 1) ∧
    (s.sch.items = [] ∧ s.sch.held = []) :=
  ⟨(awake : State), (0 : Nat), (20 : Nat),
   (accepts_of (by decide +kernel)), (by decide +kernel), (by decide +kernel)⟩

theorem test_meets_retireVd : ∃ (s : State) (h : Nat) (n : Nat),
    (s.Accepts h Vd.CMD n 1) ∧
    (s.hbmUp = true ∧ s.rd Vd.STATE n = 0 ∧ s.vdIn ≠ 1) ∧
    (s.column Dec.CORES = [] ∧ s.vid.queue = []) :=
  ⟨(awake : State), (0 : Nat), (2 : Nat),
   (accepts_of (by decide +kernel)), (by decide +kernel), (by decide +kernel)⟩

theorem test_meets_retireVe : ∃ (s : State) (h : Nat) (n : Nat),
    (s.Accepts h Ve.CMD n 1) ∧
    (s.hbmUp = true ∧ s.rd Ve.STATE n = 0 ∧ s.veIn ≠ 1) ∧
    (s.column Enc.CORES = [] ∧ s.encOn n = []) :=
  ⟨(awake : State), (0 : Nat), (2 : Nat),
   (accepts_of (by decide +kernel)), (by decide +kernel), (by decide +kernel)⟩

theorem test_meets_unretire : ∃ (s : State) (h : Nat) (n : Nat) (k : Fin 4),
    (s.Accepts h (unitOf k).cmd n 2) ∧
    (s.rd (unitOf k).state n = 1) :=
  ⟨(put [(Vd.STATE, 2, 1)] awake : State), (0 : Nat), (2 : Nat), (1 : Fin 4),
   (accepts_of (by decide +kernel)), (by decide +kernel)⟩

theorem test_meets_unitRetirement : ∃ (s : State) (n : Nat) (c : Nat),
    (s.running = true ∧ s.hbmUp = true) ∧
    (n < 128 ∧ s.causeMet .dsp n c = true ∧ s.rd Core.STATE n = 0) ∧
    (s.sch.items = [] ∧ s.sch.held = []) :=
  ⟨(awake.coreUpd 20 (fun x => { x with xyAt := [0, 0, 0] }) : State), (20 : Nat), (3 : Nat),
   (by decide +kernel), (by decide +kernel), (by decide +kernel)⟩

theorem test_meets_decodeOpen : ∃ (s : State) (h : Nat) (d : Nat) (src : Nat) (r : Nat),
    (s.Accepts h Dec.CMD d 1) ∧
    (src = s.rd Dec.SOURCE d ∧ src < 262144 ∧ s.reaches .src h src = true) ∧
    (s.rd Src.STATE src = 1 ∧ s.rd Src.MEDIA src = 1 ∧ 16 ≤ s.rd Src.CODEC src ∧ s.rd Src.CODEC src ≤ 18 ∧ s.on Src.E2E src = false) ∧
    (s.rd Dec.MAX_WIDTH d * s.rd Dec.MAX_HEIGHT d * s.rd Dec.MAX_FPS d ≤ 199065600000) ∧
    (s.rd Dec.STATE d = 0 ∧ s.hbmUp = true) ∧
    (s.ctl.credit = [] ∧ s.ctl.trial = false) ∧
    (r = s.decCharge d ∧ 0 < r ∧ r ≤ 497664) ∧
    (s.rd Cap.VDEC_USED 0 + r ≤ s.cap .vdec) ∧
    (2 ≤ h → s.rd Part.VDEC_USED h + r ≤ s.rd Part.VDEC_QUOTA h) ∧
    ((List.range 16).any (fun v => s.rd Vd.STATE v == 0 && s.rd Vd.USED v + r ≤ 497664 && s.rd Vd.SESSIONS v < 128) = true) ∧
    (s.decBytes d + 2 ^ 24 ≤ s.poolFree) :=
  ⟨(put [(Dec.SOURCE, 5, 30), (Src.STATE, 30, 1), (Src.MEDIA, 30, 1), (Src.CODEC, 30, 16), (Src.LEG, 30, 7), (Dec.MAX_WIDTH, 5, 640), (Dec.MAX_HEIGHT, 5, 360), (Dec.MAX_FPS, 5, 3000)] awake : State), (0 : Nat), (5 : Nat), (30 : Nat), ((put [(Dec.SOURCE, 5, 30), (Src.STATE, 30, 1), (Src.MEDIA, 30, 1), (Src.CODEC, 30, 16), (Dec.MAX_WIDTH, 5, 640), (Dec.MAX_HEIGHT, 5, 360), (Dec.MAX_FPS, 5, 3000)] awake).decCharge 5 : Nat),
   (accepts_of (by decide +kernel)), (by decide +kernel), (by decide +kernel), (by decide +kernel), (by decide +kernel), (by decide +kernel), (by decide +kernel), (by decide +kernel), (by decide +kernel), (by decide +kernel), (by decide +kernel)⟩

theorem test_meets_decodeClose : ∃ (s : State) (h : Nat) (d : Nat) (v : Nat),
    (s.Accepts h Dec.CMD d 2) ∧
    (s.rd Dec.STATE d = 1 ∨ s.rd Dec.STATE d = 2) ∧
    (v < 16 ∧ s.rd Dec.CORES d = 2 ^ v) ∧
    (s.latchedOf d = [] ∧ s.elemsWith Dec.STATE 3 = [] ∧ s.vid.queue = []) ∧
    (((s.decX d).latest.toList ++ (s.decX d).read ++ (s.decX d).slots.filterMap (·.2)).any s.picRead = false) :=
  ⟨(put [(Dec.STATE, 5, 2), (Dec.CORES, 5, 4), (Dec.CHARGE, 5, 100), (Vd.USED, 2, 300), (Vd.SESSIONS, 2, 1), (Cap.VDEC_USED, 0, 300)] awake : State), (0 : Nat), (5 : Nat), (2 : Nat),
   (accepts_of (by decide +kernel)), (by decide +kernel), (by decide +kernel), (by decide +kernel), (by decide +kernel)⟩

theorem test_meets_pictureReady : ∃ (s : State) (d : Fin 2048) (i : PicInfo) (ts : Nat) (l : List (Nat × PktX × TagX)),
    (s.running = true) ∧
    (s.rd Dec.STATE d = 2 ∧ (s.decX d).cur.isSome = true ∧ s.vid.queue = []) ∧
    (s.nextPic d = some (ts, l) ∧ s.picReady d ts l = true) ∧
    (((s.decX d).params || i.params) = true ∧ ((s.decX d).started || i.rap || (s.decX d).late) = true) :=
  ⟨(videoed : State), (5 : Fin 2048), (info1 : PicInfo), (900 : Nat), ([(0, vpkt1, vtag1)] : List (Nat × PktX × TagX)),
   (by decide +kernel), (by decide +kernel), (by decide +kernel), (by decide +kernel)⟩

theorem test_meets_pictureComplete : ∃ (s : State) (d : Fin 2048) (c : CurX) (r : PicResult),
    (s.running = true) ∧
    ((s.decX d).cur = some c ∧ s.since c.at_ ≤ c.budget ∧ (c.held || s.bufFree d) = true ∧ s.vid.queue = []) ∧
    (r.conceal = [] ∧ c.pic.lost = 0 ∧ c.missing = false ∧ c.taint = false) ∧
    ((c.pic.info.refs.filterMap (fun k => Tbl.get none (s.decX d).slots k)).any s.picBad = false) :=
  ⟨(videoed : State), (5 : Fin 2048), (cur1 : CurX), (result1 : PicResult),
   (by decide +kernel), (by decide +kernel), (by decide +kernel), (by decide +kernel)⟩

theorem test_meets_pictureAbandon : ∃ (s : State) (d : Fin 2048) (v : Fin 16) (a : CoreAccess) (c : CurX) (p : PicX),
    (s.running = true) ∧
    ((s.decX d).cur = some c ∧ c.budget < s.since c.at_ ∧ s.vid.queue = []) ∧
    ((s.decX d).latest = some p ∧ p.desc.length = 64) :=
  ⟨({ videoed with phys := cycS } : State), (5 : Fin 2048), (2 : Fin 16), (⟨false, 0, 0, []⟩ : CoreAccess), (cur1 : CurX), (pic1 : PicX),
   (by decide +kernel), (by decide +kernel), (by decide +kernel)⟩

theorem test_meets_startMsExpiry : ∃ (s : State) (d : Fin 2048),
    (s.running = true) ∧
    (s.rd Dec.STATE d = 1 ∧ (s.decX d).late = false ∧ s.rd Dec.START_MS d * cycMs ≤ s.since (s.decX d).openAt) :=
  ⟨({ put [(Dec.STATE, 5, 1)] awake with phys := 100 * cycS } : State), (5 : Fin 2048),
   (by decide +kernel), (by decide +kernel)⟩

theorem test_meets_waitRapRefresh : ∃ (s : State) (d : Fin 2048) (src : Nat),
    (s.running = true) ∧
    (s.rd Dec.STATE d = 1 ∧ (s.decX d).params = false ∧ (s.decX d).reqAt = none) ∧
    (src = s.rd Dec.SOURCE d ∧ s.rd Src.STATE src = 1 ∧ s.rd Src.LEG src = 0xFFFFFFFF) :=
  ⟨(put [(Dec.STATE, 5, 1), (Dec.SOURCE, 5, 30), (Src.STATE, 30, 1), (Src.LEG, 30, 0xFFFFFFFF)] awake : State), (5 : Fin 2048), (30 : Nat),
   (by decide +kernel), (by decide +kernel), (by decide +kernel)⟩

theorem test_meets_encodeOpen : ∃ (s : State) (h : Nat) (e : Nat) (src : Nat) (r : Nat),
    (s.Accepts h Enc.CMD e 1) ∧
    (src = s.rd Enc.OUT_SOURCE e ∧ src < 262144 ∧ s.reaches .src h src = true ∧ s.encForeign h e = false) ∧
    (s.rd Enc.SPLICE e = 0xFF ∧ s.encBadRange e = false ∧ s.encOutFits e src = true ∧ s.encInFits e = true) ∧
    (s.rd Enc.STATE e = 0 ∧ s.hbmUp = true) ∧
    (s.ctl.credit = [] ∧ s.ctl.trial = false) ∧
    (r = s.encCharge e ∧ 0 < r ∧ r ≤ 497664) ∧
    (s.rd Cap.VENC_USED 0 + r ≤ s.cap .venc) ∧
    (2 ≤ h → s.rd Part.VENC_USED h + r ≤ s.rd Part.VENC_QUOTA h) ∧
    ((List.range 16).any (fun v => s.rd Ve.STATE v == 0 && s.rd Ve.USED v + r ≤ 497664 && s.rd Ve.SESSIONS v < 128) = true) ∧
    (2 ^ 24 ≤ s.poolFree) :=
  ⟨(encodable : State), (0 : Nat), (6 : Nat), (31 : Nat), (encodable.encCharge 6 : Nat),
   (accepts_of (by decide +kernel)), (by decide +kernel), (by decide +kernel), (by decide +kernel), (by decide +kernel), (by decide +kernel), (by decide +kernel), (by decide +kernel), (by decide +kernel), (by decide +kernel)⟩

theorem test_meets_encodeClose : ∃ (s : State) (h : Nat) (e : Nat) (v : Nat),
    (s.Accepts h Enc.CMD e 2) ∧
    (s.rd Enc.STATE e = 1 ∨ s.rd Enc.STATE e = 2) ∧
    (v < 16 ∧ s.rd Enc.CORES e = 2 ^ v ∧ s.rd Enc.SPLICE e = 0xFF) ∧
    (s.elemsWith Enc.STATE 3 = []) :=
  ⟨(put [(Enc.STATE, 6, 2), (Enc.CORES, 6, 4), (Enc.CHARGE, 6, 100), (Ve.USED, 2, 300), (Ve.SESSIONS, 2, 1), (Cap.VENC_USED, 0, 300)] awake : State), (0 : Nat), (6 : Nat), (2 : Nat),
   (accepts_of (by decide +kernel)), (by decide +kernel), (by decide +kernel), (by decide +kernel)⟩

theorem test_meets_encodeFrameTick : ∃ (s : State) (e : Fin 2048) (k : TickX),
    (s.running = true) ∧
    (s.rd Enc.INPUT e = 1 ∧ k = Tbl.get {} s.tim.enc e ∧ k.due (s.encGrid e) s.ns = true) ∧
    ((s.rd Enc.STATE e = 1 ∨ s.rd Enc.STATE e = 2) ∧ (s.encX e).pics = []) ∧
    (s.rd Enc.DEBT e = 0 ∧ 1 ≤ s.rd Enc.SPATIAL e) :=
  ⟨(encoding : State), (6 : Fin 2048), (TickX.start (encodable.encGrid 6) 0 : TickX),
   (by decide +kernel), (by decide +kernel), (by decide +kernel), (by decide +kernel)⟩

theorem test_meets_encodeDeadline : ∃ (s : State) (e : Fin 2048) (p : EPic) (l : LPic),
    (s.running = true ∧ s.hbmUp = true) ∧
    ((s.encX e).pics = [p] ∧ p.layers = [l] ∧ l.fate = 0 ∧ s.encAt e (p.n + 1) ≤ s.ns) ∧
    ((s.encX e).lateAt = none) ∧
    (s.rd Enc.INPUT e ≠ 1 ∨ p.alone = false ∨ s.since p.at_ ≤ 2 * s.encNominal e p.cores.length) :=
  ⟨(encoding.encUpd 6 (fun x => { x with pics := [epic1] }) : State), (6 : Fin 2048), (epic1 : EPic), (lpic1 : LPic),
   (by decide +kernel), (by decide +kernel), (by decide +kernel), (by decide +kernel)⟩

theorem test_meets_layerPictureComplete : ∃ (s : State) (e : Fin 2048) (sl : Fin 3) (p : EPic) (l : LPic) (rows : List (List Nat)) (ks : List Nat),
    (s.running = true) ∧
    ((s.encX e).pics = [p] ∧ p.layers = [l] ∧ l.fate = 0 ∧ l.s = sl ∧ p.stored = false ∧ p.splice = false) ∧
    (s.rd Enc.INPUT e = 0 ∧ s.rd Enc.SPLICE e = 0xFF) ∧
    (s.rd SrcFwd.GROUP (s.rd Enc.OUT_SOURCE e) = 0xFF) ∧
    (s.rowsFit e sl p.cores.length rows = true ∧ ks ≠ [] ∧ (∀ n ∈ ks, 1 ≤ n ∧ n ≤ 1200)) ∧
    (s.ns ≤ s.encAt e (p.n + 1) ∧ s.streaming e p.n = false ∧ p.waiting = false ∧ s.behind e p = false) :=
  ⟨((put [(Enc.INPUT, 6, 0)] { encoding with clk := 0 }).encUpd 6 (fun x => { x with pics := [epic1] }) : State), (6 : Fin 2048), (0 : Fin 3), (epic1 : EPic), (lpic1 : LPic), ([[100, 100]] : List (List Nat)), ([300, 20] : List Nat),
   (by decide +kernel), (by decide +kernel), (by decide +kernel), (by decide +kernel), (by decide +kernel), (by decide +kernel)⟩

end Sys2Proof.Tests
end

