-- ==== Sys2Proof/Tests/MeetsL.lean ====
section
/-! SUPPORT. Witnesses, part L: for each statement with hypotheses, a state and operands that meet all of them. -/

namespace Sys2Proof.Tests

set_option linter.unusedVariables false
set_option Elab.async false

open Sys2Proof Sys2Proof.Machine

theorem test_meets_outputOpen : ∃ (s : State) (h : Nat) (k : Nat),
    (s.Accepts h Outp.CMD k 1) ∧
    (s.rd Outp.STATE k = 0 ∧ s.rd Outp.STATE (k / 2 * 2 + (1 - k % 2)) = 0 ∧ s.hbmUp = true) ∧
    (s.rd Cmp.STATE (k / 2) = 0 ∧ s.rd Cmp.OUTPUTS (k / 2) = 0) ∧
    (rateOk (s.rd Outp.RATE_N k) (s.rd Outp.RATE_D k) = true ∧ s.ratesFit [k] = true ∧ s.outColourOk k = true) ∧
    (s.twoSlots k = false ∧ s.outLayers k = []) ∧
    (s.ctl.credit = [] ∧ s.ctl.trial = false) ∧
    (s.rd Cap.CMP_USED 0 + 1 ≤ s.cap .cmp) ∧
    (2 ≤ h → s.rd Part.CMP_USED h + 1 ≤ s.rd Part.CMP_QUOTA h) ∧
    (s.rd Outp.WIDTH k * s.rd Outp.HEIGHT k * 3 / 2 * (if s.rd Outp.DEPTH k = 8 then 1 else 2) + 2 ^ 24 ≤ s.poolFree) :=
  ⟨(put [(Outp.WIDTH, 4, 640), (Outp.HEIGHT, 4, 360), (Outp.RATE_N, 4, 30), (Outp.RATE_D, 4, 1)] awake : State), (0 : Nat), (4 : Nat),
   (accepts_of (by decide +kernel)), (by decide +kernel), (by decide +kernel), (by decide +kernel), (by decide +kernel), (by decide +kernel), (by decide +kernel), (by decide +kernel), (by decide +kernel)⟩

theorem test_meets_outputClose : ∃ (s : State) (h : Nat) (k : Nat) (i : Nat),
    (s.Accepts h Outp.CMD k 2) ∧
    (s.rd Outp.STATE k = 1 ∧ s.outNamed k = false ∧ s.elemsWith Outp.STATE 2 = []) ∧
    (i = s.rd Outp.HOST k ∧ bitOf (s.rd Cmp.OUTPUTS i) k = true) :=
  ⟨(put [(Outp.STATE, 4, 1), (Outp.HOST, 4, 2), (Outp.SLOTS, 4, 1), (Cmp.OUTPUTS, 2, 48), (Cap.CMP_USED, 0, 3), (Lay.KIND, 128, 3)] awake : State), (0 : Nat), (4 : Nat), (2 : Nat),
   (accepts_of (by decide +kernel)), (by decide +kernel), (by decide +kernel)⟩

theorem test_meets_frameTick : ∃ (s : State) (k : Fin 16) (x : TickX),
    (s.running = true) ∧
    (x = Tbl.get {} s.tim.frame k ∧ x.due (s.outGrid k) s.ns = true) ∧
    (s.rd Outp.STATE k = 1 ∧ (s.outX k).busy = none ∧ (s.outX k).resumeAt ≤ s.phys) ∧
    (s.outLayers k = [] ∧ s.elemsWith Enc.STATE 1 = [] ∧ s.elemsWith Enc.STATE 2 = [] ∧ s.sch.items = [] ∧ s.sch.held = []) :=
  ⟨(composing : State), (4 : Fin 16), (TickX.start (composing.outGrid 4) 0 : TickX),
   (by decide +kernel), (by decide +kernel), (by decide +kernel), (by decide +kernel)⟩

theorem test_meets_frameTickLate : ∃ (s : State) (k : Fin 16) (x : TickX) (b : Nat × Nat),
    (s.running = true) ∧
    (x = Tbl.get {} s.tim.frame k ∧ x.due (s.outGrid k) s.ns = true) ∧
    (s.rd Outp.STATE k = 1 ∧ (s.outX k).busy = some b ∧ (s.outX k).counted = false ∧ (s.cmpX (s.rd Outp.HOST k)).faultAt = []) ∧
    (s.elemsWith Enc.STATE 1 = [] ∧ s.elemsWith Enc.STATE 2 = [] ∧ s.sch.items = [] ∧ s.sch.held = []) :=
  ⟨(composing.outUpd 4 (fun y => { y with busy := some (7, 9) }) : State), (4 : Fin 16), (TickX.start (composing.outGrid 4) 0 : TickX), ((7, 9) : Nat × Nat),
   (by decide +kernel), (by decide +kernel), (by decide +kernel), (by decide +kernel)⟩

theorem test_meets_composeFrameComplete : ∃ (s : State) (k : Fin 16) (n : Nat) (a : Nat),
    (s.running = true) ∧
    ((s.outX k).busy = some (n, a)) :=
  ⟨(composing.outUpd 4 (fun y => { y with busy := some (7, 9) }) : State), (4 : Fin 16), (7 : Nat), (9 : Nat),
   (by decide +kernel), (by decide +kernel)⟩

theorem test_meets_composeFrameFault : ∃ (s : State) (k : Fin 16) (n : Nat) (a : Nat),
    (s.running = true ∧ s.hbmUp = true) ∧
    ((s.outX k).busy = some (n, a) ∧ s.elemsWith Enc.STATE 2 = []) ∧
    ((s.cmpX (s.rd Outp.HOST k)).memAt = [] ∧ Tbl.get 0 s.ev.parityAt 7 = 0) :=
  ⟨(composing.outUpd 4 (fun y => { y with busy := some (7, 9) }) : State), (4 : Fin 16), (7 : Nat), (9 : Nat),
   (by decide +kernel), (by decide +kernel), (by decide +kernel)⟩

theorem test_meets_engage : ∃ (s : State) (h : Nat),
    (s.Accepts h Ros.ENGAGE 0 1) ∧
    (s.ros.at_ = none ∧ s.hbmUp = true) :=
  ⟨(awake : State), (1 : Nat),
   (accepts_of (by decide +kernel)), (by decide +kernel)⟩

theorem test_meets_engageOff : ∃ (s : State) (h : Nat) (e : Nat),
    (s.Accepts h Ros.ENGAGE 0 0) ∧
    (s.ros.at_ = some e ∧ s.ros.playing = false ∧ s.hbmUp = true) :=
  ⟨({ put [(Ros.STATE, 0, 1)] awake with ros := { awake.ros with at_ := some 5 } } : State), (1 : Nat), (5 : Nat),
   (accepts_of (by decide +kernel)), (by decide +kernel)⟩

theorem test_meets_engageOffPlaying : ∃ (s : State) (h : Nat) (e : Nat),
    (s.Accepts h Ros.ENGAGE 0 0) ∧
    (s.ros.at_ = some e ∧ s.ros.playing = true ∧ s.hbmUp = true ∧ s.rd Ros.STATE 0 / 2 = 0) ∧
    (s.ros.subs = [] ∧ s.videoSubs = []) :=
  ⟨({ put [(Ros.STATE, 0, 1)] awake with ros := { awake.ros with at_ := some 5, playing := true, play := [(3, some ⟨8, 0, 0, none⟩)], data := [(3, ovBytes)] }, clk := 5 * secU } : State), (1 : Nat), (5 : Nat),
   (accepts_of (by decide +kernel)), (by decide +kernel), (by decide +kernel)⟩

theorem test_meets_pinRelease : ∃ (s : State) (e : Nat),
    (s.running = true ∧ s.hbmUp = true) ∧
    (s.ros.at_ = some e ∧ s.ros.playing = false ∧ s.on Ros.PIN_LATCH 0 = false) :=
  ⟨({ put [(Ros.STATE, 0, 2)] awake with ros := { awake.ros with at_ := some 5 } } : State), (5 : Nat),
   (by decide +kernel), (by decide +kernel)⟩

theorem test_meets_pinReleaseLatched : ∃ (s : State),
    (s.running = true) ∧
    (s.on Ros.PIN_LATCH 0 = true) :=
  ⟨(put [(Ros.STATE, 0, 2), (Ros.PIN_LATCH, 0, 1)] awake : State),
   (by decide +kernel), (by decide +kernel)⟩

theorem test_meets_releasePin : ∃ (s : State) (h : Nat) (e : Nat) (v : Nat),
    (s.Accepts h Ros.RELEASE_PIN 0 v) ∧
    (s.ros.at_ = some e ∧ s.ros.playing = false ∧ s.on Ros.PIN_LATCH 0 = true ∧ s.hbmUp = true) :=
  ⟨({ put [(Ros.STATE, 0, 2), (Ros.PIN_LATCH, 0, 1)] awake with ros := { awake.ros with at_ := some 5 } } : State), (1 : Nat), (5 : Nat), (1 : Nat),
   (accepts_of (by decide +kernel)), (by decide +kernel)⟩

theorem test_meets_overridePlayStart : ∃ (s : State) (e : Nat),
    (s.running = true) ∧
    (s.ros.at_ = some e ∧ s.ros.playing = false ∧ e + 1000000 ≤ s.ns ∧ s.rd Pwr.PSTATE 0 = 0) :=
  ⟨({ put [(Store.READY, 3, 1), (Store.KIND, 3, 2)] awake with ros := { awake.ros with at_ := some 5 }, clk := 5 * secU } : State), (5 : Nat),
   (by decide +kernel), (by decide +kernel)⟩

theorem test_meets_overrideStreamPlayout : ∃ (s : State) (k : Fin 64) (e : Nat) (x : PlayX) (r : OvRec),
    (s.running = true) ∧
    (s.ros.at_ = some e ∧ s.ros.playing = true ∧ Tbl.get none s.ros.play k = some x) ∧
    (ovRec (s.storeBytes k) x.next = some r ∧ playAt e (beAt (s.storeBytes k) 0 4) x.loops r.time ≤ s.ns) ∧
    (s.ros.subs = [] ∧ s.videoSubs = []) :=
  ⟨({ awake with ros := { awake.ros with at_ := some 5, playing := true, play := [(3, some ⟨8, 0, 0, none⟩)], data := [(3, ovBytes)] }, clk := 5 * secU } : State), (3 : Fin 64), (5 : Nat), (⟨8, 0, 0, none⟩ : PlayX), (⟨0, 4, 3, 0, 20⟩ : OvRec),
   (by decide +kernel), (by decide +kernel), (by decide +kernel), (by decide +kernel)⟩

theorem test_meets_seal : ∃ (s : State) (h : Nat) (e : Nat) (x : Nat) (y : Nat),
    (s.Accepts h Store.CMD e 1) ∧
    (s.rd Store.KIND e = 1 ∧ x = s.rd Store.WIDTH e ∧ y = s.rd Store.HEIGHT e) ∧
    (x % 2 = 0 ∧ 16 ≤ x ∧ x ≤ 4096 ∧ y % 2 = 0 ∧ 16 ≤ y ∧ y ≤ 2160) ∧
    ((s.storeBytes e).length = 4 * x * y) :=
  ⟨({ put [(Store.KIND, 3, 1), (Store.WIDTH, 3, 16), (Store.HEIGHT, 3, 16)] awake with ros := { awake.ros with data := [(3, List.replicate 1024 0x55)] } } : State), (1 : Nat), (3 : Nat), (16 : Nat), (16 : Nat),
   (accepts_of (by decide +kernel)), (by decide +kernel), (by decide +kernel), (by decide +kernel)⟩

theorem test_meets_sealFails : ∃ (s : State) (h : Nat) (e : Nat),
    (s.Accepts h Store.CMD e 1) ∧
    (s.rd Store.KIND e = 1 ∧ s.rd Store.WIDTH e % 2 = 1) :=
  ⟨(put [(Store.KIND, 3, 1), (Store.WIDTH, 3, 17), (Store.READY, 3, 1)] awake : State), (1 : Nat), (3 : Nat),
   (accepts_of (by decide +kernel)), (by decide +kernel)⟩

theorem test_meets_storeClear : ∃ (s : State) (h : Nat) (e : Nat),
    (s.Accepts h Store.CMD e 2) ∧
    (s.entryUsed e = false) :=
  ⟨({ put [(Store.KIND, 3, 1), (Store.READY, 3, 1), (Store.LEN, 3, 2)] awake with ros := { awake.ros with data := [(3, [1, 2])] } } : State), (1 : Nat), (3 : Nat),
   (accepts_of (by decide +kernel)), (by decide +kernel)⟩

theorem test_meets_storeData : ∃ (s : State) (h : Nat) (e : Nat) (b : Bytes),
    (s.Accepts h Store.DATA e 0) ∧
    (s.rd Store.KIND e ≠ 0 ∧ s.entryUsed e = false) ∧
    (b.length ≤ 8192 ∧ (s.storeBytes e).length + b.length ≤ 2 ^ 28 ∧ s.storeTotal + b.length ≤ 2 ^ 30) :=
  ⟨({ put [(Store.KIND, 3, 1), (Store.READY, 3, 1), (Store.LEN, 3, 2)] awake with ros := { awake.ros with data := [(3, [1, 2])] } } : State), (1 : Nat), (3 : Nat), ([3, 4, 5] : Bytes),
   (accepts_of (by decide +kernel)), (by decide +kernel), (by decide +kernel)⟩

theorem test_meets_trackingPass : ∃ (s : State) (i : Fin 64) (d : Nat),
    (s.running = true) ∧
    (s.rd Pwr.PSTATE 0 = 0 ∧ s.mem.selfRefresh = false ∧ s.rd Pc.STATE i ≤ 1) ∧
    ((s.pcX i).trackAt = none) ∧
    (stepTo (s.rd Pc.DRIFT i) d ≤ s.rd Hbm.TRACK_LIMIT 0) :=
  ⟨(put [(Hbm.TRACK_LIMIT, 0, 8), (Pc.DRIFT, 9, 2)] awake : State), (9 : Fin 64), (5 : Nat),
   (by decide +kernel), (by decide +kernel), (by decide +kernel), (by decide +kernel)⟩

theorem test_meets_trackingPassDegrades : ∃ (s : State) (i : Fin 64) (d : Nat),
    (s.running = true ∧ s.hbmUp = true) ∧
    (s.rd Pwr.PSTATE 0 = 0 ∧ s.mem.selfRefresh = false ∧ s.rd Pc.STATE i = 0) ∧
    ((s.pcX i).trackAt = none) ∧
    (s.rd Hbm.TRACK_LIMIT 0 < stepTo (s.rd Pc.DRIFT i) d) :=
  ⟨(put [(Hbm.TRACK_LIMIT, 0, 8), (Pc.DRIFT, 9, 8)] awake : State), (9 : Fin 64), (50 : Nat),
   (by decide +kernel), (by decide +kernel), (by decide +kernel), (by decide +kernel)⟩

theorem test_meets_retrain : ∃ (s : State) (h : Nat) (a : Nat) (b : Nat),
    (s.Accepts h Hbm.CMD 0 1) ∧
    (s.rd Pwr.PSTATE 0 = 1 ∧ s.mediaUsed = false ∧ s.unitsUsed = false) ∧
    (s.rd Hbm.FENCED 0 = 0 ∧ (List.range 64).all (fun i => s.rd Pc.PENDING i != 1) = true ∧ s.rd Cal.HBM_LAST_GOOD 0 < 4) :=
  ⟨(put [(Pwr.PSTATE, 0, 1)] awake : State), (0 : Nat), (12 : Nat), (80 : Nat),
   (accepts_of (by decide +kernel)), (by decide +kernel), (by decide +kernel)⟩

theorem test_meets_refresh : ∃ (s : State) (i : Fin 64) (b : Fin 32) (c : Int),
    (s.running = true) ∧
    (s.mem.selfRefresh = false ∧ s.rd Pc.STATE i ≤ 1 ∧ -40 ≤ c ∧ c ≤ 125) :=
  ⟨((put [(Stk.RAAIMT, 0, 32)] awake).pcUpd 9 (fun x => { x with banks := [(4, { row := some 7, raa := 40 })] }) : State), (9 : Fin 64), (4 : Fin 32), (90 : Int),
   (by decide +kernel), (by decide +kernel)⟩

theorem test_meets_scrubRepair : ∃ (s : State),
    (s.running = true) ∧
    (s.mem.selfRefresh = false ∧ s.hbmUp = true ∧ s.mem.poison = []) ∧
    (s.mem.scrubPos + 1 < s.capBytes / 256) :=
  ⟨({ awake with mem := { awake.mem with scrubPos := 6, repair := [6, 9] } } : State),
   (by decide +kernel), (by decide +kernel), (by decide +kernel)⟩

theorem test_meets_scrubRepairQueued : ∃ (s : State) (g : Nat) (n : Nat) (k : Fin 33),
    (s.running = true) ∧
    (s.mem.selfRefresh = false ∧ s.hbmUp = true ∧ s.mem.poison = []) ∧
    (g ∈ s.mem.repair) ∧
    (n = (s.locate (256 * g)).pc) :=
  ⟨({ awake with mem := { awake.mem with scrubPos := 6, repair := [6, 9] } } : State), (9 : Nat), ((awake.locate (256 * 9)).pc : Nat), (2 : Fin 33),
   (by decide +kernel), (by decide +kernel), (by decide +kernel), (by decide +kernel)⟩

theorem test_meets_fence : ∃ (s : State) (h : Nat) (i : Nat),
    (s.Accepts h Pc.CMD i 1) ∧
    (bitOf (s.rd Hbm.FENCED 0) i = false) :=
  ⟨(awake : State), (0 : Nat), (9 : Nat),
   (accepts_of (by decide +kernel)), (by decide +kernel)⟩

theorem test_meets_unfence : ∃ (s : State) (h : Nat) (i : Nat),
    (s.Accepts h Pc.CMD i 2) ∧
    (bitOf (s.rd Hbm.FENCED 0) i = true) :=
  ⟨(put [(Hbm.FENCED, 0, 512)] awake : State), (0 : Nat), (9 : Nat),
   (accepts_of (by decide +kernel)), (by decide +kernel)⟩

theorem test_meets_margin : ∃ (s : State) (h : Nat) (v : Nat),
    (s.Accepts h Mar.CMD 0 1) ∧
    (s.rd Pwr.PSTATE 0 = 1 ∧ bitOf (s.rd Hbm.FENCED 0) (s.rd Mar.TARGET 0) = false) ∧
    (v < 2 ^ 576) :=
  ⟨(put [(Pwr.PSTATE, 0, 1)] awake : State), (0 : Nat), (12345 : Nat),
   (accepts_of (by decide +kernel)), (by decide +kernel), (by decide +kernel)⟩

theorem test_meets_marginFails : ∃ (s : State) (h : Nat),
    (s.Accepts h Mar.CMD 0 1) ∧
    (s.rd Pwr.PSTATE 0 = 1 ∧ bitOf (s.rd Hbm.FENCED 0) (s.rd Mar.TARGET 0) = false) :=
  ⟨(put [(Pwr.PSTATE, 0, 1)] awake : State), (0 : Nat),
   (accepts_of (by decide +kernel)), (by decide +kernel)⟩

theorem test_meets_capoSet : ∃ (s : State) (h : Nat) (i : Nat),
    (s.Accepts h APort.CAPO i 1) ∧
    (s.on APort.CAPO i = false) :=
  ⟨(awake : State), (0 : Nat), (9 : Nat),
   (accepts_of (by decide +kernel)), (by decide +kernel)⟩

theorem test_meets_capoClear : ∃ (s : State) (h : Nat) (i : Nat),
    s.Accepts h APort.CAPO i 0 :=
  ⟨(put [(APort.CAPO, 9, 1), (APort.STATE, 9, 2)] awake : State), (0 : Nat), (9 : Nat),
   (accepts_of (by decide +kernel))⟩

theorem test_meets_drained : ∃ (s : State) (i : Fin 64) (h : Nat),
    (s.running = true ∧ s.hbmUp = true) ∧
    (s.rd APort.STATE i = 1 ∧ (s.pcX i).capoBy = some h ∧ (s.pcX i).queue = []) :=
  ⟨((put [(APort.CAPO, 9, 1), (APort.STATE, 9, 1)] awake).pcUpd 9 (fun x => { x with capoBy := some 0 }) : State), (9 : Fin 64), (0 : Nat),
   (by decide +kernel), (by decide +kernel)⟩

theorem test_meets_arbCapoTimeout : ∃ (s : State) (i : Fin 64),
    (s.running = true ∧ s.hbmUp = true) ∧
    (s.rd Pwr.PSTATE 0 = 0 ∧ s.on APort.CAPO i = true ∧ 10 * cycMs ≤ s.since (s.pcX i).capoAt) :=
  ⟨({ put [(APort.CAPO, 9, 1), (APort.STATE, 9, 2)] awake with phys := 11 * cycMs } : State), (9 : Fin 64),
   (by decide +kernel), (by decide +kernel)⟩

theorem test_meets_dmaStart : ∃ (s : State) (h : Nat) (n : Nat) (d : Bytes),
    (s.Accepts h Dma.CMD n 1) ∧
    (48 ≤ n ∧ (s.rd Dma.STATE n = 0 ∨ s.rd Dma.STATE n = 3) ∧ s.hbmUp = true ∧ (s.dmaX n).undef = false) ∧
    ((dAddr (s.rd Dma.HEAD n)).space = 2 ∧ s.addrOk n (dAddr (s.rd Dma.HEAD n)) 64 false = true) ∧
    (d.length = 64 ∧ s.dStatus n d < 2) :=
  ⟨(put [(Dma.HEAD, 48, 2 ^ 61 + 4096)] awake : State), (0 : Nat), (48 : Nat), (copyDesc : Bytes),
   (accepts_of (by decide +kernel)), (by decide +kernel), (by decide +kernel), (by decide +kernel)⟩

theorem test_meets_dmaStartFirmware : ∃ (s : State) (h : Nat) (n : Nat) (a : Nat) (b : Bool) (d : Bytes),
    (s.running = true) ∧
    (n < 48 ∧ s.rd Dma.STATE n = 0 ∧ s.hbmUp = true ∧ (s.dmaX n).undef = false) ∧
    (a < 2 ^ 60 ∧ s.addrOk n (dAddr a) 64 false = true ∧ d = s.hbmGet (dAddr a).addr 64) ∧
    (inside (dAddr a).addr 64 storeRange = false ∧ meets (dAddr a).addr 64 eventRange = false ∧ s.allPlanes = []) ∧
    (s.mem.poison = [] ∧ s.dStatus n d < 2 ∧ s.frozenAt (dAddr a) 64 = none) :=
  ⟨(awake.hbmPut 8192 fillDesc : State), (0 : Nat), (2 : Nat), (8192 : Nat), (true : Bool), (fillDesc : Bytes),
   (by decide +kernel), (by decide +kernel), (by decide +kernel), ⟨by decide +kernel, meets_low, rfl⟩, ⟨rfl, by decide +kernel, by decide +kernel⟩⟩

theorem test_meets_dmaStop : ∃ (s : State) (h : Nat) (n : Nat),
    (s.Accepts h Dma.CMD n 2) ∧
    (48 ≤ n ∧ s.rd Dma.STATE n = 1 ∧ (s.dmaX n).desc ≠ []) :=
  ⟨((put [(Dma.STATE, 48, 1)] awake).dmaUpd 48 (fun x => { x with desc := copyDesc }) : State), (0 : Nat), (48 : Nat),
   (accepts_of (by decide +kernel)), (by decide +kernel)⟩

theorem test_meets_dmaStopPaused : ∃ (s : State) (h : Nat) (n : Nat) (a : Nat),
    (s.Accepts h Dma.CMD n 2) ∧
    (48 ≤ n ∧ s.rd Dma.STATE n = 2 ∧ (s.dmaX n).next = some a) :=
  ⟨((put [(Dma.STATE, 48, 2)] awake).dmaUpd 48 (fun x => { x with next := some 777 }) : State), (0 : Nat), (48 : Nat), (777 : Nat),
   (accepts_of (by decide +kernel)), (by decide +kernel)⟩

theorem test_meets_dmaDisable : ∃ (s : State) (h : Nat) (n : Nat) (b : Bytes),
    (s.Accepts h Dma.CMD n 3) ∧
    ((48 ≤ n ∨ h = 0) ∧ (s.dmaX n).desc = []) :=
  ⟨(put [(Dma.STATE, 48, 3), (Dma.HEAD, 48, 777)] awake : State), (0 : Nat), (48 : Nat), ([] : Bytes),
   (accepts_of (by decide +kernel)), (by decide +kernel)⟩

theorem test_meets_dmaDescriptorDone : ∃ (s : State) (n : Fin 64) (d : Bytes) (m : Nat),
    (s.running = true) ∧
    (n < 48 ∧ s.rd Dma.STATE n = 1 ∧ (s.dmaX n).desc = d ∧ d ≠ [] ∧ (s.dmaX n).mover = some m) ∧
    ((s.dmaX n).stopping = false ∧ dFlag d 0 = false ∧ dFlag d 1 = false) ∧
    (dOp d = 7 ∧ 0 < dLen d ∧ (dDst d).space = 0) ∧
    ((List.range 64).all (fun i => !s.on APort.CAPO i) = true ∧ s.rd Pwr.PSTATE 0 = 0 ∧ s.elemsWith Dec.STATE 4 = []) :=
  ⟨((put [(Dma.STATE, 2, 1)] awake).dmaUpd 2 (fun x => { x with desc := fillDesc, mover := some 0 }) : State), (2 : Fin 64), (fillDesc : Bytes), (0 : Nat),
   (by decide +kernel), (by decide +kernel), (by decide +kernel), (by decide +kernel), (by decide +kernel)⟩

theorem test_meets_dmaDescriptorEmpty : ∃ (s : State) (n : Fin 64) (d : Bytes) (m : Nat),
    (s.running = true) ∧
    (n < 48 ∧ s.rd Dma.STATE n = 1 ∧ (s.dmaX n).desc = d ∧ d ≠ [] ∧ (s.dmaX n).mover = some m) ∧
    ((s.dmaX n).stopping = false ∧ dFlag d 0 = false ∧ dFlag d 1 = false ∧ dLen d = 0) :=
  ⟨((put [(Dma.STATE, 2, 1)] awake).dmaUpd 2 (fun x => { x with desc := emptyDesc, mover := some 0 }) : State), (2 : Fin 64), (emptyDesc : Bytes), (0 : Nat),
   (by decide +kernel), (by decide +kernel), (by decide +kernel)⟩

end Sys2Proof.Tests
end

