-- ==== Sys2Proof/WellFormed.lean ====
section
/-! DEFINITION. Which commands the outside can form: a host slot is one of eight (R14), an element number has 24 bits
(Table 18.6), a value fits its field, and a frame, a request's value and a descriptor have the lengths that their formats
give them. The machine itself is total: it also answers commands that are not well formed. -/

namespace Sys2Proof

/-- A number of n bits. -/
def fits (n v : Nat) : Bool := decide (v < 2 ^ n)

/-- A host slot (R14). -/
def slotOk (h : Nat) : Bool := decide (h < 8)

/-- An element number of a request's record, u24 (Table 18.6). -/
def elOk (e : Nat) : Bool := fits 24 e

/-- A frame's payload: at most 9,216 bytes (MAX_FRAME, Table 4.3). -/
def frameLen (b : Bytes) : Bool := decide (b.length ≤ 9216)

/-- A value inside a request's body: at most 16,384 bytes (Table 18.5). -/
def reqLen (b : Bytes) : Bool := decide (b.length ≤ 16384)

/-- A frame on the wire: its stored bytes and FCS fill its length. -/
def frameOk (f : Frame) : Bool := decide (f.raw.length + 4 ≤ f.length ∨ f.raw.length = 0)

/-- A UDP datagram: its ports have 16 bits and its addresses 128. -/
def datagramOk (d : Datagram) : Bool := fits 16 d.sport && fits 16 d.dport && fits 128 d.src && fits 128 d.dst && frameLen d.bytes

/-- A REQUEST's route. -/
def fromOk (r : ReqFrom) : Bool :=
  match r with
  | .pcie h => slotOk h
  | .mg d => datagramOk d

/-- A write of an object as a record states it: index u16, element u24, subindex u8 (Table 18.6). -/
def objOk (w : ObjWrite) : Bool := fits 16 w.index && elOk w.element && fits 8 w.sub && reqLen w.blob

/-- Can the outside form the command? -/
def Instr.wellFormed (i : Instr) : Bool :=
  match i with
  | .hello datagram => datagramOk datagram
  | .request from_ _ => fromOk from_
  | .objectWrite h w _ => slotOk h && objOk w
  | .deferredTxnApply _ => true
  | .lockWaitTimeout _ => true
  | .abort h sl reqId => slotOk h && slotOk sl && fits 32 reqId
  | .sessionCloseObject h sl => slotOk h && slotOk sl
  | .hostCloseFrame datagram => datagramOk datagram
  | .sessionTimeout _ => true
  | .pendingSessionExpiry _ => true
  | .pcieDoorbell h tail _ => slotOk h && fits 32 tail
  | .eventDelivery _ => true
  | .evRecRead _ => true
  | .bulkWindowRead _ address length _ => fits 64 address && fits 32 length
  | .bulkWindowWrite _ address _ => fits 64 address
  | .pstateReqActive h => slotOk h
  | .pstateReqIdle h => slotOk h
  | .pstateReqStandby h => slotOk h
  | .idleHbmAccess => true
  | .selfRefreshReturn => true
  | .wakeAtExpiry _ => true
  | .tin0Wake _ _ => true
  | .mg0WakeFrame dst payload _ => fits 48 dst && frameLen payload
  | .domainWake part => decide (part < 72)
  | .domainPowerDown part => decide (part < 72)
  | .domainDrained part => decide (part < 72)
  | .clusterClockGate _ => true
  | .clusterPowerGate _ => true
  | .supplyWarn _ mv => fits 16 mv
  | .supplyRecovered _ minMv _ => fits 16 minMv
  | .supplyReset _ minMv durUs _ => fits 16 minMv && fits 32 durUs
  | .powerOn _ => true
  | .porstNReset _ _ => true
  | .watchdog _ => true
  | .reset h value _ => slotOk h && fits 80 value
  | .bootRetry _ => true
  | .restore h value _ => slotOk h && fits 80 value
  | .lcCmdProvision h others _ => slotOk h && others.all objOk
  | .lcCmdDeploy h others _ => slotOk h && others.all objOk
  | .lcCmdReturn h others _ => slotOk h && others.all objOk
  | .lcCmdScrap h others _ => slotOk h && others.all objOk
  | .lifeCounterSample _ vcoreMv _ wear => fits 16 vcoreMv && fits 8 wear
  | .lifeCounterWrite => true
  | .thermWarn sensor _ => fits 8 sensor
  | .thermLimit sensor _ => fits 8 sensor
  | .setTime h value => slotOk h && fits 80 value
  | .refSelWrite h value => slotOk h && fits 80 value
  | .ptpMessageRx _ => true
  | .delayReqSend _ => true
  | .referenceLost _ => true
  | .ppsInEdge _ _ => true
  | .ppsTod h value => slotOk h && fits 80 value
  | .arm h n => slotOk h && elOk n
  | .disarm h n => slotOk h && elOk n
  | .toutEdge _ => true
  | .tinEdge _ _ _ => true
  | .tinRead h n => slotOk h && elOk n
  | .rtcReload => true
  | .audioBlockTick _ _ _ _ => true
  | .frameTick _ => true
  | .slotTick _ => true
  | .linkUp _ lanes _ _ => fits 2 lanes
  | .linkDown _ lanes _ _ _ => fits 2 lanes
  | .portDisable h port => slotOk h && elOk port
  | .ingressFrame frame => frameOk frame
  | .packetCommit _ _ => true
  | .puntDeliver _ => true
  | .meterRefill h source => slotOk h && elOk source
  | .legOpen h leg => slotOk h && elOk leg
  | .legActivate h leg => slotOk h && elOk leg
  | .legClose h leg => slotOk h && elOk leg
  | .legTeardownComplete leg => elOk leg
  | .confOpen h conf => slotOk h && elOk conf
  | .confClose h conf => slotOk h && elOk conf
  | .sourceDefine h source => slotOk h && elOk source
  | .sourceDelete h source => slotOk h && elOk source
  | .subCreate h sub => slotOk h && elOk sub
  | .subDelete h sub => slotOk h && elOk sub
  | .rtcpReportSend leg => elOk leg
  | .upNackSend source => elOk source
  | .refreshRequestSend source => elOk source
  | .mosaicPictureEmit _ => true
  | .spliceGroupOpen h g => slotOk h && elOk g
  | .spliceGroupClose h g => slotOk h && elOk g
  | .mosaicOpen h m => slotOk h && elOk m
  | .mosaicClose h m => slotOk h && elOk m
  | .query _ message _ _ => frameLen message
  | .fretDataSend _ _ => true
  | .link _ message => frameLen message
  | .linkWindowEnd => true
  | .hintRefreshExpiry _ => true
  | .slot _ message => frameLen message
  | .peerTimeout _ => true
  | .bearerSuspend _ message => frameLen message
  | .bearerResume _ message => frameLen message
  | .bearerRemap _ message => frameLen message
  | .bearerRelease _ message => frameLen message
  | .radioUeWrite h l ue => slotOk h && elOk l && elOk ue
  | .summaryRefill l => elOk l
  | .queueDeadlineAbandon l => elOk l
  | .fretEnable h f => slotOk h && elOk f
  | .fretDisable h f => slotOk h && elOk f
  | .egressPick _ _ => true
  | .shaperTick => true
  | .legGroupOpen h g => slotOk h && elOk g
  | .legGroupClose h g => slotOk h && elOk g
  | .groupWrite h l group => slotOk h && elOk l && elOk group
  | .install h context blob => slotOk h && elOk context && reqLen blob
  | .erase h context => slotOk h && elOk context
  | .prevHoldExpiry context => elOk context
  | .kekKeyWrite h sl key => slotOk h && elOk sl && fits 256 key
  | .kekClear h sl => slotOk h && elOk sl
  | .zeroise h value => slotOk h && fits 80 value
  | .secAlarm cause => fits 8 cause
  | .silentEntry conf => elOk conf
  | .graphBlob h g bytes => slotOk h && elOk g && reqLen bytes
  | .compile h g => slotOk h && elOk g
  | .compileDone _ => true
  | .run h g => slotOk h && elOk g
  | .stop h g => slotOk h && elOk g
  | .graphDelete h g => slotOk h && elOk g
  | .portEnable h _ => slotOk h
  | .portDisableAudio h _ frame => slotOk h && fits 64 frame
  | .prerollEnd _ frame => fits 64 frame
  | .postrollEnd _ frame => fits 64 frame
  | .maskApply _ frame => fits 64 frame
  | .audAsrcLocked _ => true
  | .audClockLost _ => true
  | .audClockRestored _ frame => fits 64 frame
  | .audFsErr _ _ => true
  | .audAsrcRelock _ => true
  | .aesBlockRx _ => true
  | .submit descriptor graph node _ egress => decide (descriptor.length = 192) && elOk graph && elOk node && fits 32 egress
  | .dispatchCycle => true
  | .workItemCommit _ stalls => fits 32 stalls
  | .workItemFault _ _ stalls word => fits 32 stalls && fits 18 word
  | .retire h _ unit_ => slotOk h && elOk unit_
  | .unretire h _ unit_ => slotOk h && elOk unit_
  | .unitRetirement _ unit_ cause => elOk unit_ && fits 8 cause
  | .decodeOpen h d => slotOk h && elOk d
  | .decodeClose h d => slotOk h && elOk d
  | .pictureReady _ _ => true
  | .pictureComplete _ _ => true
  | .pictureAbandon _ _ _ _ => true
  | .startMsExpiry _ => true
  | .encodeOpen h e => slotOk h && elOk e
  | .encodeClose h e => slotOk h && elOk e
  | .layerPictureComplete _ _ _ _ _ _ => true
  | .encodeDeadline _ => true
  | .outputOpen h k => slotOk h && elOk k
  | .outputClose h k => slotOk h && elOk k
  | .composeFrameComplete _ _ => true
  | .engage h value => slotOk h && fits 80 value
  | .pinEngage _ => true
  | .pinRelease => true
  | .releasePin h value _ => slotOk h && fits 80 value
  | .overridePlayStart => true
  | .seal h entry => slotOk h && elOk entry
  | .storeClear h entry => slotOk h && elOk entry
  | .storeData h entry bytes => slotOk h && elOk entry && reqLen bytes
  | .retrain h _ => slotOk h
  | .trackingPass _ drift => fits 64 drift
  | .refresh _ _ _ => true
  | .scrubRepair _ _ _ => true
  | .fence h pc => slotOk h && elOk pc
  | .unfence h pc => slotOk h && elOk pc
  | .margin h _ => slotOk h
  | .capoSet h port => slotOk h && elOk port
  | .capoClear h port => slotOk h && elOk port
  | .drained _ => true
  | .arbCapoTimeout _ => true
  | .dmaStart h channel _ _ => slotOk h && elOk channel
  | .dmaStop h channel _ => slotOk h && elOk channel
  | .dmaDisable h channel _ => slotOk h && elOk channel
  | .dmaDescriptorDone _ _ _ _ => true
  | .encodeFrameTick _ => true
  | .waitRapRefresh _ => true
  | .audRateRange _ => true
  | .factoryProgramming objects => objects.all objOk
  | .tamelserService _ => true
  | .pciePerstN => true
  | .ringHeadWrite h ring head => slotOk h && decide (ring < 4) && fits 32 head
  | .ringCtrlWrite h ring _ base size vector shadow => slotOk h && decide (ring < 4) && fits 64 base && fits 32 size && fits 16 vector && fits 64 shadow
  | .overrideStreamPlayout _ => true

end Sys2Proof
end

