-- ==== Sys2Proof/Tests/Slice0.lean ====
section
/-! SUPPORT. Well-formedness: an ill-formed term for each check of each command, which the check refuses, and a well-formed
term of each command, which it passes. -/

namespace Sys2Proof.Tests

open Sys2Proof Sys2Proof.Machine

def dg (p : Nat) : Datagram := { mg := 0, src := 0, sport := p, dst := 0, dport := 0, vlan := 0, bytes := [] }
def ow (i : Nat) : ObjWrite := { index := i, element := 0, sub := 0, value := 0 }
def fr (n : Nat) : Frame :=
  { port := 0, length := 8, aborted := false, pause := false, fcsOk := true, storeParity := false, cacheFault := false,
    toLocal := false, etype := 0, vids := [], l3 := .other, raw := List.replicate n 0 }
def acc : CoreAccess := { write := false, addr := 0, n := 0, data := [] }

theorem test_well_formed_1 : (([
    .hello (dg 0),
    .request (.pcie 0) {},
    .objectWrite 0 (ow 0) {},
    .deferredTxnApply {},
    .lockWaitTimeout {},
    .abort 0 0 0,
    .sessionCloseObject 0 0,
    .hostCloseFrame (dg 0),
    .sessionTimeout 0,
    .pendingSessionExpiry 0,
    .pcieDoorbell 0 0 [],
    .eventDelivery 0,
    .evRecRead 0,
    .bulkWindowRead 0 0 0 [],
    .bulkWindowWrite 0 0 [],
    .pstateReqActive 0,
    .pstateReqIdle 0,
    .pstateReqStandby 0,
    .idleHbmAccess ,
    .selfRefreshReturn ,
    .wakeAtExpiry {},
    .tin0Wake 0 {},
    .mg0WakeFrame 0 [] {},
    .domainWake 0,
    .domainPowerDown 0,
    .domainDrained 0,
    .clusterClockGate 0,
    .clusterPowerGate 0,
    .supplyWarn 0 0,
    .supplyRecovered 0 0 {},
    .supplyReset 0 0 0 {},
    .powerOn {},
    .porstNReset 0 {},
    .watchdog {},
    .reset 0 0 {},
    .bootRetry {},
    .restore 0 0 {},
    .lcCmdProvision 0 [] {},
    .lcCmdDeploy 0 [] {},
    .lcCmdReturn 0 [] {},
    .lcCmdScrap 0 [] {},
    .lifeCounterSample 0 0 0 0,
    .lifeCounterWrite ,
    .thermWarn 0 0,
    .thermLimit 0 0,
    .setTime 0 0] : List Instr).all Instr.wellFormed) = true := by decide +kernel

theorem test_well_formed_2 : (([
    .refSelWrite 0 0,
    .ptpMessageRx sync1,
    .delayReqSend 0,
    .referenceLost 0,
    .ppsInEdge false 0,
    .ppsTod 0 0,
    .arm 0 0,
    .disarm 0 0,
    .toutEdge 0,
    .tinEdge 0 false 0,
    .tinRead 0 0,
    .rtcReload ,
    .audioBlockTick [] [] [] [],
    .frameTick 0,
    .slotTick 0,
    .linkUp 0 0 0 0,
    .linkDown 0 0 0 0 false,
    .portDisable 0 0,
    .ingressFrame (fr 0),
    .packetCommit 0 false,
    .puntDeliver 0,
    .meterRefill 0 0,
    .legOpen 0 0,
    .legActivate 0 0,
    .legClose 0 0,
    .legTeardownComplete 0,
    .confOpen 0 0,
    .confClose 0 0,
    .sourceDefine 0 0,
    .sourceDelete 0 0,
    .subCreate 0 0,
    .subDelete 0 0,
    .rtcpReportSend 0,
    .upNackSend 0,
    .refreshRequestSend 0,
    .mosaicPictureEmit 0,
    .spliceGroupOpen 0 0,
    .spliceGroupClose 0 0,
    .mosaicOpen 0 0,
    .mosaicClose 0 0,
    .query 0 [] 0 [],
    .fretDataSend 0 0,
    .link 0 [],
    .linkWindowEnd ,
    .hintRefreshExpiry 0,
    .slot 0 []] : List Instr).all Instr.wellFormed) = true := by decide +kernel

theorem test_well_formed_3 : (([
    .peerTimeout 0,
    .bearerSuspend 0 [],
    .bearerResume 0 [],
    .bearerRemap 0 [],
    .bearerRelease 0 [],
    .radioUeWrite 0 0 0,
    .summaryRefill 0,
    .queueDeadlineAbandon 0,
    .fretEnable 0 0,
    .fretDisable 0 0,
    .egressPick 0 0,
    .shaperTick ,
    .legGroupOpen 0 0,
    .legGroupClose 0 0,
    .groupWrite 0 0 0,
    .install 0 0 [],
    .erase 0 0,
    .prevHoldExpiry 0,
    .kekKeyWrite 0 0 0,
    .kekClear 0 0,
    .zeroise 0 0,
    .secAlarm 0,
    .silentEntry 0,
    .graphBlob 0 0 [],
    .compile 0 0,
    .compileDone 0,
    .run 0 0,
    .stop 0 0,
    .graphDelete 0 0,
    .portEnable 0 0,
    .portDisableAudio 0 0 0,
    .prerollEnd 0 0,
    .postrollEnd 0 0,
    .maskApply 0 0,
    .audAsrcLocked 0,
    .audClockLost 0,
    .audClockRestored 0 0,
    .audFsErr 0 0,
    .audAsrcRelock 0,
    .aesBlockRx 0,
    .submit (List.replicate 192 0) 0 0 [] 0,
    .dispatchCycle ,
    .workItemCommit 0 0,
    .workItemFault 0 0 0 0,
    .retire 0 0 0,
    .unretire 0 0 0] : List Instr).all Instr.wellFormed) = true := by decide +kernel

theorem test_well_formed_4 : (([
    .unitRetirement 0 0 0,
    .decodeOpen 0 0,
    .decodeClose 0 0,
    .pictureReady 0 info1,
    .pictureComplete 0 result1,
    .pictureAbandon 0 0 0 acc,
    .startMsExpiry 0,
    .encodeOpen 0 0,
    .encodeClose 0 0,
    .layerPictureComplete 0 0 [] [] [] none,
    .encodeDeadline 0,
    .outputOpen 0 0,
    .outputClose 0 0,
    .composeFrameComplete 0 false,
    .engage 0 0,
    .pinEngage {},
    .pinRelease ,
    .releasePin 0 0 false,
    .overridePlayStart ,
    .seal 0 0,
    .storeClear 0 0,
    .storeData 0 0 [],
    .retrain 0 {},
    .trackingPass 0 0,
    .refresh 0 0 0,
    .scrubRepair none 0 [],
    .fence 0 0,
    .unfence 0 0,
    .margin 0 none,
    .capoSet 0 0,
    .capoClear 0 0,
    .drained 0,
    .arbCapoTimeout 0,
    .dmaStart 0 0 none [],
    .dmaStop 0 0 false,
    .dmaDisable 0 0 [],
    .dmaDescriptorDone 0 [] [] [],
    .encodeFrameTick 0,
    .waitRapRefresh 0,
    .audRateRange 0,
    .factoryProgramming [],
    .tamelserService {},
    .pciePerstN ,
    .ringHeadWrite 0 0 0,
    .ringCtrlWrite 0 0 false 0 0 0 0,
    .overrideStreamPlayout 0] : List Instr).all Instr.wellFormed) = true := by decide +kernel

theorem test_ill_formed_1 : (([
    .hello (dg 65536),
    .request (.pcie 8) {},
    .request (.mg (dg 65536)) {},
    .objectWrite 8 (ow 0) {},
    .objectWrite 0 (ow 65536) {},
    .abort 8 0 0,
    .abort 0 8 0,
    .abort 0 0 (2 ^ 32),
    .sessionCloseObject 8 0,
    .sessionCloseObject 0 8,
    .hostCloseFrame (dg 65536),
    .pcieDoorbell 8 0 [],
    .pcieDoorbell 0 (2 ^ 32) [],
    .bulkWindowRead 0 (2 ^ 64) 0 [],
    .bulkWindowRead 0 0 (2 ^ 32) [],
    .bulkWindowWrite 0 (2 ^ 64) [],
    .pstateReqActive 8,
    .pstateReqIdle 8,
    .pstateReqStandby 8,
    .mg0WakeFrame (2 ^ 48) [] {},
    .mg0WakeFrame 0 (List.replicate 9217 0) {},
    .domainWake 72,
    .domainPowerDown 72,
    .domainDrained 72,
    .supplyWarn 0 (2 ^ 16),
    .supplyRecovered 0 (2 ^ 16) {},
    .supplyReset 0 (2 ^ 16) 0 {},
    .supplyReset 0 0 (2 ^ 32) {},
    .reset 8 0 {},
    .reset 0 (2 ^ 80) {},
    .restore 8 0 {},
    .restore 0 (2 ^ 80) {},
    .lcCmdProvision 8 [] {},
    .lcCmdProvision 0 [ow 65536] {},
    .lcCmdDeploy 8 [] {},
    .lcCmdDeploy 0 [ow 65536] {},
    .lcCmdReturn 8 [] {},
    .lcCmdReturn 0 [ow 65536] {},
    .lcCmdScrap 8 [] {},
    .lcCmdScrap 0 [ow 65536] {}] : List Instr).any Instr.wellFormed) = false := by decide +kernel

theorem test_ill_formed_2 : (([
    .lifeCounterSample 0 (2 ^ 16) 0 0,
    .lifeCounterSample 0 0 0 (2 ^ 8),
    .thermWarn (2 ^ 8) 0,
    .thermLimit (2 ^ 8) 0,
    .setTime 8 0,
    .setTime 0 (2 ^ 80),
    .refSelWrite 8 0,
    .refSelWrite 0 (2 ^ 80),
    .ppsTod 8 0,
    .ppsTod 0 (2 ^ 80),
    .arm 8 0,
    .arm 0 (2 ^ 24),
    .disarm 8 0,
    .disarm 0 (2 ^ 24),
    .tinRead 8 0,
    .tinRead 0 (2 ^ 24),
    .linkUp 0 (2 ^ 2) 0 0,
    .linkDown 0 (2 ^ 2) 0 0 false,
    .portDisable 8 0,
    .portDisable 0 (2 ^ 24),
    .ingressFrame (fr 5),
    .meterRefill 8 0,
    .meterRefill 0 (2 ^ 24),
    .legOpen 8 0,
    .legOpen 0 (2 ^ 24),
    .legActivate 8 0,
    .legActivate 0 (2 ^ 24),
    .legClose 8 0,
    .legClose 0 (2 ^ 24),
    .legTeardownComplete (2 ^ 24),
    .confOpen 8 0,
    .confOpen 0 (2 ^ 24),
    .confClose 8 0,
    .confClose 0 (2 ^ 24),
    .sourceDefine 8 0,
    .sourceDefine 0 (2 ^ 24),
    .sourceDelete 8 0,
    .sourceDelete 0 (2 ^ 24),
    .subCreate 8 0,
    .subCreate 0 (2 ^ 24)] : List Instr).any Instr.wellFormed) = false := by decide +kernel

theorem test_ill_formed_3 : (([
    .subDelete 8 0,
    .subDelete 0 (2 ^ 24),
    .rtcpReportSend (2 ^ 24),
    .upNackSend (2 ^ 24),
    .refreshRequestSend (2 ^ 24),
    .spliceGroupOpen 8 0,
    .spliceGroupOpen 0 (2 ^ 24),
    .spliceGroupClose 8 0,
    .spliceGroupClose 0 (2 ^ 24),
    .mosaicOpen 8 0,
    .mosaicOpen 0 (2 ^ 24),
    .mosaicClose 8 0,
    .mosaicClose 0 (2 ^ 24),
    .query 0 (List.replicate 9217 0) 0 [],
    .link 0 (List.replicate 9217 0),
    .slot 0 (List.replicate 9217 0),
    .bearerSuspend 0 (List.replicate 9217 0),
    .bearerResume 0 (List.replicate 9217 0),
    .bearerRemap 0 (List.replicate 9217 0),
    .bearerRelease 0 (List.replicate 9217 0),
    .radioUeWrite 8 0 0,
    .radioUeWrite 0 (2 ^ 24) 0,
    .radioUeWrite 0 0 (2 ^ 24),
    .summaryRefill (2 ^ 24),
    .queueDeadlineAbandon (2 ^ 24),
    .fretEnable 8 0,
    .fretEnable 0 (2 ^ 24),
    .fretDisable 8 0,
    .fretDisable 0 (2 ^ 24),
    .legGroupOpen 8 0,
    .legGroupOpen 0 (2 ^ 24),
    .legGroupClose 8 0,
    .legGroupClose 0 (2 ^ 24),
    .groupWrite 8 0 0,
    .groupWrite 0 (2 ^ 24) 0,
    .groupWrite 0 0 (2 ^ 24),
    .install 8 0 [],
    .install 0 (2 ^ 24) [],
    .install 0 0 (List.replicate 16385 0),
    .erase 8 0] : List Instr).any Instr.wellFormed) = false := by decide +kernel

theorem test_ill_formed_4 : (([
    .erase 0 (2 ^ 24),
    .prevHoldExpiry (2 ^ 24),
    .kekKeyWrite 8 0 0,
    .kekKeyWrite 0 (2 ^ 24) 0,
    .kekKeyWrite 0 0 (2 ^ 256),
    .kekClear 8 0,
    .kekClear 0 (2 ^ 24),
    .zeroise 8 0,
    .zeroise 0 (2 ^ 80),
    .secAlarm (2 ^ 8),
    .silentEntry (2 ^ 24),
    .graphBlob 8 0 [],
    .graphBlob 0 (2 ^ 24) [],
    .graphBlob 0 0 (List.replicate 16385 0),
    .compile 8 0,
    .compile 0 (2 ^ 24),
    .run 8 0,
    .run 0 (2 ^ 24),
    .stop 8 0,
    .stop 0 (2 ^ 24),
    .graphDelete 8 0,
    .graphDelete 0 (2 ^ 24),
    .portEnable 8 0,
    .portDisableAudio 8 0 0,
    .portDisableAudio 0 0 (2 ^ 64),
    .prerollEnd 0 (2 ^ 64),
    .postrollEnd 0 (2 ^ 64),
    .maskApply 0 (2 ^ 64),
    .audClockRestored 0 (2 ^ 64),
    .submit [0] 0 0 [] 0,
    .submit (List.replicate 192 0) (2 ^ 24) 0 [] 0,
    .submit (List.replicate 192 0) 0 (2 ^ 24) [] 0,
    .submit (List.replicate 192 0) 0 0 [] (2 ^ 32),
    .workItemCommit 0 (2 ^ 32),
    .workItemFault 0 0 (2 ^ 32) 0,
    .workItemFault 0 0 0 (2 ^ 18),
    .retire 8 0 0,
    .retire 0 0 (2 ^ 24),
    .unretire 8 0 0,
    .unretire 0 0 (2 ^ 24)] : List Instr).any Instr.wellFormed) = false := by decide +kernel

theorem test_ill_formed_5 : (([
    .unitRetirement 0 (2 ^ 24) 0,
    .unitRetirement 0 0 (2 ^ 8),
    .decodeOpen 8 0,
    .decodeOpen 0 (2 ^ 24),
    .decodeClose 8 0,
    .decodeClose 0 (2 ^ 24),
    .encodeOpen 8 0,
    .encodeOpen 0 (2 ^ 24),
    .encodeClose 8 0,
    .encodeClose 0 (2 ^ 24),
    .outputOpen 8 0,
    .outputOpen 0 (2 ^ 24),
    .outputClose 8 0,
    .outputClose 0 (2 ^ 24),
    .engage 8 0,
    .engage 0 (2 ^ 80),
    .releasePin 8 0 false,
    .releasePin 0 (2 ^ 80) false,
    .seal 8 0,
    .seal 0 (2 ^ 24),
    .storeClear 8 0,
    .storeClear 0 (2 ^ 24),
    .storeData 8 0 [],
    .storeData 0 (2 ^ 24) [],
    .storeData 0 0 (List.replicate 16385 0),
    .retrain 8 {},
    .trackingPass 0 (2 ^ 64),
    .fence 8 0,
    .fence 0 (2 ^ 24),
    .unfence 8 0,
    .unfence 0 (2 ^ 24),
    .margin 8 none,
    .capoSet 8 0,
    .capoSet 0 (2 ^ 24),
    .capoClear 8 0,
    .capoClear 0 (2 ^ 24),
    .dmaStart 8 0 none [],
    .dmaStart 0 (2 ^ 24) none [],
    .dmaStop 8 0 false,
    .dmaStop 0 (2 ^ 24) false] : List Instr).any Instr.wellFormed) = false := by decide +kernel

theorem test_ill_formed_6 : (([
    .dmaDisable 8 0 [],
    .dmaDisable 0 (2 ^ 24) [],
    .factoryProgramming [ow 65536],
    .ringHeadWrite 8 0 0,
    .ringHeadWrite 0 4 0,
    .ringHeadWrite 0 0 (2 ^ 32),
    .ringCtrlWrite 8 0 false 0 0 0 0,
    .ringCtrlWrite 0 4 false 0 0 0 0,
    .ringCtrlWrite 0 0 false (2 ^ 64) 0 0 0,
    .ringCtrlWrite 0 0 false 0 (2 ^ 32) 0 0,
    .ringCtrlWrite 0 0 false 0 0 (2 ^ 16) 0,
    .ringCtrlWrite 0 0 false 0 0 0 (2 ^ 64)] : List Instr).any Instr.wellFormed) = false := by decide +kernel

theorem next_of {o : Out} (h : after o (fun _ => true) = true) : ∃ t, o = .next t := by
  unfold after at h
  split at h
  · exact ⟨_, rfl⟩
  · simp at h

/-- Witnesses for the statements about every command. -/
def asleep : State := put [(Pwr.PSTATE, 0, 2)] State.reset

theorem test_meets_asleepOnly : ∃ (s : State) (c : Instr), s.running = false ∧ actsAsleep c = false :=
  ⟨asleep, .shaperTick, by decide +kernel, by decide +kernel⟩

theorem test_meets_sleepIsKept : ∃ s t : State, s.Sleeps ∧ step s = .next t :=
  have ⟨t, h⟩ := next_of (o := step { asleep with pending := [.shaperTick] }) (by decide +kernel)
  ⟨_, t, ⟨by decide +kernel, by decide +kernel⟩, h⟩

theorem test_meets_shaperRefill : ∃ s : State, s.running = true := ⟨awake, by decide +kernel⟩

end Sys2Proof.Tests
end

section
/-! Media ingress (chapter 4): what the FIFO of a logical port does with a frame that it admits but that the MAC aborts before
its first word is stored (R88). -/

namespace Sys2Proof.Machine

/-- The state once the context records in HBM that a frame brings as damaged are known so. -/
def State.noteDamaged (s : State) (cs : List Nat) : State :=
  { s with cip := { s.cip with damaged := cs.filter (fun c => !s.cip.damaged.contains c) ++ s.cip.damaged } }

/-- Knowing records as damaged touches no object. -/
@[simp] theorem State.noteDamaged_od (s : State) (cs : List Nat) : (s.noteDamaged cs).od = s.od := rfl

@[simp] theorem State.noteDamaged_ing (s : State) (cs : List Nat) : (s.noteDamaged cs).ing = s.ing := rfl

@[simp] theorem State.noteDamaged_fwd (s : State) (cs : List Nat) : (s.noteDamaged cs).fwd = s.fwd := rfl

@[simp] theorem State.noteDamaged_ev (s : State) (cs : List Nat) : (s.noteDamaged cs).ev = s.ev := rfl

@[simp] theorem State.noteDamaged_out (s : State) (cs : List Nat) : (s.noteDamaged cs).out = s.out := rfl

@[simp] theorem State.rd_noteDamaged (s : State) (cs : List Nat) (col el : Nat) :
    (s.noteDamaged cs).rd col el = s.rd col el := State.rd_congr rfl col el

@[simp] theorem State.on_noteDamaged (s : State) (cs : List Nat) (col el : Nat) :
    (s.noteDamaged cs).on col el = s.on col el := by
  simp only [State.on, State.rd_noteDamaged]

@[simp] theorem State.flight_noteDamaged (s : State) (cs : List Nat) (p : Nat) :
    (s.noteDamaged cs).flight p = s.flight p := rfl

/-- A counter may be counted up before or after damaged records are noted. -/
theorem State.bump_noteDamaged (s : State) (cs : List Nat) (col el n : Nat) :
    (s.noteDamaged cs).bump col el n = (s.bump col el n).noteDamaged cs := rfl

/-- A frame on one of the 16 logical ports goes to that port's FIFO. -/
theorem ingressFrame_logicalPort {f : Frame} {s : State} (hp : f.port.val < 16) :
    ingressFrame f s = (s.noteDamaged f.damaged).mediaFrame f :=
  if_pos hp

/-- A running device takes in the frame. -/
theorem exec_ingressFrame {f : Frame} {s : State} (hrun : s.running = true) :
    exec (.ingressFrame f) s = .next (ingressFrame f s) :=
  live_running hrun

/-- Does the FIFO of a logical port admit a frame (R87)? The port is up, a frame of MAX_FRAME bytes fits, and a descriptor is
free. -/
structure State.Admits (s : State) (p : Nat) : Prop where
  enabled : s.on Lp.ENABLE p = true
  linked : s.on Lp.LINK p = true
  room : s.rd Lp.FIFO_LEVEL p + s.rd Lp.MAX_FRAME p ≤ 524288
  descriptor : (s.flight p).length < 2048

/-- Noting damaged records leaves admission as it was. -/
theorem State.Admits.noteDamaged {s : State} {p : Nat} (a : s.Admits p) (cs : List Nat) : (s.noteDamaged cs).Admits p where
  enabled := by simpa using a.enabled
  linked := by simpa using a.linked
  room := by simpa using a.room
  descriptor := by simpa using a.descriptor

/-- An admitted frame that the MAC aborted is counted in ZERO_LEN, and that is all. -/
theorem State.mediaFrame_aborted {s : State} {f : Frame} (a : s.Admits f.port) (hab : f.aborted = true) :
    s.mediaFrame f = s.bump Lp.ZERO_LEN f.port := by
  have hup : ¬ (!s.on Lp.ENABLE f.port || !s.on Lp.LINK f.port) = true := by simp [a.enabled, a.linked]
  have hroom : ¬ (524288 - s.rd Lp.FIFO_LEVEL f.port < s.rd Lp.MAX_FRAME f.port || 2048 ≤ (s.flight f.port).length) = true := by
    have := a.room
    have := a.descriptor
    rw [Bool.or_eq_true, decide_eq_true_eq, decide_eq_true_eq]
    omega
  unfold State.mediaFrame
  rw [if_neg hup, if_neg hroom, if_pos hab]

/-- The whole effect of INGRESS_FRAME on such a frame: ZERO_LEN of its port, beside the note of the records damaged meanwhile. -/
theorem exec_ingressFrame_aborted {s : State} {f : Frame} (hrun : s.running = true) (hp : f.port.val < 16)
    (a : s.Admits f.port) (hab : f.aborted = true) :
    exec (.ingressFrame f) s = .next ((s.bump Lp.ZERO_LEN f.port).noteDamaged f.damaged) := by
  rw [exec_ingressFrame hrun, ingressFrame_logicalPort hp, State.mediaFrame_aborted (a.noteDamaged _) hab,
    State.bump_noteDamaged]

/-- Settles O28: admission (R87) lets the frame in, so R88 alone decides on it. -/
theorem zeroLengthPackets : Obligations.ZeroLengthPackets := by
  unfold Obligations.ZeroLengthPackets
  intro s f hrun ⟨hp, hen, hlink⟩ hroom hdesc hab
  have admitted : s.Admits f.port := ⟨hen, hlink, hroom, hdesc⟩
  exact ⟨_, exec_ingressFrame_aborted hrun hp admitted hab, by simp⟩

end Sys2Proof.Machine
end

section
/-! The Fret interface (chapter 6): what the reception of a valid frame changes before its handler runs (R135, R151), what the
binding of a leg depends on (R136), and what the entry of a LINK message does (R147). -/

namespace Sys2Proof.Machine

/-! Columns: a read, and a search by value, depend on one column each. -/

theorem State.rd_congr_column {s t : State} {col : Nat} (h : s.column col = t.column col) (el : Nat) :
    s.rd col el = t.rd col el := by
  simp only [State.rd, h]

theorem State.elemsWith_congr_column {s t : State} {col : Nat} (h : s.column col = t.column col) (v : Nat) :
    s.elemsWith col v = t.elemsWith col v := by
  simp only [State.elemsWith, h]

theorem State.column_bump_ne (s : State) (col el n c : Nat) (h : c ≠ col) : (s.bump col el n).column c = s.column c := by
  rw [State.bump, State.column_wr, if_neg h]

/-- A binding is found by five columns of the legs (R136). -/
theorem State.binding_congr {s t : State}
    (h : ∀ col ∈ [Leg.STATE, Leg.KIND, Leg.PORT, Leg.RADIO_UE, FLeg.BEARER], s.column col = t.column col)
    (f ue bearer : Nat) : s.binding f ue bearer = t.binding f ue bearer := by
  have read (col el : Nat) (hc : col ∈ [Leg.STATE, Leg.KIND, Leg.PORT, Leg.RADIO_UE, FLeg.BEARER]) :
      s.rd col el = t.rd col el := State.rd_congr_column (h col hc) el
  have active : s.elemsWith Leg.STATE 2 = t.elemsWith Leg.STATE 2 :=
    State.elemsWith_congr_column (h Leg.STATE (by simp)) 2
  simp only [State.binding, active, read Leg.KIND _ (by simp), read Leg.PORT _ (by simp), read Leg.RADIO_UE _ (by simp),
    read FLeg.BEARER _ (by simp)]

/-! The internal state of a Fret port and of a leg's downlink queue. -/

@[simp] theorem State.fPortUpd_column (s : State) (f : Nat) (g : FPortX → FPortX) (col : Nat) :
    (s.fPortUpd f g).column col = s.column col := rfl
@[simp] theorem State.fPortUpd_legs (s : State) (f : Nat) (g : FPortX → FPortX) :
    (s.fPortUpd f g).fret.legs = s.fret.legs := rfl
@[simp] theorem State.fPortUpd_out (s : State) (f : Nat) (g : FPortX → FPortX) : (s.fPortUpd f g).out = s.out := rfl
@[simp] theorem State.fPortUpd_phys (s : State) (f : Nat) (g : FPortX → FPortX) : (s.fPortUpd f g).phys = s.phys := rfl

@[simp] theorem State.fLegUpd_out (s : State) (l : Nat) (g : FLegX → FLegX) : (s.fLegUpd l g).out = s.out := rfl

@[simp] theorem State.fLeg_fLegUpd_self (s : State) (l : Nat) (g : FLegX → FLegX) :
    (s.fLegUpd l g).fLeg l = g (s.fLeg l) := by
  simp [State.fLeg, State.fLegUpd, Tbl.get_upd]

theorem State.fLeg_congr {s t : State} (h : s.fret.legs = t.fret.legs) (l : Nat) : s.fLeg l = t.fLeg l := by
  simp only [State.fLeg, h]

/-! Reception of a valid frame. -/

/-- The SEQ of a frame is kept by its port, and a gap in it is counted (R135). -/
theorem State.fretSeq_cases (s : State) (f seq : Nat) :
    s.fretSeq f seq = s.fPortUpd f (fun x => { x with rxSeq := some seq }) ∨
      s.fretSeq f seq = (s.bump Fret.SEQ_GAPS f).fPortUpd f (fun x => { x with rxSeq := some seq }) := by
  unfold State.fretSeq
  split
  · split
    · exact .inl rfl
    · exact .inr rfl
  · exact .inl rfl

/-- A peer that is known already is only marked as heard (R151). -/
theorem State.fretHeard_known {s : State} {f : Nat} (h : s.rd Fret.PEER f = 1) :
    s.fretHeard f = s.fPortUpd f (fun x => { x with heardAt := s.phys }) := by
  have : (s.fPortUpd f (fun x => { x with heardAt := s.phys })).rd Fret.PEER f ≠ 0 := by
    rw [State.rd_congr_column (State.fPortUpd_column ..), h]
    decide
  unfold State.fretHeard
  exact if_neg this

/-- What the reception of a valid frame on port f leaves alone: every column but SEQ_GAPS, the legs, what the block emitted,
and the cycle. -/
structure FretNoted (s t : State) : Prop where
  column : ∀ col, col ≠ Fret.SEQ_GAPS → t.column col = s.column col
  legs : t.fret.legs = s.fret.legs
  out : t.out = s.out
  phys : t.phys = s.phys

theorem FretNoted.fretSeq (s : State) (f seq : Nat) : FretNoted s (s.fretSeq f seq) := by
  obtain h | h := s.fretSeq_cases f seq
  · exact ⟨fun col _ => by simp [h], by simp [h], by simp [h], by simp [h]⟩
  · exact ⟨fun col hc => by simp [h, State.column_bump_ne _ _ _ _ _ hc], by simp [h], by simp [h], by simp [h]⟩

theorem FretNoted.fretHeard {s t : State} {f : Nat} (a : FretNoted s t) (h : t.rd Fret.PEER f = 1) :
    FretNoted s (t.fretHeard f) := by
  rw [State.fretHeard_known h]
  exact ⟨a.column, a.legs, a.out, a.phys⟩

/-- A read of any object but SEQ_GAPS. -/
theorem FretNoted.rd {s t : State} (a : FretNoted s t) {col : Nat} (hc : col ≠ Fret.SEQ_GAPS) (el : Nat) :
    t.rd col el = s.rd col el :=
  State.rd_congr_column (a.column col hc) el

theorem FretNoted.fLeg {s t : State} (a : FretNoted s t) (l : Nat) : t.fLeg l = s.fLeg l :=
  State.fLeg_congr a.legs l

theorem FretNoted.binding {s t : State} (a : FretNoted s t) (f ue bearer : Nat) :
    t.binding f ue bearer = s.binding f ue bearer := by
  have noGaps : ∀ col ∈ [Leg.STATE, Leg.KIND, Leg.PORT, Leg.RADIO_UE, FLeg.BEARER], col ≠ Fret.SEQ_GAPS := by decide
  exact State.binding_congr (fun col hc => a.column col (noGaps col hc)) f ue bearer

/-- A valid frame of a known peer on an enabled port runs its handler after its reception is noted. -/
theorem fretFrame_noted {s : State} {type f : Nat} {m : Bytes} (handle : State → State) (hen : s.on Fret.ENABLE f = true)
    (hpeer : s.rd Fret.PEER f = 1) (hok : fretCheck m = none) (htype : byteAt m 1 = type) :
    ∃ t, FretNoted s t ∧ fretFrame type f m handle s = handle t := by
  have noted := FretNoted.fretSeq s f (beAt m 4 4)
  have known : (s.fretSeq f (beAt m 4 4)).rd Fret.PEER f = 1 := (noted.rd (by decide) f).trans hpeer
  refine ⟨(s.fretSeq f (beAt m 4 4)).fretHeard f, noted.fretHeard known, ?_⟩
  simp only [fretFrame, hen, hok, htype, Bool.not_true, Bool.false_eq_true, if_false, if_true]

/-! LINK (R147). -/

/-- A running device takes a LINK of one entry: the entry acts on the state with the frame's reception noted. -/
theorem exec_link_single {s : State} {f : Fin 2} {m : Bytes} (hrun : s.running = true) (hen : s.on Fret.ENABLE f = true)
    (hpeer : s.rd Fret.PEER f = 1) (hok : fretCheck m = none) (htype : byteAt m 1 = 4) (hcount : beAt m 12 2 = 1) :
    ∃ t, FretNoted s t ∧ exec (.link f m) s = .next (t.linkEntry f m 0) := by
  obtain ⟨t, noted, hframe⟩ := fretFrame_noted (link f m) hen hpeer hok htype
  have single : link f m t = t.linkEntry f m 0 := by simp [link, hcount]
  exact ⟨t, noted, (live_running hrun).trans (by rw [hframe, single])⟩

/-- What an entry with a binding adds to the downlink queue's state of the leg that holds it. -/
def FLegX.withLink (x : FLegX) (rate lflags now : Nat) : FLegX :=
  { x with rates := x.rates ++ [rate], outage := x.outage || lflags % 2 == 1, linkAt := some now }

theorem State.linkEntry_bound {s : State} {f l : Nat} {m : Bytes}
    (h : s.binding f (beAt m 16 4) (byteAt m 20) = some l) :
    s.linkEntry f m 0 = s.fLegUpd l (fun x => x.withLink (beAt m 24 4) (byteAt m 21) s.phys) := by
  simp only [State.linkEntry, Nat.mul_zero, Nat.add_zero, h]
  rfl

theorem State.linkEntry_unbound {s : State} {f : Nat} {m : Bytes}
    (h : s.binding f (beAt m 16 4) (byteAt m 20) = none) : s.linkEntry f m 0 = s.bump Fret.RX_DISCARD f := by
  simp only [State.linkEntry, Nat.mul_zero, Nat.add_zero, h]

theorem colBits_rxDiscard : colBits Fret.RX_DISCARD = 64 := by decide

/-- Settles O37. The reception of the frame moves neither bindings nor legs, so the entry resolves as it does before the
command; SLOT is not looked at, which is the model's choice (log 238). -/
theorem fretLinkEntries : Obligations.FretLinkEntries := by
  unfold Obligations.FretLinkEntries
  constructor
  · intro s f m l hrun ⟨hen, hpeer⟩ ⟨hok, htype, hcount⟩ hbound
    obtain ⟨t, noted, hexec⟩ := exec_link_single hrun hen hpeer hok htype hcount
    refine ⟨_, hexec, ?_⟩
    rw [State.linkEntry_bound ((noted.binding ..).trans hbound)]
    simp [FLegX.withLink, noted.fLeg, noted.phys, noted.out]
  · intro s f m hrun ⟨hen, hpeer⟩ ⟨hok, htype, hcount⟩ hunbound
    obtain ⟨t, noted, hexec⟩ := exec_link_single hrun hen hpeer hok htype hcount
    refine ⟨_, hexec, ?_⟩
    rw [State.linkEntry_unbound ((noted.binding ..).trans hunbound)]
    have counted : (t.bump Fret.RX_DISCARD f).rd Fret.RX_DISCARD f = (s.rd Fret.RX_DISCARD f + 1) % 2 ^ 64 := by
      rw [State.rd_bump_self, colBits_rxDiscard, noted.rd (by decide)]
    exact ⟨counted, noted.legs, noted.out⟩

end Sys2Proof.Machine
end

section
/-! The token shapers (chapter 7): the closed form of a refill against its per-tick procedure (R162), and the shaper that a
leg or a group starts with (R164). -/

namespace Sys2Proof.Machine

/-! Ticks in turn. -/

theorem ShX.ticks_add (sh : ShX) (j k : Nat) : sh.ticks (j + k) = (sh.ticks j).ticks k := by
  induction j generalizing sh with
  | zero => rw [Nat.zero_add, ShX.ticks]
  | succ j ih => rw [Nat.succ_add, ShX.ticks, ih, ShX.ticks]

theorem ShX.ticks_succ (sh : ShX) (k : Nat) : sh.ticks (k + 1) = (sh.ticks k).tickOnce := by
  rw [ShX.ticks_add, ShX.ticks, ShX.ticks]

/-! The closed form of several ticks under the values in force. -/

theorem ShX.fill_pos (sh : ShX) {k : Nat} (h : 0 < k) :
    sh.fill k = { sh with
      tok := min (sh.tok + (k * sh.rate * 1000 : Nat)) (sh.burst * tokB : Nat), tick := sh.tick + k } :=
  if_neg (by omega)

@[simp] theorem ShX.fill_tick (sh : ShX) (k : Nat) : (sh.fill k).tick = sh.tick + k := by
  unfold ShX.fill
  split <;> simp [*]

/-- One tick more: stopping at BURST on the way loses nothing, since ticks only add. -/
theorem ShX.fill_succ (sh : ShX) (k : Nat) : sh.fill (k + 1) = (sh.fill 1).fill k := by
  obtain rfl | hk := Nat.eq_zero_or_pos k
  · rfl
  have tokens : min (sh.tok + ((k + 1) * sh.rate * 1000 : Nat)) (sh.burst * tokB : Nat) =
      min (min (sh.tok + (1 * sh.rate * 1000 : Nat)) (sh.burst * tokB : Nat) + (k * sh.rate * 1000 : Nat))
        (sh.burst * tokB : Nat) := by
    rw [Nat.succ_mul, Nat.add_mul]
    omega
  rw [ShX.fill_pos sh (Nat.succ_pos k), ShX.fill_pos sh Nat.one_pos, ShX.fill_pos _ hk]
  simp only [tokens, Nat.add_assoc, Nat.add_comm 1 k]

/-! When the waiting values come into force. -/

/-- Do waiting values come into force by tick n? -/
def ShX.Due (sh : ShX) (n : Nat) : Prop := sh.pend = true ∧ sh.pendTick ≤ n

/-- `ShX.tickOnce` and `ShX.refill` test for it as a Bool. -/
theorem ShX.due_iff (sh : ShX) (n : Nat) : (sh.pend && decide (sh.pendTick ≤ n)) = true ↔ sh.Due n := by
  simp [ShX.Due]

theorem ShX.Due.mono {sh : ShX} {m n : Nat} (h : sh.Due m) (le : m ≤ n) : sh.Due n := ⟨h.1, h.2.trans le⟩

@[simp] theorem ShX.due_fill (sh : ShX) (k n : Nat) : (sh.fill k).Due n ↔ sh.Due n := by
  unfold ShX.fill
  split <;> rfl

@[simp] theorem ShX.apply_tick (sh : ShX) : sh.apply.tick = sh.tick := rfl

@[simp] theorem ShX.not_due_apply (sh : ShX) (n : Nat) : ¬ sh.apply.Due n := fun h => Bool.false_ne_true h.1

theorem ShX.tickOnce_due {sh : ShX} (h : sh.Due (sh.tick + 1)) : sh.tickOnce = sh.apply.fill 1 := by
  rw [ShX.fill_pos _ Nat.one_pos, Nat.one_mul]
  simp only [ShX.tickOnce, if_pos ((ShX.due_iff ..).mpr h)]
  rfl

theorem ShX.tickOnce_not_due {sh : ShX} (h : ¬ sh.Due (sh.tick + 1)) : sh.tickOnce = sh.fill 1 := by
  rw [ShX.fill_pos sh Nat.one_pos, Nat.one_mul]
  simp only [ShX.tickOnce, if_neg (mt (ShX.due_iff ..).mp h)]

/-- Ticks on which no values come into force fill the shaper. -/
theorem ShX.ticks_not_due {sh : ShX} {k : Nat} (h : ¬ sh.Due (sh.tick + k)) : sh.ticks k = sh.fill k := by
  induction k generalizing sh with
  | zero => rfl
  | succ k ih =>
    have first : ¬ sh.Due (sh.tick + 1) := fun d => h (d.mono (by omega))
    have rest : ¬ (sh.fill 1).Due ((sh.fill 1).tick + k) := by
      rw [ShX.due_fill, ShX.fill_tick, Nat.add_assoc, Nat.add_comm 1 k]
      exact h
    rw [ShX.ticks, ShX.tickOnce_not_due first, ih rest, ← ShX.fill_succ]

/-- Ticks on the first of which the waiting values come into force fill the shaper under the new ones. -/
theorem ShX.ticks_due {sh : ShX} {k : Nat} (h : sh.Due (sh.tick + 1)) : sh.ticks (k + 1) = sh.apply.fill (k + 1) := by
  have rest : ¬ (sh.apply.fill 1).Due ((sh.apply.fill 1).tick + k) := by simp
  rw [ShX.ticks, ShX.tickOnce_due h, ShX.ticks_not_due rest, ← ShX.fill_succ]

/-! The refill. -/

theorem ShX.refill_past {sh : ShX} {n : Nat} (h : n ≤ sh.tick) : sh.refill n = sh := if_pos h

theorem ShX.refill_not_due {sh : ShX} {n : Nat} (h : sh.tick < n) (w : ¬ sh.Due n) :
    sh.refill n = sh.fill (n - sh.tick) := by
  unfold ShX.refill
  rw [if_neg (Nat.not_le.mpr h), if_neg (mt (ShX.due_iff ..).mp w)]

/-- The ticks that run under the old values before waiting ones come into force. -/
def ShX.oldTicks (sh : ShX) : Nat := sh.pendTick - (sh.tick + 1)

/-- Values come into force on the way to tick n: the old ones fill the shaper until then, and the new ones to tick n. -/
theorem ShX.refill_due {sh : ShX} {n k : Nat} (d : sh.Due n) (hk : sh.tick + sh.oldTicks + (k + 1) = n) :
    sh.refill n = (sh.fill sh.oldTicks).apply.fill (k + 1) := by
  have old : max sh.pendTick (sh.tick + 1) - 1 - sh.tick = sh.oldTicks := by unfold ShX.oldTicks; omega
  have new : n - (sh.fill sh.oldTicks).apply.tick = k + 1 := by
    rw [ShX.apply_tick, ShX.fill_tick]
    omega
  unfold ShX.refill
  rw [if_neg (by omega), if_pos ((ShX.due_iff ..).mpr d)]
  simp only [old, new]

/-- Under the old values nothing comes into force. -/
theorem ShX.ticks_oldTicks (sh : ShX) : sh.ticks sh.oldTicks = sh.fill sh.oldTicks := by
  by_cases atOnce : sh.oldTicks = 0
  · rw [atOnce]; rfl
  · exact ShX.ticks_not_due (fun d => by have reached := d.2; unfold ShX.oldTicks at *; omega)

/-- The tick after them is due. -/
theorem ShX.Due.fill_oldTicks {sh : ShX} {n : Nat} (d : sh.Due n) :
    (sh.fill sh.oldTicks).Due ((sh.fill sh.oldTicks).tick + 1) := by
  rw [ShX.due_fill, ShX.fill_tick]
  exact ⟨d.1, by unfold ShX.oldTicks; omega⟩

/-- A refill is one tick after another: those under the old values, and from the tick of the waiting values on those under
the new ones. -/
theorem ShX.refill_eq_ticks (sh : ShX) (n : Nat) : sh.refill n = sh.ticks (n - sh.tick) := by
  by_cases past : n ≤ sh.tick
  · rw [ShX.refill_past past, Nat.sub_eq_zero_of_le past, ShX.ticks]
  have ahead : sh.tick + (n - sh.tick) = n := by omega
  by_cases d : sh.Due n
  · obtain ⟨k, hk⟩ : ∃ k, sh.oldTicks + (k + 1) = n - sh.tick :=
      ⟨n - sh.tick - sh.oldTicks - 1, by have reached := d.2; unfold ShX.oldTicks; omega⟩
    calc sh.refill n = (sh.fill sh.oldTicks).apply.fill (k + 1) := ShX.refill_due d (by omega)
      _ = (sh.ticks sh.oldTicks).ticks (k + 1) := by rw [ShX.ticks_oldTicks, ShX.ticks_due d.fill_oldTicks]
      _ = sh.ticks (n - sh.tick) := by rw [← ShX.ticks_add, hk]
  · rw [ShX.refill_not_due (Nat.not_le.mp past) d, ShX.ticks_not_due (ahead.symm ▸ d)]

/-- The tick as the procedure writes it, with the value of a token written out. -/
theorem ShX.tickOnce_eq (sh : ShX) : sh.tickOnce =
    (let a : ShX := { sh with tick := sh.tick + 1 }
     let b : ShX := if a.pend = true ∧ a.pendTick ≤ a.tick then a.apply else a
     { b with tok := min (b.tok + (b.rate * 1000 : Nat)) (b.burst * 8000000 : Nat) }) := by
  simp only [ShX.tickOnce, Bool.and_eq_true, decide_eq_true_eq]

/-- Settles O32: the closed form of `ShX.refill` agrees with the ticks in turn, and SHAPER_TICK refills by it. -/
theorem shaperRefill : Obligations.ShaperRefill := by
  unfold Obligations.ShaperRefill
  refine ⟨ShX.tickOnce_eq, fun sh => ⟨rfl, sh.ticks_succ⟩, ShX.refill_eq_ticks, fun s hrun => ?_⟩
  refine ⟨shaperTick s, live_running hrun, ?_, ?_, rfl, rfl⟩ <;>
    simp only [shaperTick, ShX.refill_eq_ticks, State.shTick]

/-! A shaper that starts full. -/

@[simp] theorem State.legEg_legEgSet_self (s : State) (l : Nat) (x : LegEg) : (s.legEgSet l x).legEg l = x := by
  simp [State.legEg, State.legEgSet]

@[simp] theorem State.grpSh_grpShSet_self (s : State) (g : Nat) (x : ShX) : (s.grpShSet g x).grpSh g = x := by
  simp [State.grpSh, State.grpShSet]

@[simp] theorem State.rd_grpShSet (s : State) (g : Nat) (x : ShX) (col el : Nat) :
    (s.grpShSet g x).rd col el = s.rd col el := rfl

@[simp] theorem State.legEg_wr (s : State) (col el v l : Nat) : (s.wr col el v).legEg l = s.legEg l := rfl

@[simp] theorem State.shTick_wr (s : State) (col el v : Nat) : (s.wr col el v).shTick = s.shTick := rfl

@[simp] theorem State.shTick_legUpd (s : State) (l : Nat) (f : LegX → LegX) : (s.legUpd l f).shTick = s.shTick := rfl

@[simp] theorem State.rd_legUpd (s : State) (l : Nat) (f : LegX → LegX) (col el : Nat) :
    (s.legUpd l f).rd col el = s.rd col el := rfl

theorem State.legShStart_sh (s : State) (l : Nat) :
    ((s.legShStart l).legEg l).sh = ShX.full s.shTick (s.rd Shp.RATE l) (s.rd Shp.BURST l) := by
  simp [State.legShStart]

/-- What ACTIVATE of a wired leg starts its shaper with. -/
theorem legActivate_wired {s : State} {l : Nat} (hstate : s.rd Leg.STATE l = 1) (hkeys : s.rd Leg.KEYS l = 3)
    (htuple : s.tupleTaken l = false) (hversion : s.oneVersion l = true) (hwired : s.radio l = false) :
    ∃ t, legActivate l s = .ok t ∧
      (t.legEg l).sh = ShX.full s.shTick (s.rd Shp.RATE l) (s.rd Shp.BURST l) := by
  have active (col : Nat) (h : col ≠ Leg.STATE) : (s.wr Leg.STATE l 2).rd col l = s.rd col l :=
    State.rd_wr_ne _ _ _ _ _ _ (.inl h)
  have wired (f : LegX → LegX) : ((s.wr Leg.STATE l 2).legUpd l f).radio l = false := by
    rw [State.radio, State.rd_legUpd, active _ (by decide)]
    exact hwired
  unfold legActivate
  simp only [hstate, hkeys, htuple, hversion, hwired, wired]
  refine ⟨_, rfl, ?_⟩
  simp [State.legShStart_sh, active Shp.RATE (by decide), active Shp.BURST (by decide)]

/-- OPEN of a FREE group is granted to every host, and starts its shaper. -/
theorem legGroupCmd_open {s : State} {h g : Nat} (hfree : s.rd LegGrp.STATE g = 0) :
    legGroupCmd h g 1 s = .ok (((s.wr LegGrp.STATE g 1).wr LegGrp.OWNER g h).grpShSet g
      (ShX.full s.shTick (s.rd LegGrp.RATE g) (s.rd LegGrp.BURST g))) := by
  have kept (col : Nat) (hs : col ≠ LegGrp.STATE) (ho : col ≠ LegGrp.OWNER) :
      ((s.wr LegGrp.STATE g 1).wr LegGrp.OWNER g h).rd col g = s.rd col g := by
    rw [State.rd_wr_ne _ _ _ _ _ _ (.inl ho), State.rd_wr_ne _ _ _ _ _ _ (.inl hs)]
  have seen : s.groupSeen h g = true := by simp [State.groupSeen, hfree]
  simp [legGroupCmd, seen, hfree, kept LegGrp.RATE (by decide) (by decide), kept LegGrp.BURST (by decide) (by decide)]

/-- Settles O33: both commands are granted, and each starts its shaper by `ShX.full`. -/
theorem shapersStartFull : Obligations.ShapersStartFull := by
  unfold Obligations.ShapersStartFull
  constructor
  · intro s h l acc hstate hkeys ⟨htuple, hversion, hwired⟩
    obtain ⟨t, granted, full⟩ := legActivate_wired hstate hkeys htuple hversion hwired
    exact ⟨_, live_hostWrite_ok acc (by decide) granted, full⟩
  · intro s h g acc hfree
    refine ⟨_, live_hostWrite_ok acc (by decide) (legGroupCmd_open hfree), ?_, ?_, ?_, rfl⟩
    · exact State.grpSh_grpShSet_self ..
    · rw [State.rd_emit, State.rd_grpShSet, State.rd_wr_ne _ _ _ _ _ _ (.inl (by decide)), State.rd_wr_self]
    · rw [State.rd_emit, State.rd_grpShSet, State.rd_wr_self]

end Sys2Proof.Machine
end

section
/-! The task scheduler (chapter 12): what a trace record changes (R286), and what an accepted descriptor becomes (R272, R274). -/

namespace Sys2Proof.Machine

variable {s t u : State}

/-! The trace. -/

/-- The objects that a trace record may change: its counts, and those of its accesses to HBM. -/
def traceCols : List Nat := [Trc.WR_INDEX, Trc.LOST] ++ requestCols

/-- From s to t the trace may have been written: the items in flight, and every object that a record does not change, are as
they were. -/
structure Traced (s t : State) : Prop where
  items : t.sch.items = s.sch.items
  objects : ∀ c, c ∉ traceCols → ∀ e, t.rd c e = s.rd c e

theorem Traced.refl (s : State) : Traced s s := ⟨rfl, fun _ _ _ => rfl⟩

theorem Traced.trans (a : Traced s t) (b : Traced t u) : Traced s u :=
  ⟨b.items.trans a.items, fun c h e => (b.objects c h e).trans (a.objects c h e)⟩

/-- A change of the internal state alone that keeps the items. -/
theorem Traced.inner (a : Traced s t) (ho : u.od = t.od) (hi : u.sch.items = t.sch.items) : Traced s u :=
  a.trans ⟨hi, fun _ _ _ => State.rd_congr ho _ _⟩

theorem Traced.bump (a : Traced s t) {c e n : Nat} (h : c ∈ traceCols) : Traced s (t.bump c e n) :=
  a.trans ⟨by simp, fun _ k _ => State.rd_bump_ne _ _ _ _ _ _ (.inl (fun x => k (x ▸ h)))⟩

/-- An access to HBM. -/
theorem PortsOnly.traced (a : PortsOnly s t) : Traced s t :=
  ⟨by rw [a.rest], fun c h e => a.objects c (fun m => h (List.mem_append_right _ m)) e⟩

theorem State.hbmWrite_traced (s : State) (req a : Nat) (bs : Bytes) : Traced s (s.hbmWrite req a bs) :=
  (touch_portsOnly s req a bs.length true none).traced.inner rfl rfl

theorem State.trcPut_traced (s : State) (kind flags ssn core cause kernel tag arg : Nat) :
    Traced s (s.trcPut kind flags ssn core cause kernel tag arg) :=
  (s.hbmWrite_traced ..).bump (by decide)

/-- Is the ring full, in MODE 1? -/
def State.trcFull (s : State) : Bool := s.rd Trc.MODE 0 == 1 && s.rd Trc.RD_INDEX 0 + s.trcCap ≤ s.rd Trc.WR_INDEX 0

/-- A record is lost. -/
def State.trcLose (s : State) : State := ({ s with sch := { s.sch with trcLost := s.sch.trcLost + 1 } } : State).bump Trc.LOST 0

/-- The LOST record after a loss, where its KIND is enabled. -/
def State.trcLostRecord (s : State) : State :=
  if bitOf (s.rd Trc.FILTER 0) 9 then s.trcPut 9 0 0 0xFF 0 0 0 (s.sch.trcLost % 2 ^ 32) else s

/-- Earlier losses are told. -/
def State.trcTellLost (s : State) : State :=
  if s.sch.trcLost = 0 then s
  else { s.trcLostRecord with sch := { s.trcLostRecord.sch with trcLost := 0 } }

/-- A decision is not recorded, or lost, or recorded after the earlier losses. -/
theorem State.trace_eq (s : State) (kind flags ssn core cause kernel tag arg : Nat) :
    s.trace kind flags ssn core cause kernel tag arg =
      if !s.on Trc.ENABLE 0 || !bitOf (s.rd Trc.FILTER 0) kind || !s.hbmUp then s
      else if s.trcFull then s.trcLose
      else if s.trcTellLost.trcFull then s.trcTellLost.trcLose
      else s.trcTellLost.trcPut kind flags ssn core cause kernel tag arg := rfl

theorem State.trcLose_traced (s : State) : Traced s s.trcLose :=
  Traced.bump (t := { s with sch := { s.sch with trcLost := s.sch.trcLost + 1 } }) ((Traced.refl s).inner rfl rfl) (by decide)

theorem State.trcTellLost_traced (s : State) : Traced s s.trcTellLost := by
  have told : Traced s s.trcLostRecord := by
    unfold State.trcLostRecord
    split
    · exact s.trcPut_traced ..
    · exact .refl s
  unfold State.trcTellLost
  split
  · exact .refl s
  · exact told.inner rfl rfl

theorem State.trace_traced (s : State) (kind flags ssn core cause kernel tag arg : Nat) :
    Traced s (s.trace kind flags ssn core cause kernel tag arg) := by
  rw [State.trace_eq]
  split
  · exact .refl s
  · split
    · exact s.trcLose_traced
    · split
      · exact s.trcTellLost_traced.trans (State.trcLose_traced _)
      · exact s.trcTellLost_traced.trans (State.trcPut_traced ..)

theorem State.traceItem_traced (s : State) (i : ItemX) (kind core cause arg : Nat) :
    Traced s (s.traceItem i kind core cause arg) :=
  s.trace_traced ..

/-! Items by name. -/

/-- Items are found by the items in flight alone. -/
theorem Traced.item? (a : Traced s t) (ssn : Nat) : t.item? ssn = s.item? ssn := by
  simp only [State.item?, a.items]

theorem State.item?_itemUpd_self {ssn : Nat} {i : ItemX} {f : ItemX → ItemX} (keeps : ∀ j, (f j).ssn = j.ssn)
    (h : s.item? ssn = some i) : (s.itemUpd ssn f).item? ssn = some (f i) := by
  have named : i.ssn = ssn := by simpa using List.find?_some h
  have sameName : ((fun j => j.ssn == ssn) ∘ fun j => if j.ssn = ssn then f j else j) = fun j : ItemX => j.ssn == ssn := by
    funext j
    simp only [Function.comp_apply]
    split <;> simp [keeps]
  have found : s.sch.items.find? (fun j => j.ssn == ssn) = some i := h
  show (s.sch.items.map fun j => if j.ssn = ssn then f j else j).find? (fun j => j.ssn == ssn) = some (f i)
  rw [List.find?_map, sameName, found, Option.map_some, if_pos named]

/-- The phase of a new item: ready with nothing to wait for, and waiting otherwise. -/
def ItemX.start (i : ItemX) : ItemX := { i with phase := if i.wait = [] then 1 else 0 }

/-- A new item is made ready exactly if it waits for nothing. -/
theorem State.makeReady_item? {ssn : Nat} {i : ItemX} (h : s.item? ssn = some i) (new : i.phase = 0) :
    (s.makeReady ssn).item? ssn = some i.start := by
  unfold State.makeReady
  simp only [h]
  by_cases free : i.wait = []
  · have ready : i.start = { i with phase := 1 } := by simp [ItemX.start, free]
    rw [if_pos (by simp [new, free]), (State.traceItem_traced ..).item?, ready]
    exact State.item?_itemUpd_self (fun _ => rfl) h
  · have waits : i.start = i := by simp [ItemX.start, free, ← new]
    rw [if_neg (by simp [free]), h, waits]

/-- Making an item ready changes no object outside the trace. -/
theorem State.rd_makeReady (s : State) (ssn : Nat) {c : Nat} (h : c ∉ traceCols) (e : Nat) :
    (s.makeReady ssn).rd c e = s.rd c e := by
  unfold State.makeReady
  split
  · dsimp only
    split
    · exact (State.traceItem_traced ..).objects c h e
    · rfl
  · rfl

/-! An accepted descriptor (R272, R274). -/

/-- The MISSING mask of a new item: the dependences satisfied as missing at its submission (R276). -/
def State.missingMask (s : State) (d : Bytes) : Nat :=
  sumOf ((List.range (ndepOf d)).map (fun j =>
    if (s.handleMet (depOf d j)).1 && (s.handleMet (depOf d j)).2 then 2 ^ j else 0))

/-- The item that an accepted descriptor becomes, as it enters: named by its SSN, it waits for its handles not yet satisfied,
each counted once. -/
def State.newcomer (s : State) (j : ItemX) : ItemX :=
  { j with
    ssn := s.rd Sch.NEXT_SSN 0
    wait := (distinct (depsOf j.desc)).filter (fun h => !(s.handleMet h).1)
    missing := s.missingMask j.desc }

/-- The item is in flight, and counted. -/
def State.takeIn (s : State) (i : ItemX) : State :=
  let s : State := { s with sch := { s.sch with items := s.sch.items ++ [i], given := s.sch.given + 1 } }
  let s := ((s.wr Sch.NEXT_SSN 0 ((i.ssn + 1) % 2 ^ 30)).bump Sch.SUBMITTED 0).bump Sch.IN_FLIGHT 0
  s.wr Sch.PEAK 0 (max (s.rd Sch.PEAK 0) (s.rd Sch.IN_FLIGHT 0))

theorem State.item?_takeIn {i : ItemX} (h : s.item? i.ssn = none) : (s.takeIn i).item? i.ssn = some i := by
  have absent : s.sch.items.find? (fun j => j.ssn == i.ssn) = none := h
  simp [State.item?, State.takeIn, List.find?_append, absent]

/-- The scheduler's internal state holds no object. -/
theorem State.rd_sch (s : State) (x : SchX) (c e : Nat) : ({ s with sch := x } : State).rd c e = s.rd c e := rfl

theorem State.nextSsn_takeIn (s : State) (i : ItemX) : (s.takeIn i).rd Sch.NEXT_SSN 0 = (i.ssn + 1) % 2 ^ 30 := by
  simp [State.takeIn, State.rd_wr, State.bump]

theorem colBits_submitted : colBits Sch.SUBMITTED = 64 := by decide
theorem colBits_inFlight : colBits Sch.IN_FLIGHT = 32 := by decide

theorem State.submitted_takeIn (s : State) (i : ItemX) :
    (s.takeIn i).rd Sch.SUBMITTED 0 = (s.rd Sch.SUBMITTED 0 + 1) % 2 ^ 64 := by
  simp [State.takeIn, State.rd_wr, State.bump, State.rd_sch, colBits_submitted]

/-- IN_FLIGHT has room for every item that may be in flight (R277). -/
theorem State.inFlight_takeIn (i : ItemX) (room : s.rd Sch.IN_FLIGHT 0 < 131072) :
    (s.takeIn i).rd Sch.IN_FLIGHT 0 = s.rd Sch.IN_FLIGHT 0 + 1 := by
  have fits : (s.rd Sch.IN_FLIGHT 0 + 1) % 2 ^ 32 = s.rd Sch.IN_FLIGHT 0 + 1 := Nat.mod_eq_of_lt (by omega)
  simpa [State.takeIn, State.rd_wr, State.bump, State.rd_sch, colBits_inFlight] using fits

/-- Nothing is missing where no handle is. -/
theorem State.missingMask_eq_zero {d : Bytes} (h : ∀ x ∈ depsOf d, (s.handleMet x).2 = false) : s.missingMask d = 0 := by
  have met (j : Nat) (hj : j ∈ List.range (ndepOf d)) : (s.handleMet (depOf d j)).2 = false :=
    h _ (List.mem_map_of_mem hj)
  have zero : ∀ x ∈ (List.range (ndepOf d)).map (fun j =>
      if (s.handleMet (depOf d j)).1 && (s.handleMet (depOf d j)).2 then 2 ^ j else 0), x = 0 := by
    intro x hx
    obtain ⟨j, hj, rfl⟩ := List.mem_map.mp hx
    simp [met j hj]
  rw [State.missingMask, sumOf, ← List.sum_eq_foldl]
  exact List.sum_eq_zero zero

section
variable {j : ItemX} (passes : s.rejects j.desc = none)
  (allowed : (depsOf j.desc).all (fun x => missingOk j.desc || !(s.handleMet x).2) = true)
include passes allowed

/-- A descriptor that passes the checks of R273, with nothing missing that it does not allow, is in flight, and ready if it
waits for nothing. -/
theorem State.accept_taken : s.accept j =
    ((s.takeIn (s.newcomer j)).traceItem (s.newcomer j) 1 0xFF 0 (s.newcomer j).wait.length).makeReady
      (s.rd Sch.NEXT_SSN 0) := by
  have kept : ¬ (s.missingMask j.desc ≠ 0 && !missingOk j.desc) = true := by
    cases ok : missingOk j.desc
    · simp [State.missingMask_eq_zero (s := s) (d := j.desc) (by simpa [ok] using allowed)]
    · simp
  unfold State.accept
  simp only [passes]
  exact if_neg kept

/-- It changes no object but those in which it is counted, outside the trace. -/
theorem State.rd_accept_taken {c : Nat} (hc : c ∉ traceCols) (e : Nat) :
    (s.accept j).rd c e = (s.takeIn (s.newcomer j)).rd c e := by
  rw [State.accept_taken passes allowed, State.rd_makeReady _ _ hc, (State.traceItem_traced ..).objects c hc]

theorem State.accept_item? (fresh : s.item? (s.rd Sch.NEXT_SSN 0) = none) (new : j.phase = 0) :
    (s.accept j).item? (s.rd Sch.NEXT_SSN 0) = some (s.newcomer j).start := by
  have entered : (s.takeIn (s.newcomer j)).item? (s.rd Sch.NEXT_SSN 0) = some (s.newcomer j) := State.item?_takeIn fresh
  rw [State.accept_taken passes allowed]
  exact State.makeReady_item? (((State.traceItem_traced ..).item? _).trans entered) new

end

/-- A submission while none is held back and there is room is taken at once. -/
theorem submit_taken {i : ItemX} (held : s.sch.held = []) (room : s.rd Sch.IN_FLIGHT 0 < 131072) :
    submit i s = s.accept i := by
  have full : ¬ 131072 ≤ s.rd Sch.IN_FLIGHT 0 := Nat.not_le.mpr room
  have emptied : ({ s with sch := { s.sch with held := [] } } : State) = s := by rw [← held]
  simp only [submit, State.pumpAll, held, List.nil_append, List.length_singleton, State.pump, State.rd_sch, if_neg full, emptied]

theorem exec_submit_taken (d : Bytes) (g nd : Nat) (pk : List Nat) (eg : Nat) (hrun : s.running = true)
    (held : s.sch.held = []) (room : s.rd Sch.IN_FLIGHT 0 < 131072) :
    exec (.submit d g nd pk eg) s = .next (s.accept (newItem d g nd pk eg)) :=
  (live_running hrun).trans (congrArg _ (submit_taken held room))

/-- Settles O50: the item enters as `State.newcomer` gives it, and `State.makeReady` decides on its counter alone. -/
theorem dependenceCounter : Obligations.DependenceCounter := by
  unfold Obligations.DependenceCounter
  intro s d g nd eg pk hrun ⟨held, room⟩ passes fresh allowed
  have counted {c : Nat} (hc : c ∉ traceCols) := State.rd_accept_taken (j := newItem d g nd pk eg) passes allowed hc 0
  refine ⟨_, exec_submit_taken d g nd pk eg hrun held room, _, State.accept_item? passes allowed fresh rfl,
    rfl, rfl, rfl, rfl, rfl, rfl, rfl, ?_, ?_, ?_⟩
  · rw [counted (by decide), State.nextSsn_takeIn]
    rfl
  · rw [counted (by decide), State.submitted_takeIn]
  · rw [counted (by decide), State.inFlight_takeIn _ room]

end Sys2Proof.Machine
end

section
/-! The tracking pass of HBM (chapter 16): what the pass moves (R366), and what becomes of a pseudo-channel whose delays would
pass TRACK_LIMIT (R364, R367). -/

namespace Sys2Proof.Machine

variable {s : State} {i : Nat}

/-! The internal state of a pseudo-channel. -/

@[simp] theorem State.rd_pcUpd (s : State) (i : Nat) (f : PcX → PcX) (col el : Nat) :
    (s.pcUpd i f).rd col el = s.rd col el := State.rd_congr rfl col el

@[simp] theorem State.pcX_pcUpd_self (s : State) (i : Nat) (f : PcX → PcX) : (s.pcUpd i f).pcX i = f (s.pcX i) := by
  simp [State.pcX, State.pcUpd, Tbl.get_upd]

theorem State.pcX_congr {s t : State} (h : s.mem = t.mem) (i : Nat) : s.pcX i = t.pcX i := by
  simp only [State.pcX, h]

/-- What an event raises is told against the records before it alone. -/
theorem Raised.congr_ev {s u t : State} {code unit args : Nat} (h : s.ev = u.ev) (r : Raised s t code unit args) :
    Raised u t code unit args := by
  unfold Raised at r ⊢
  rwa [← h]

/-! A pseudo-channel becomes DEGRADED (R364). -/

/-- The objects of a pseudo-channel as they stand once it is DEGRADED, before the event is raised. -/
def State.markDegraded (s : State) (i cause : Nat) : State :=
  ((s.wr Pc.STATE i 1).wr Pc.CAUSE i cause).wr Hbm.DEGRADED 0 (s.rd Hbm.DEGRADED 0 ||| 2 ^ i)

theorem State.degrade_inService (h : s.rd Pc.STATE i = 0) (cause : Nat) :
    s.degrade i cause = (s.markDegraded i cause).raise Ev.HBM_PC_DEGRADED i toPlatform cause := by
  unfold State.degrade
  exact if_neg (not_not_intro h)

/-- The objects that a pseudo-channel's degradation writes itself. -/
def degradeCols : List Nat := [Pc.STATE, Pc.CAUSE, Hbm.DEGRADED]

theorem State.rd_markDegraded (s : State) (i cause : Nat) {col : Nat} (h : col ∉ degradeCols) (el : Nat) :
    (s.markDegraded i cause).rd col el = s.rd col el := by
  simp only [degradeCols, List.mem_cons, List.not_mem_nil, or_false, not_or] at h
  obtain ⟨hstate, hcause, hmask⟩ := h
  simp only [State.markDegraded, State.rd_wr, hstate, hcause, hmask, false_and, if_false]

section
variable (h : s.rd Pc.STATE i = 0) (cause : Nat)
include h

@[simp] theorem State.degrade_mem : (s.degrade i cause).mem = s.mem := by
  rw [State.degrade_inService h, State.raise_mem]
  rfl

theorem State.state_degrade : (s.degrade i cause).rd Pc.STATE i = 1 := by
  rw [State.degrade_inService h, State.rd_raise _ _ _ _ _ _ _ (by decide)]
  simp [State.markDegraded, State.rd_wr]

theorem State.cause_degrade : (s.degrade i cause).rd Pc.CAUSE i = cause := by
  rw [State.degrade_inService h, State.rd_raise _ _ _ _ _ _ _ (by decide)]
  simp [State.markDegraded, State.rd_wr]

theorem State.degradedMask_degrade :
    (s.degrade i cause).rd Hbm.DEGRADED 0 = s.rd Hbm.DEGRADED 0 ||| 2 ^ i := by
  rw [State.degrade_inService h, State.rd_raise _ _ _ _ _ _ _ (by decide)]
  simp [State.markDegraded]

/-- Degradation changes no object but the three and the counts of records. -/
theorem State.rd_degrade {col : Nat} (hd : col ∉ degradeCols) (he : col ∉ eventCols) (el : Nat) :
    (s.degrade i cause).rd col el = s.rd col el := by
  rw [State.degrade_inService h, State.rd_raise _ _ _ _ _ _ _ he, State.rd_markDegraded _ _ _ hd]

theorem State.raised_degrade (up : s.hbmUp = true) : Raised s (s.degrade i cause) Ev.HBM_PC_DEGRADED i cause := by
  have markedUp : (s.markDegraded i cause).hbmUp = true := by
    simpa only [State.hbmUp, State.rd_markDegraded s i cause (col := Hbm.IN_SERVICE) (by decide)] using up
  rw [State.degrade_inService h]
  exact (State.raise_raised _ _ _ _ _ markedUp (by decide)).congr_ev rfl

end

/-! The pass itself (R366). -/

/-- Does a tracking pass act on pseudo-channel i now: the device is ACTIVE and out of self-refresh, the pseudo-channel is in
service or DEGRADED, and its latest pass, if it had one, is 100 ms old (R366)? -/
structure State.Tracks (s : State) (i : Nat) : Prop where
  active : s.rd Pwr.PSTATE 0 = 0
  awake : s.mem.selfRefresh = false
  inMap : s.rd Pc.STATE i ≤ 1
  due : ∀ c, (s.pcX i).trackAt = some c → 100 * cycMs ≤ s.since c

/-- Out of self-refresh with no pass yet, the pass is due at once. -/
theorem State.Tracks.of_first (ready : s.rd Pwr.PSTATE 0 = 0 ∧ s.mem.selfRefresh = false ∧ s.rd Pc.STATE i ≤ 1)
    (first : (s.pcX i).trackAt = none) : s.Tracks i := by
  obtain ⟨active, awake, inMap⟩ := ready
  exact ⟨active, awake, inMap, by simp [first]⟩

/-- The state once the pass has set the delays of pseudo-channel i to a drift. -/
def State.setDrift (s : State) (i drift : Nat) : State :=
  (s.pcUpd i (fun x => { x with trackAt := some s.phys })).wr Pc.DRIFT i drift

@[simp] theorem State.drift_setDrift (s : State) (i d : Nat) : (s.setDrift i d).rd Pc.DRIFT i = d := State.rd_wr_self ..

/-- Setting the delays changes no object but DRIFT. -/
theorem State.rd_setDrift (s : State) (i d : Nat) {col : Nat} (h : col ≠ Pc.DRIFT) (el : Nat) :
    (s.setDrift i d).rd col el = s.rd col el := by
  rw [State.setDrift, State.rd_wr_ne _ _ _ _ _ _ (.inl h), State.rd_pcUpd]

@[simp] theorem State.trackAt_setDrift (s : State) (i d : Nat) : ((s.setDrift i d).pcX i).trackAt = some s.phys := by
  rw [State.setDrift, State.pcX_congr (State.wr_mem ..), State.pcX_pcUpd_self]

@[simp] theorem State.setDrift_ev (s : State) (i d : Nat) : (s.setDrift i d).ev = s.ev := rfl

@[simp] theorem State.setDrift_out (s : State) (i d : Nat) : (s.setDrift i d).out = s.out := rfl

/-- A pass that acts moves the delays one step, no further than TRACK_LIMIT, and degrades the pseudo-channel if the step
would have passed it. -/
theorem trackingPass_tracks (a : s.Tracks i) (drift : Nat) :
    trackingPass i drift s =
      if s.rd Hbm.TRACK_LIMIT 0 < stepTo (s.rd Pc.DRIFT i) drift then
        (s.setDrift i (min (stepTo (s.rd Pc.DRIFT i) drift) (s.rd Hbm.TRACK_LIMIT 0))).degrade i 5
      else s.setDrift i (min (stepTo (s.rd Pc.DRIFT i) drift) (s.rd Hbm.TRACK_LIMIT 0)) := by
  obtain ⟨active, awake, inMap, due⟩ := a
  have inMap : ¬ 1 < s.rd Pc.STATE i := Nat.not_lt.mpr inMap
  unfold trackingPass
  cases h : (s.pcX i).trackAt with
  | none => simp [active, awake, inMap, State.setDrift]
  | some c => simp [active, awake, inMap, due c h, State.setDrift]

theorem trackingPass_within {drift : Nat} (a : s.Tracks i)
    (within : stepTo (s.rd Pc.DRIFT i) drift ≤ s.rd Hbm.TRACK_LIMIT 0) :
    trackingPass i drift s = s.setDrift i (stepTo (s.rd Pc.DRIFT i) drift) := by
  rw [trackingPass_tracks a, if_neg (Nat.not_lt.mpr within), Nat.min_eq_left within]

theorem trackingPass_beyond {drift : Nat} (a : s.Tracks i)
    (beyond : s.rd Hbm.TRACK_LIMIT 0 < stepTo (s.rd Pc.DRIFT i) drift) :
    trackingPass i drift s = (s.setDrift i (s.rd Hbm.TRACK_LIMIT 0)).degrade i 5 := by
  rw [trackingPass_tracks a, if_pos beyond, Nat.min_eq_right (Nat.le_of_lt beyond)]

theorem exec_trackingPass (i : Fin 64) (drift : Nat) (hrun : s.running = true) :
    exec (.trackingPass i drift) s = .next (trackingPass i drift s) :=
  live_running hrun

/-- Settles O58: the pass sets the delays, and past TRACK_LIMIT the rule of R364 follows on that state. -/
theorem driftIsLimited : Obligations.DriftIsLimited := by
  unfold Obligations.DriftIsLimited
  constructor
  · intro s i d hrun ready first within
    have tracks : s.Tracks i := .of_first ready first
    refine ⟨_, exec_trackingPass i d hrun, ?_⟩
    rw [trackingPass_within tracks within]
    exact ⟨State.drift_setDrift .., State.trackAt_setDrift .., State.rd_setDrift _ _ _ (by decide) _,
      State.setDrift_ev .., State.setDrift_out ..⟩
  · intro s i d ⟨hrun, up⟩ ⟨active, awake, inService⟩ first beyond
    have tracks : s.Tracks i := .of_first ⟨active, awake, by omega⟩ first
    have kept {col : Nat} (h : col ≠ Pc.DRIFT) (el : Nat) :
        (s.setDrift i (s.rd Hbm.TRACK_LIMIT 0)).rd col el = s.rd col el := State.rd_setDrift _ _ _ h el
    have healthy : (s.setDrift i (s.rd Hbm.TRACK_LIMIT 0)).rd Pc.STATE i = 0 := (kept (by decide) _).trans inService
    have stillUp : (s.setDrift i (s.rd Hbm.TRACK_LIMIT 0)).hbmUp = true := by
      rwa [State.hbmUp, kept (by decide)]
    refine ⟨_, exec_trackingPass i d hrun, ?_⟩
    rw [trackingPass_beyond tracks beyond]
    refine ⟨?_, ?_, State.state_degrade healthy 5, State.cause_degrade healthy 5, ?_, ?_⟩
    · rw [State.rd_degrade healthy 5 (by decide) (by decide), State.drift_setDrift]
    · rw [State.pcX_congr (State.degrade_mem healthy 5), State.trackAt_setDrift]
    · rw [State.degradedMask_degrade healthy, kept (by decide)]
    · exact (State.raised_degrade healthy 5 stillUp).congr_ev (State.setDrift_ev ..)

end Sys2Proof.Machine
end
